-- ==== Sys2Proof/Word.lean ====
section
/-! DEFINITION. The words of the model: payload bytes. Mount times, durations and counts are `Nat`,
positions and velocities are `Int` (limited to 32 bits by the rules that say so). -/

namespace Sys2Proof

/-- One byte of a frame's payload (R16). -/
abbrev Byte := BitVec 8

end Sys2Proof
end

