-- ==== Sys2Proof/Config.lean ====
section
/-! DEFINITION. What is fixed for every Capodra 3200 and is no configuration item, and the free values:
constants without a body, of which nothing can be proved beyond what holds of every value. -/

namespace Sys2Proof.Config

/-- F, one full turn, in pu (R66). -/
def fullTurn : Int := 1327104000

/-- The value at which mount time holds (R1). -/
def timeMax : Nat := 281474976710655

/-- One second in µs. -/
def second : Nat := 1000000

/-- Half a second in µs, the judging point of R6 and R8. -/
def halfSecond : Nat := 500000

/-- The largest second number a TIME frame may carry (R11). -/
def secondMax : Nat := 281474976

/-- Entries of the transmit queue (R28). -/
def queueCapacity : Nat := 8

/-- Records of the pending queue (R47). -/
def pendingCapacity : Nat := 32

/-- Entries of the segment pool (R49). -/
def poolSize : Nat := 128

/-- Entries of the trace ring (R168). -/
def ringCapacity : Nat := 256

/-- Entries recorded after the trigger under STOP_ON (R168). -/
def postTriggerCount : Nat := 64

/-- The top of the 16-bit counters that hold (R22, R29, R31). -/
def counterMax : Nat := 65535

/-- The farthest a regain edge may lie from its whole second, in µs (R8). -/
def regainWindow : Nat := 2000

/-- The largest amount of one correction second (R10). -/
def correctionMax : Int := 100

/-- The longest segment, in µs (R46, R54). -/
def spanMax : Nat := 1073741824

/-- How far ahead an ABANDON names its epoch, in µs (R113). -/
def abandonLead : Nat := 20000

/-- FREE VALUE (log 6). What STATUS page 0, a prediction or a slew start finds as the last setpoint sent
while none has been sent (R157 "none"). The argument numbers the draws. -/
opaque unsentSetpoint : Nat → BitVec 32

/-- FREE VALUE (log 1). The encoder's reply at a tick that falls on an empty queue; `none` is a failed
sample. The argument numbers the draws. -/
opaque encoderSample : Nat → Option (BitVec 32)

/-- FREE VALUE (log 7). The seq field of the refusal event of a PLAN_HEAD payload whose length is wrong. -/
opaque malformedHeaderSeq : List Byte → BitVec 16

/-- FREE VALUE (log 8). A position clamped to [lo, hi] where lo is above hi; arguments lo, hi, position. -/
opaque clampInverted : Int → Int → Int → BitVec 32

/-- FREE VALUE (log 9). The reason of a stall to which no row of R110 applies; the argument numbers the draws. -/
opaque unstatedStallReason : Nat → BitVec 32

/-- FREE VALUE (log 36). The value field of ARRIVAL_LATE when M′ - M passes 32 bits; the argument is M′ - M. -/
opaque overlongLateness : Nat → BitVec 32

/-- FREE VALUE (log 42). The epoch field of an ABANDON whose epoch lies past the top of mount time; the argument is the
epoch. -/
opaque overlongEpoch : Nat → BitVec 48

end Sys2Proof.Config
end

