-- ==== Sys2Proof/Syntax.lean ====
section
/-! DEFINITION. The commands of the block: one constructor of `Instr` per row of spec/opcode_table.json, with
the operands that reach the controller from outside at that event. -/

namespace Sys2Proof

/-- The sixteen values of a frame's class field (R18). -/
inductive FrameClass where
  | hold | roll | propose | abandon | guide | time | command | config | planHead | planSeg
  | event | status | traceData | unknown13 | unknown14 | unknown15
deriving DecidableEq, Repr

/-- A frame from its class field to the end of its payload (R16, fields 2 to 6); the length field is the
payload's length. -/
structure Frame where
  cls : FrameClass
  sender : BitVec 4
  dest : BitVec 8
  payload : List Byte
deriving DecidableEq, Repr

/-- The header fields of a frame heard intact, beside its class and length (R16, fields 3 and 4). -/
structure Origin where
  sender : BitVec 4
  dest : BitVec 8
deriving DecidableEq, Repr

/-- What the encoder answers at a tick (R162): a position, or one of the three ways in which a sample fails. -/
inductive EncoderReply where
  | position (p : BitVec 32)
  | noReply
  | badCheck
  | errorIndication
deriving DecidableEq, Repr

/-- What the medium carried while an attempt was in progress (R19, R21): a frame heard intact through its end
mark, or a frame that failed its check or its framing. -/
inductive MediumResult where
  | heard (f : Frame)
  | damaged
deriving DecidableEq, Repr

/-- The classes the controller does not know (R18). -/
inductive UnknownClass where
  | class13 | class14 | class15
deriving DecidableEq, Repr

/-- The classes the controller sends and never takes (R23). -/
inductive ReportClass where
  | event | status | traceData
deriving DecidableEq, Repr

/-- A command code that names no command: 0 or 11 to 255 (R41). -/
abbrev UnknownCode := { c : BitVec 8 // c = 0 ∨ 11 ≤ c.toNat }

/-- The commands of the block. A constructor of a frame heard carries the frame's origin and its payload
bytes; a constructor of the COMMAND class carries the payload bytes that follow the command code, which the
row itself fixes. -/
inductive Instr where
  /-- HARD_RESET: the straps as read at this reset (R172). -/
  | hardReset (address : BitVec 4) (role : BitVec 3)
  /-- PPS_EDGE: a leading edge at this instant (R3). -/
  | ppsEdge
  /-- UNIT_CORRECTION: the microsecond in which a unit correction falls (R10). -/
  | unitCorrection
  /-- CORRECTION_SECOND_END (R10). -/
  | correctionSecondEnd
  /-- EXPECTED_SECOND_JUDGEMENT (R6). -/
  | expectedSecondJudgement
  /-- REGAIN_RUN_MISS (R8). -/
  | regainRunMiss
  /-- LINK_SECOND_CLOSE (R15). -/
  | linkSecondClose
  /-- SERVO_TICK: the encoder's reply at this tick (R158, R162). -/
  | servoTick (reply : EncoderReply)
  /-- DRIVE_FAULT_ASSERTED (R135). -/
  | driveFaultAsserted
  /-- DRIVE_FAULT_DEASSERTED (R132). -/
  | driveFaultDeasserted
  /-- EMERGENCY_STOP_ASSERTED (R135). -/
  | emergencyStopAsserted
  /-- EMERGENCY_STOP_DEASSERTED (R144). -/
  | emergencyStopDeasserted
  /-- HOLD_REPEAT (R140). -/
  | holdRepeat
  /-- ATTEMPT_START: the medium is idle and no start mark is being received (R19). -/
  | attemptStart
  /-- ATTEMPT_END: what the medium carried during the attempt (R21). -/
  | attemptEnd (result : MediumResult)
  /-- TX_DEADLINE (R31). -/
  | txDeadline
  /-- DAMAGED_FRAME: whether the damage was found after an intact check word (R22). -/
  | damagedFrame (afterCheckWord : Bool)
  /-- UNKNOWN_CLASS_FRAME (R18). -/
  | unknownClassFrame (c : UnknownClass) (o : Origin) (payload : List Byte)
  /-- REPORT_FRAME_HEARD (R23). -/
  | reportFrameHeard (c : ReportClass) (o : Origin) (payload : List Byte)
  /-- RESPONSE_FIELD_REPORT: bit n is the slot of station n (R26). -/
  | responseFieldReport (slots : BitVec 15)
  /-- HOLD (R137). -/
  | hold (o : Origin) (payload : List Byte)
  /-- GO_ROLL: a ROLL frame of verdict GO (R105). -/
  | goRoll (o : Origin) (payload : List Byte)
  /-- SKIP_ROLL: a ROLL frame of verdict SKIP (R106). -/
  | skipRoll (o : Origin) (payload : List Byte)
  /-- PROPOSE (R103). -/
  | propose (o : Origin) (payload : List Byte)
  /-- ABANDON (R114). -/
  | abandon (o : Origin) (payload : List Byte)
  /-- GUIDE (R125). -/
  | guide (o : Origin) (payload : List Byte)
  /-- TIME_SET: a TIME frame (R11). -/
  | timeSet (o : Origin) (payload : List Byte)
  /-- CONFIG_ITEM: a CONFIG frame (R174). -/
  | configItem (o : Origin) (payload : List Byte)
  /-- PLAN_HEAD (R50). -/
  | planHead (o : Origin) (payload : List Byte)
  /-- PLAN_SEG (R54). -/
  | planSeg (o : Origin) (payload : List Byte)
  /-- INTAKE_TIMEOUT (R58). -/
  | intakeTimeout
  /-- COMMAND_UNKNOWN_CODE: no code (length 0), or a code that names no command and the bytes after it (R41). -/
  | commandUnknownCode (o : Origin) (code : Option UnknownCode) (args : List Byte)
  /-- START, code 1 (R177). -/
  | start (o : Origin) (args : List Byte)
  /-- GO, code 2 (R97). -/
  | go (o : Origin) (args : List Byte)
  /-- BREAK, code 3 (R146). -/
  | breakIn (o : Origin) (args : List Byte)
  /-- RETURN, code 4 (R150). -/
  | returnTo (o : Origin) (args : List Byte)
  /-- OFFSET, code 5 (R124). -/
  | offset (o : Origin) (args : List Byte)
  /-- PLAN_CLEAR, code 6 (R59). -/
  | planClear (o : Origin) (args : List Byte)
  /-- RESTART, code 7 (R178). -/
  | restart (o : Origin) (args : List Byte)
  /-- STATUS_REQ, code 8 (R179). -/
  | statusReq (o : Origin) (args : List Byte)
  /-- TRACE_SET, code 9 (R170). -/
  | traceSet (o : Origin) (args : List Byte)
  /-- TRACE_READ, code 10 (R171). -/
  | traceRead (o : Origin) (args : List Byte)
  /-- PENDING_TRIGGER_EPOCH (R97). -/
  | pendingTriggerEpoch
  /-- OWN_OUTCOME (R104). -/
  | ownOutcome
  /-- ROUND_RESULT (R108). -/
  | roundResult
  /-- BRAKE_TIMER_EXPIRY (R161). -/
  | brakeTimerExpiry
  /-- ARRIVAL (R111). -/
  | arrival
  /-- DWELL_START (R111). -/
  | dwellStart
  /-- DWELL_END (R112). -/
  | dwellEnd
  /-- ABANDON_EPOCH (R115). -/
  | abandonEpoch
deriving DecidableEq, Repr

/-- The command code of a row of the COMMAND class (3.6), `none` for every other row. -/
def Instr.commandCode : Instr → Option Byte
  | .start _ _ => some 1
  | .go _ _ => some 2
  | .breakIn _ _ => some 3
  | .returnTo _ _ => some 4
  | .offset _ _ => some 5
  | .planClear _ _ => some 6
  | .restart _ _ => some 7
  | .statusReq _ _ => some 8
  | .traceSet _ _ => some 9
  | .traceRead _ _ => some 10
  | .commandUnknownCode _ (some c) _ => some c.val
  | _ => none

/-- The frame that a command of a frame heard stands for (R16), `none` where the command is no frame. -/
def Instr.frame? : Instr → Option Frame
  | .unknownClassFrame .class13 o p => some ⟨.unknown13, o.sender, o.dest, p⟩
  | .unknownClassFrame .class14 o p => some ⟨.unknown14, o.sender, o.dest, p⟩
  | .unknownClassFrame .class15 o p => some ⟨.unknown15, o.sender, o.dest, p⟩
  | .reportFrameHeard .event o p => some ⟨.event, o.sender, o.dest, p⟩
  | .reportFrameHeard .status o p => some ⟨.status, o.sender, o.dest, p⟩
  | .reportFrameHeard .traceData o p => some ⟨.traceData, o.sender, o.dest, p⟩
  | .hold o p => some ⟨.hold, o.sender, o.dest, p⟩
  | .goRoll o p => some ⟨.roll, o.sender, o.dest, p⟩
  | .skipRoll o p => some ⟨.roll, o.sender, o.dest, p⟩
  | .propose o p => some ⟨.propose, o.sender, o.dest, p⟩
  | .abandon o p => some ⟨.abandon, o.sender, o.dest, p⟩
  | .guide o p => some ⟨.guide, o.sender, o.dest, p⟩
  | .timeSet o p => some ⟨.time, o.sender, o.dest, p⟩
  | .configItem o p => some ⟨.config, o.sender, o.dest, p⟩
  | .planHead o p => some ⟨.planHead, o.sender, o.dest, p⟩
  | .planSeg o p => some ⟨.planSeg, o.sender, o.dest, p⟩
  | .commandUnknownCode o none _ => some ⟨.command, o.sender, o.dest, []⟩
  | .commandUnknownCode o (some c) a => some ⟨.command, o.sender, o.dest, c.val :: a⟩
  | .start o a => some ⟨.command, o.sender, o.dest, 1 :: a⟩
  | .go o a => some ⟨.command, o.sender, o.dest, 2 :: a⟩
  | .breakIn o a => some ⟨.command, o.sender, o.dest, 3 :: a⟩
  | .returnTo o a => some ⟨.command, o.sender, o.dest, 4 :: a⟩
  | .offset o a => some ⟨.command, o.sender, o.dest, 5 :: a⟩
  | .planClear o a => some ⟨.command, o.sender, o.dest, 6 :: a⟩
  | .restart o a => some ⟨.command, o.sender, o.dest, 7 :: a⟩
  | .statusReq o a => some ⟨.command, o.sender, o.dest, 8 :: a⟩
  | .traceSet o a => some ⟨.command, o.sender, o.dest, 9 :: a⟩
  | .traceRead o a => some ⟨.command, o.sender, o.dest, 10 :: a⟩
  | _ => none

end Sys2Proof
end

