-- ==== Sys2Proof/Machine/State.lean ====
section
/-! DEFINITION. The state of the controller, block by block (00_scope.md 0.3), as plain data, and the state
right after reset. -/

namespace Sys2Proof.Machine

/-! ### Roles and items kept per role -/

/-- The five axis roles (0.1). -/
inductive Role where
  | az | el | rot | dome | aux
deriving DecidableEq, Repr

/-- One value for each axis role. -/
structure PerRole (α : Type) where
  az : α
  el : α
  rot : α
  dome : α
  aux : α
deriving DecidableEq, Repr

/-! ### Time base (R2) -/

/-- The time states (1.3). -/
inductive TimeState where
  | free | locked | coast | lost
deriving DecidableEq, Repr

/-- A correction second in progress (R10): its start, its amount, and the unit corrections already made. -/
structure Correction where
  start : Nat
  q : Int
  done : Nat
deriving DecidableEq, Repr

/-- The state of the time base (R2). Whole seconds are held in µs. The last four fields are implied by
R5, R6 and R8, R13 and R15, and R14 (log 4, log 5). -/
structure TimeBase where
  mountTime : Nat
  timeState : TimeState
  lastCapture : Option Nat
  qualifying : Nat
  misses : Nat
  coastSeconds : Nat
  regainSecond : Option Int
  residue : Int
  correction : Option Correction
  pendingSet : Option Nat
  setTaken : Bool
  /-- The whole seconds that have had their good edge, newest first: that of the last good edge, and those before it
  that were still to be judged when it was taken (R5, R6, log 44). -/
  goodSeconds : List Int
  /-- The next whole second W whose instant W + 500,000 has not been taken (R6, R8). -/
  judgeSecond : Int
  /-- The next whole second at which the link second closes (R13, R15). -/
  nextSecond : Nat
  /-- The next multiple of TICK_PERIOD whose tick has not been taken (R14). -/
  nextTick : Nat
deriving DecidableEq, Repr

/-! ### Span port (R34) -/

/-- The link states (R32). -/
inductive LinkState where
  | clear | poor
deriving DecidableEq, Repr

/-- An entry of the transmit queue (R28); its rank is its frame's class (R18). `id` tells entries apart. -/
structure Entry where
  id : Nat
  frame : Frame
  joined : Nat
  deadline : Nat
deriving DecidableEq, Repr

/-- The attempt in progress (2.2): the copy in transmission with its check word, the entry it came from, whether that
entry was replaced meanwhile (R30), and whether its deadline was reached during the attempt (R21, log 15). -/
structure Attempt where
  entry : Nat
  frame : Frame
  checkWord : BitVec 16
  replaced : Bool
  reached : Bool
deriving DecidableEq, Repr

/-- The frame being received (R34): whether it passed the port's tests (R23), whether its owner took it, which
is whether the port drives the own slot (R25), and the number of the round a taken ROLL was taken in. -/
structure Reception where
  frame : Frame
  passed : Bool
  taken : Bool
  round : Option Nat
deriving DecidableEq, Repr

/-- The state of the Span port (R34). -/
structure SpanPort where
  queue : List Entry
  attempt : Option Attempt
  reception : Option Reception
  damaged : Nat
  txExpired : Nat
  txDropped : Nat
  linkState : LinkState
  erroredRun : Nat
  cleanRun : Nat
  erroredMark : Bool
  /-- The number the next entry gets (log 4). -/
  nextEntry : Nat
deriving DecidableEq, Repr

/-! ### Plan store (R63) -/

/-- The kinds of target records (R45). -/
inductive RecordKind where
  | planned | excursion
deriving DecidableEq, Repr

/-- A segment record (R46). -/
structure Segment where
  tStart : Nat
  span : Nat
  c0 : Int
  c1 : Int
  c2 : Int
  c3 : Int
deriving DecidableEq, Repr

/-- The own role's segments of a record, one at least, in index order (R45). -/
structure Track where
  first : Segment
  rest : List Segment
deriving DecidableEq, Repr

/-- The header fields of a record (R45, R40). -/
structure Header where
  seq : Nat
  kind : RecordKind
  windowOpen : Nat
  windowClose : Nat
  dwell : Nat
  counts : PerRole Nat
deriving DecidableEq, Repr

/-- A target record (R45). -/
structure Record where
  header : Header
  track : Track
  dwellDone : Bool
  wrapK : Option Int
deriving DecidableEq, Repr

/-- The intake record (4.4): the header, the entries reserved, the segments stored so far, and the three
items of the table. -/
structure Intake where
  header : Header
  reserved : Nat
  segments : List Segment
  nextExpected : Nat
  lastTaken : Option Nat
  start : Nat
deriving DecidableEq, Repr

/-- The state of the plan store (R63). `free` counts the free entries of the segment pool (R49). -/
structure PlanStore where
  queue : List Record
  current : Option Record
  ret : Option Record
  excursion : Option Record
  free : Nat
  intake : Option Intake
  lastAppended : Nat
  lastCommitted : Nat
deriving DecidableEq, Repr

/-! ### Round engine (R94, R95) -/

/-- The phases of OBSERVING (R111). -/
inductive Phase where
  | slew | settle | dwellWait | dwell | after
deriving DecidableEq, Repr

/-- The kinds of rounds (R96). -/
inductive RoundKind where
  | ordinary | breakRound | returnRound
deriving DecidableEq, Repr

/-- The verdicts of a proposal (R36). -/
inductive Verdict where
  | go | unreachable | noTarget | notReady
deriving DecidableEq, Repr

/-- The own outcome of a round (R104). -/
inductive OwnOutcome where
  | skip
  | go (d : Nat)
  | nothing
deriving DecidableEq, Repr

/-- An entry of the heard-proposal table (R95). -/
structure HeardProposal where
  seq : Nat
  verdict : Verdict
  d : Nat
deriving DecidableEq, Repr

/-- The round record (R95). `number` tells rounds apart (log 4); `selected` is `none` for NO_TARGET. -/
structure RoundRecord where
  number : Nat
  epoch : Nat
  kind : RoundKind
  selected : Option Nat
  verdict : Verdict
  ownD : Nat
  heard : PerRole (Option HeardProposal)
  unreachableHeard : Bool
  outcome : Option OwnOutcome
  goAsserted : Bool
  skipAsserted : Bool
  completeGo : Option Nat
  completeSkip : Bool
deriving DecidableEq, Repr

/-- The plan states (R94); the round record is held exactly while a round is in progress. -/
inductive PlanState where
  | ready
  | inRound (r : RoundRecord)
  | scheduled (r : RoundRecord)
  | observing (p : Phase)
  | waiting
  | held
deriving DecidableEq, Repr

/-- The commands that become the pending trigger (R97). -/
inductive TriggerKind where
  | go | breakIn | returnTo
deriving DecidableEq, Repr

/-- The pending trigger (R95). -/
structure Trigger where
  kind : TriggerKind
  epoch : Nat
deriving DecidableEq, Repr

/-- The abandon causes (R36). -/
inductive AbandonCause where
  | trackLost | limit
deriving DecidableEq, Repr

/-- The pending abandon (R95). -/
structure PendingAbandon where
  seq : Nat
  epoch : Nat
  cause : AbandonCause
deriving DecidableEq, Repr

/-- The dwell record (R95, R109). `started` is set when DWELL_START has been composed (R111, log 4). -/
structure DwellRecord where
  seq : Nat
  arrival : Nat
  dwellStart : Nat
  dwellEnd : Nat
  motionEnded : Bool
  started : Bool
deriving DecidableEq, Repr

/-- The state of the round engine (R95); `plan` is `none` while no plan state exists (R94). -/
structure RoundEngine where
  plan : Option PlanState
  trigger : Option Trigger
  abandon : Option PendingAbandon
  dwell : Option DwellRecord
  abandonSent : Bool
  /-- Rounds started so far, which numbers them (log 4). -/
  rounds : Nat
deriving DecidableEq, Repr

/-! ### Trajectory unit (R79, R93, R130, R139) -/

/-- An exact real number (p + q·√n)/den, for the results that R67 rounds once (log 11). -/
structure Exact where
  p : Int
  q : Int
  n : Nat
  den : Nat
deriving DecidableEq, Repr

/-- The slew profile record between S and S_m (R85, R93), with the motion budget M. -/
structure Release where
  seq : Nat
  slewStart : Nat
  motionStart : Nat
  arrival : Nat
  budget : Nat
  p0 : Int
deriving DecidableEq, Repr

/-- The slew profile record from S_m (R86): `duration` is the effective duration T in µs and `ramp` the ramp
time r in seconds (R87). -/
structure SlewProfile where
  seq : Nat
  slewStart : Nat
  motionStart : Nat
  arrival : Nat
  p0 : Int
  goal : Int
  delta : Int
  duration : Nat
  ramp : Exact
deriving DecidableEq, Repr

/-- The stop profile record (R138, R139); `stopTime` is T_s in seconds. -/
structure StopProfile where
  sp0 : Int
  v0 : Int
  t0 : Nat
  stopTime : Exact
deriving DecidableEq, Repr

/-- The motion modes (3.3), each with the record the trajectory unit holds in it. -/
inductive Motion where
  | slewing (p : SlewProfile)
  | settling
  | tracking
  | stopping (p : StopProfile)
  | standing (held : Int)
  | braked
  | releasing (r : Release)
deriving DecidableEq, Repr

/-- The state of the trajectory unit. `arrival` is the A of the last slew start (R117); `lastFeedforward` and
`lastTick` are those of the last tick handed over, the stop tick of R136 (log 12). -/
structure Trajectory where
  motion : Motion
  wrapOffset : Int
  stepL : Nat
  lag : Int
  trackSetpoint : Int
  commandedOffset : Int
  appliedOffset : Int
  pendingGuide : Int
  guideApplied : Int
  saturated : Bool
  arrival : Nat
  lastFeedforward : Int
  lastTick : Nat
deriving DecidableEq, Repr

/-! ### Hold logic (R131) -/

/-- The local hold causes (R132). -/
inductive Cause where
  | following | encoder | drive | estop | time
deriving DecidableEq, Repr

/-- The local cause set (R131): which causes persist. -/
structure CauseSet where
  following : Bool
  encoder : Bool
  drive : Bool
  estop : Bool
  time : Bool
deriving DecidableEq, Repr

/-- The state of the hold logic (R131). -/
structure HoldLogic where
  causes : CauseSet
  peerHold : Bool
  repeatTimer : Option Nat
deriving DecidableEq, Repr

/-! ### Axis interface (R157) -/

/-- The settle record (R157, R165). -/
structure SettleRecord where
  seq : Nat
  arrival : Nat
  counter : Nat
  settled : Bool
  judged : Bool
deriving DecidableEq, Repr

/-- An entry of the trace ring (R168). -/
structure TraceEntry where
  tickTime : BitVec 32
  setpoint : Int
  encoder : Int
  fe : Int
  mode : Nat
  flags : BitVec 16
deriving DecidableEq, Repr

/-- The trace modes (3.6). -/
inductive TraceMode where
  | off | free | startOn | stopOn
deriving DecidableEq, Repr

/-- The trace senses (3.6). -/
inductive TraceSense where
  | isMatch | mismatch
deriving DecidableEq, Repr

/-- The trace phases (R168), with the post-trigger count. -/
inductive TracePhase where
  | idle | armed | recording | recordingToFull
  | postTrigger (count : Nat)
  | stopped
deriving DecidableEq, Repr

/-- The trace setting (R157). -/
structure TraceSetting where
  mode : TraceMode
  mask : BitVec 16
  pattern : BitVec 16
  sense : TraceSense
deriving DecidableEq, Repr

/-- One drive link transfer (R159). -/
structure Transfer where
  enable : Bool
  setpoint : Int
  feedforward : Int
deriving DecidableEq, Repr

/-- The state of the axis interface (R157). `ring` holds the oldest entry first; `link` is the last transfer
sent (log 4). -/
structure AxisInterface where
  driveEnable : Bool
  brakeApplied : Bool
  brakeTimer : Option Nat
  lastSetpoint : Option Int
  lastEncoder : Int
  fe : Int
  failureCount : Nat
  goodRun : Nat
  tripCount : Nat
  settle : Option SettleRecord
  ring : List TraceEntry
  setting : TraceSetting
  phase : TracePhase
  link : Option Transfer
deriving DecidableEq, Repr

/-! ### Configuration block (R173) -/

/-- The life states (12.1). -/
inductive LifeState where
  | strapFault | config | run
deriving DecidableEq, Repr

/-- The straps as read at hard reset (R172). -/
structure Straps where
  address : BitVec 4
  role : BitVec 3
deriving DecidableEq, Repr

/-- The configuration items of R175; `addr` are items 1 to 5. -/
structure Items where
  addr : PerRole Nat
  addrControl : Nat
  addrGuider : Nat
  tickPeriod : Nat
  tAgree : Nat
  tPropose : Nat
  vmax : Nat
  amax : Nat
  vtrackMax : Nat
  softLo : Int
  softHi : Int
  modular : Nat
  settleWindow : Nat
  settleCount : Nat
  settleAllow : Nat
  feTrip : Nat
  feTripCount : Nat
  lagLimit : Nat
  offsetMax : Nat
  offsetStep : Nat
  guideEnable : Nat
  guideMaxStep : Nat
  guidePendingMax : Nat
  guideTotalMax : Nat
  guideStep : Nat
  holdDecel : Nat
  brakeDelay : Nat
  maxSlew : Nat
  intakeTimeout : Nat
  holdRepeat : Nat
  coastMax : Nat
  lockWindow : Nat
  eventMask : Nat
deriving DecidableEq, Repr

/-- The state of the configuration block (R173). -/
structure ConfigBlock where
  straps : Straps
  life : LifeState
  items : Items
  receivedSettle : Nat
  receivedBrake : Nat
  lastRefusal : Nat
deriving DecidableEq, Repr

/-! ### Pins -/

/-- The levels of the two input lines (0.2): `true` is asserted. -/
structure Pins where
  driveFault : Bool
  estop : Bool
deriving DecidableEq, Repr

/-! ### The whole state -/

/-- The controller, and the commands that wait, the front one first. -/
structure State where
  time : TimeBase
  port : SpanPort
  store : PlanStore
  round : RoundEngine
  traj : Trajectory
  hold : HoldLogic
  axis : AxisInterface
  conf : ConfigBlock
  pins : Pins
  /-- The free values drawn so far (log 6). -/
  freeDraws : Nat
  pending : List Instr
deriving DecidableEq, Repr

/-- The model's faults. Both mark states that no run reaches (log 26); they are safe. -/
inductive Fault where
  /-- SERVO_TICK in SETTLING or TRACKING, or BRAKE_TIMER_EXPIRY in RELEASING, with the current slot empty,
  which R118 says cannot be. Safe: the model stops. -/
  | noCurrentRecord
  /-- ROUND_RESULT of a successful round whose selected record is no longer held, which R60 says cannot be.
  Safe: the model stops. -/
  | selectedRecordMissing
deriving DecidableEq, Repr

/-- The model's refusals. -/
inductive Refusal where
  /-- A row without a meaning yet: raised by no command of this model. Safe. -/
  | notModelled (mnemonic : String)
deriving DecidableEq, Repr

/-! ### Updates -/

/-- `s` with its field `time` replaced. -/
def State.withTime (s : State) (x : TimeBase) : State := { s with time := x }

/-- `s` with its field `port` replaced. -/
def State.withPort (s : State) (x : SpanPort) : State := { s with port := x }

/-- `s` with its field `store` replaced. -/
def State.withStore (s : State) (x : PlanStore) : State := { s with store := x }

/-- `s` with its field `round` replaced. -/
def State.withRound (s : State) (x : RoundEngine) : State := { s with round := x }

/-- `s` with its field `traj` replaced. -/
def State.withTraj (s : State) (x : Trajectory) : State := { s with traj := x }

/-- `s` with its field `hold` replaced. -/
def State.withHold (s : State) (x : HoldLogic) : State := { s with hold := x }

/-- `s` with its field `axis` replaced. -/
def State.withAxis (s : State) (x : AxisInterface) : State := { s with axis := x }

/-- `s` with its field `conf` replaced. -/
def State.withConf (s : State) (x : ConfigBlock) : State := { s with conf := x }

/-- `s` with its field `pins` replaced. -/
def State.withPins (s : State) (x : Pins) : State := { s with pins := x }

/-- `s` with its field `freeDraws` replaced. -/
def State.withFreeDraws (s : State) (x : Nat) : State := { s with freeDraws := x }

/-- `s` with its field `pending` replaced. -/
def State.withPending (s : State) (x : List Instr) : State := { s with pending := x }

/-! ### Hard-reset values -/

/-- The time base after hard reset (R2). -/
def TimeBase.afterReset : TimeBase where
  mountTime := 0
  timeState := .free
  lastCapture := none
  qualifying := 0
  misses := 0
  coastSeconds := 0
  regainSecond := none
  residue := 0
  correction := none
  pendingSet := none
  setTaken := false
  goodSeconds := []
  judgeSecond := 0
  nextSecond := Config.second
  nextTick := 0

/-- The Span port after hard reset (R34). -/
def SpanPort.afterReset : SpanPort where
  queue := []
  attempt := none
  reception := none
  damaged := 0
  txExpired := 0
  txDropped := 0
  linkState := .clear
  erroredRun := 0
  cleanRun := 0
  erroredMark := false
  nextEntry := 0

/-- The plan store after hard reset (R63) and after RESTART (R64). -/
def PlanStore.afterReset : PlanStore where
  queue := []
  current := none
  ret := none
  excursion := none
  free := Config.poolSize
  intake := none
  lastAppended := 0
  lastCommitted := 0

/-- The round engine after hard reset (R95). -/
def RoundEngine.afterReset : RoundEngine where
  plan := none
  trigger := none
  abandon := none
  dwell := none
  abandonSent := false
  rounds := 0

/-- The trajectory unit after hard reset (R79, R93, R130, R139). -/
def Trajectory.afterReset : Trajectory where
  motion := .braked
  wrapOffset := 0
  stepL := 5529
  lag := 0
  trackSetpoint := 0
  commandedOffset := 0
  appliedOffset := 0
  pendingGuide := 0
  guideApplied := 0
  saturated := false
  arrival := 0
  lastFeedforward := 0
  lastTick := 0

/-- The hold logic after hard reset, by the two lines (R131). -/
def HoldLogic.afterReset (pins : Pins) : HoldLogic where
  causes :=
    { following := false, encoder := false, drive := pins.driveFault, estop := pins.estop, time := false }
  peerHold := false
  repeatTimer := none

/-- The axis interface after hard reset (R157). -/
def AxisInterface.afterReset : AxisInterface where
  driveEnable := false
  brakeApplied := true
  brakeTimer := none
  lastSetpoint := none
  lastEncoder := 0
  fe := 0
  failureCount := 0
  goodRun := 0
  tripCount := 0
  settle := none
  ring := []
  setting := { mode := .off, mask := 0, pattern := 0, sense := .isMatch }
  phase := .idle
  link := none

/-- The default of MODULAR by the strap role (R175): 1 for AZ, ROT and DOME, 0 for EL and AUX. For the unusable roles
0, 6 and 7, for which R175 gives none, it is 0: DESIGN CHOICE (log 38). -/
def modularDefault (role : BitVec 3) : Nat :=
  if role = 1 ∨ role = 3 ∨ role = 4 then 1 else 0

/-- The defaults of the configuration items (R175). -/
def Items.defaults (role : BitVec 3) : Items where
  addr := { az := 15, el := 15, rot := 15, dome := 15, aux := 15 }
  addrControl := 15
  addrGuider := 15
  tickPeriod := 1000
  tAgree := 40000
  tPropose := 15000
  vmax := 11059200
  amax := 5529600
  vtrackMax := 5529600
  softLo := -995328000
  softHi := 995328000
  modular := modularDefault role
  settleWindow := 1024
  settleCount := 50
  settleAllow := 1500000
  feTrip := 102400
  feTripCount := 10
  lagLimit := 1024000
  offsetMax := 3686400
  offsetStep := 1024
  guideEnable := 1
  guideMaxStep := 5120
  guidePendingMax := 10240
  guideTotalMax := 61440
  guideStep := 102
  holdDecel := 5529600
  brakeDelay := 250000
  maxSlew := 300000000
  intakeTimeout := 250000
  holdRepeat := 200000
  coastMax := 120
  lockWindow := 20
  eventMask := 255

/-- The life state hard reset enters by the straps it read (R172). -/
def LifeState.ofStraps (st : Straps) : LifeState :=
  if st.address = 15 ∨ st.role = 0 ∨ st.role = 6 ∨ st.role = 7 then .strapFault else .config

/-- The configuration block after hard reset (R173). -/
def ConfigBlock.afterReset (st : Straps) : ConfigBlock where
  straps := st
  life := LifeState.ofStraps st
  items := Items.defaults st.role
  receivedSettle := 1500000
  receivedBrake := 250000
  lastRefusal := 0

/-- The straps that `State.reset` reads: station address 1, role AZ (DESIGN CHOICE, log 3; unsafe). -/
def resetStraps : Straps := { address := 1, role := 1 }

/-- The levels of the two lines at `State.reset`: deasserted (DESIGN CHOICE, log 3; unsafe). -/
def resetPins : Pins := { driveFault := false, estop := false }

/-- The machine right after reset: every item at its hard-reset value, no command waiting. -/
def State.reset : State where
  time := .afterReset
  port := .afterReset
  store := .afterReset
  round := .afterReset
  traj := .afterReset
  hold := .afterReset resetPins
  axis := .afterReset
  conf := .afterReset resetStraps
  pins := resetPins
  freeDraws := 0
  pending := []

end Sys2Proof.Machine
end

