-- ==== Sys2Proof/Machine/Exact.lean ====
section
/-! DEFINITION. Exact arithmetic (R67 to R69): integers, quotients and one square root, rounded once. An `Exact`
(p + q·√n)/den with den > 0 stands for that real number; a sum, product or quotient of two is formed where both
have the same n or one of them is rational (q = 0), which is every use in this model (log 11). -/

namespace Sys2Proof.Machine

/-! ### Integers -/

/-- Saturation to the signed 32-bit range (R68). -/
def sat32 (x : Int) : Int := max (-2147483648) (min x 2147483647)

/-- Clamping to [lo, hi] for lo ≤ hi (0.5). -/
def clampInt (lo hi x : Int) : Int := max lo (min x hi)

/-- Clamping to ±b. -/
def clampAbs (b : Nat) (x : Int) : Int := clampInt (-(b : Int)) b x

/-- -1, 0 or 1 by the sign. -/
def signOf (x : Int) : Int := if 0 < x then 1 else if x < 0 then -1 else 0

/-- The smallest multiple of `step` at or above `x` (R41, R69). -/
def ceilTo (step x : Nat) : Nat := (x + step - 1) / step * step

/-- One bit of the integer square root, from bit `k - 1` down. -/
def isqrtFrom (n : Nat) : Nat → Nat → Nat
  | 0, acc => acc
  | k + 1, acc => if (acc + 2 ^ k) * (acc + 2 ^ k) ≤ n then isqrtFrom n k (acc + 2 ^ k) else isqrtFrom n k acc

/-- The largest integer whose square is at most `n`. -/
def isqrt (n : Nat) : Nat := isqrtFrom n (n.log2 / 2 + 1) 0

/-- The smallest integer whose square is at least `n`. -/
def isqrtUp (n : Nat) : Nat := if isqrt n * isqrt n = n then isqrt n else isqrt n + 1

/-! ### Exact numbers -/

namespace Exact

/-- An integer. -/
def ofInt (x : Int) : Exact := ⟨x, 0, 0, 1⟩

/-- The quotient of an integer by a positive number. -/
def ratio (x : Int) (d : Nat) : Exact := ⟨x, 0, 0, d⟩

/-- √(n)/d. -/
def root (n d : Nat) : Exact := ⟨0, 1, n, d⟩

/-- The n that both share. -/
def common (x y : Exact) : Nat := if x.q = 0 then y.n else x.n

/-- Sum. -/
def add (x y : Exact) : Exact :=
  ⟨x.p * y.den + y.p * x.den, x.q * y.den + y.q * x.den, common x y, x.den * y.den⟩

/-- Negation. -/
def neg (x : Exact) : Exact := ⟨-x.p, -x.q, x.n, x.den⟩

/-- Difference. -/
def sub (x y : Exact) : Exact := x.add y.neg

/-- Product. -/
def mul (x y : Exact) : Exact :=
  ⟨x.p * y.p + x.q * y.q * common x y, x.p * y.q + x.q * y.p, common x y, x.den * y.den⟩

/-- The norm p² - q²·n of the numerator. -/
def norm (x : Exact) : Int := x.p * x.p - x.q * x.q * x.n

/-- Quotient: multiplication by the conjugate over the norm. -/
def div (x y : Exact) : Exact :=
  let s : Int := if y.norm < 0 then -1 else 1
  ((x.mul ⟨y.p, -y.q, y.n, 1⟩).mul (ofInt (s * y.den))).mul ⟨1, 0, 0, y.norm.natAbs⟩

/-- Whether p + q·√n is negative. -/
def negNum (p q : Int) (n : Nat) : Bool :=
  if p < 0 then decide (q ≤ 0) || decide (q * q * n < p * p)
  else decide (q < 0) && decide (p * p < q * q * n)

/-- Exact comparison with an integer: `x < k`. -/
def ltInt (x : Exact) (k : Int) : Bool := negNum (x.p - k * x.den) x.q x.n

/-- Exact comparison with an integer: `k < x`. -/
def gtInt (x : Exact) (k : Int) : Bool := negNum (k * x.den - x.p) (-x.q) x.n

/-- Exact comparison of two exact numbers with a common n: `x < y`. -/
def lt (x y : Exact) : Bool := (x.sub y).ltInt 0

/-- The largest integer at or below p + q·√n. -/
def floorNum (p q : Int) (n : Nat) : Int :=
  if 0 ≤ q then p + isqrt (q.natAbs * q.natAbs * n) else p - isqrtUp (q.natAbs * q.natAbs * n)

/-- The largest integer at or below. -/
def floor (x : Exact) : Int := floorNum x.p x.q x.n / (x.den : Int)

/-- The smallest integer at or above. -/
def ceil (x : Exact) : Int := -(x.neg.floor)

/-- Nearest integer, half-way values toward +∞ (R68). -/
def nearest (x : Exact) : Int := (x.add ⟨1, 0, 0, 2⟩).floor

/-- A position or a velocity: rounded to nearest, then saturated (R68). -/
def round (x : Exact) : Int := sat32 x.nearest

/-- A duration in µs rounded up to a tick (R69). -/
def ceilTick (x : Exact) (period : Nat) : Nat := (((x.mul ⟨1, 0, 0, period⟩).ceil) * period).toNat

end Exact

end Sys2Proof.Machine
end

