-- ==== Sys2Proof/Machine/Codec.lean ====
section
/-! DEFINITION. Frames as bytes: field encoding (R35), payload layouts (3.3), the check word (R16), the order in
which frames win arbitration (R19), and the codes of classes, modes, states and causes (chapter 3). -/

namespace Sys2Proof.Machine

/-! ### Fields (R35) -/

/-- An unsigned field, most significant byte first. -/
def natOfBytes : List Byte → Nat
  | [] => 0
  | b :: bs => b.toNat * 256 ^ bs.length + natOfBytes bs

/-- The `k` bytes of an unsigned field, most significant byte first. -/
def bytesOfNat : Nat → Nat → List Byte
  | 0, _ => []
  | k + 1, v => BitVec.ofNat 8 (v / 256 ^ k) :: bytesOfNat k v

/-- A signed field in two's complement. -/
def intOfBytes (bs : List Byte) : Int :=
  if 2 * natOfBytes bs < 256 ^ bs.length then natOfBytes bs else (natOfBytes bs : Int) - 256 ^ bs.length

/-- The `k` bytes of a signed field in two's complement. -/
def bytesOfInt (k : Nat) (v : Int) : List Byte := bytesOfNat k (v % 256 ^ k).toNat

/-- The bytes of a payload from byte `at`, `size` of them (3.3). -/
def fieldBytes (payload : List Byte) (first size : Nat) : List Byte := (payload.drop first).take size

/-- An unsigned payload field. -/
def fieldU (payload : List Byte) (first size : Nat) : Nat := natOfBytes (fieldBytes payload first size)

/-- A signed payload field. -/
def fieldS (payload : List Byte) (first size : Nat) : Int := intOfBytes (fieldBytes payload first size)

/-! ### Codes -/

/-- The value of the class field, which is the rank (R18). -/
def classCode : FrameClass → Nat
  | .hold => 0
  | .roll => 1
  | .propose => 2
  | .abandon => 3
  | .guide => 4
  | .time => 5
  | .command => 6
  | .config => 7
  | .planHead => 8
  | .planSeg => 9
  | .event => 10
  | .status => 11
  | .traceData => 12
  | .unknown13 => 13
  | .unknown14 => 14
  | .unknown15 => 15

/-- The rank of a frame in the transmit queue (R18, R28): 0 is the highest. -/
def rankOf (f : Frame) : Nat := classCode f.cls

/-- The code of a verdict in a PROPOSE (R36). -/
def verdictCode : Verdict → Nat
  | .go => 0
  | .unreachable => 1
  | .noTarget => 2
  | .notReady => 3

/-- The verdict of a PROPOSE's verdict field; `none` for a code outside the list (R36). -/
def verdictOfCode : Nat → Option Verdict
  | 0 => some .go
  | 1 => some .unreachable
  | 2 => some .noTarget
  | 3 => some .notReady
  | _ => none

/-- The code of an abandon cause (R36). -/
def abandonCode : AbandonCause → Nat
  | .trackLost => 0
  | .limit => 1

/-- The cause of an ABANDON's cause field; `none` for a code outside the list (R36). -/
def abandonOfCode : Nat → Option AbandonCause
  | 0 => some .trackLost
  | 1 => some .limit
  | _ => none

/-- The code of a local hold cause (R36, R140). -/
def causeCode : Cause → Nat
  | .following => 1
  | .encoder => 2
  | .drive => 3
  | .estop => 4
  | .time => 5

/-- The kind of a PLAN_HEAD's kind field; `none` for a code outside the list (R36). -/
def kindOfCode : Nat → Option RecordKind
  | 0 => some .planned
  | 1 => some .excursion
  | _ => none

/-- The code of a motion mode (3.3). -/
def motionCode : Motion → Nat
  | .slewing _ => 0
  | .settling => 1
  | .tracking => 2
  | .stopping _ => 3
  | .standing _ => 4
  | .braked => 5
  | .releasing _ => 6

/-- The code of the plan state (R44): 15 where none exists. -/
def planCode : Option PlanState → Nat
  | some .ready => 0
  | some (.inRound _) => 1
  | some (.scheduled _) => 2
  | some (.observing _) => 3
  | some .waiting => 4
  | some .held => 5
  | none => 15

/-- The code of the OBSERVING phase (R44): 15 when the plan is not OBSERVING. -/
def phaseCode : Option PlanState → Nat
  | some (.observing .slew) => 0
  | some (.observing .settle) => 1
  | some (.observing .dwellWait) => 2
  | some (.observing .dwell) => 3
  | some (.observing .after) => 4
  | _ => 15

/-- The code of a time state (R44). -/
def timeStateCode : TimeState → Nat
  | .free => 0
  | .locked => 1
  | .coast => 2
  | .lost => 3

/-- The code of a link state (R44). -/
def linkCode : LinkState → Nat
  | .clear => 0
  | .poor => 1

/-- The code of a life state (R44). STRAP_FAULT sends no STATUS and has no code. -/
def lifeCode : LifeState → Nat
  | .strapFault => 0
  | .config => 1
  | .run => 2

/-- Bits 0 to 4 of the hold cause set (R44). -/
def causeBits (c : CauseSet) : Nat :=
  c.following.toNat + 2 * c.encoder.toNat + 4 * c.drive.toNat + 8 * c.estop.toNat + 16 * c.time.toNat

/-- The trace mode of a TRACE_SET (3.6); `none` for a code outside the list. -/
def traceModeOfCode : Nat → Option TraceMode
  | 0 => some .off
  | 1 => some .free
  | 2 => some .startOn
  | 3 => some .stopOn
  | _ => none

/-- The trace sense of a TRACE_SET (3.6); `none` for a code outside the list. -/
def traceSenseOfCode : Nat → Option TraceSense
  | 0 => some .isMatch
  | 1 => some .mismatch
  | _ => none

/-! ### Payloads received -/

/-- The fields of a PROPOSE or ROLL (3.3), the verdict as its byte. -/
structure CallFields where
  epoch : Nat
  seq : Nat
  verdict : Nat
  d : Nat
deriving DecidableEq, Repr

/-- Reading a PROPOSE or ROLL payload; `none` when malformed (R35). -/
def readCall (p : List Byte) : Option CallFields :=
  if p.length = 13 then some ⟨fieldU p 0 6, fieldU p 6 2, fieldU p 8 1, fieldU p 9 4⟩ else none

/-- The fields of a HOLD (3.3). -/
structure HoldFields where
  cause : Nat
  seq : Nat
  flags : Nat
deriving DecidableEq, Repr

/-- Reading a HOLD payload. -/
def readHold (p : List Byte) : Option HoldFields :=
  if p.length = 4 then some ⟨fieldU p 0 1, fieldU p 1 2, fieldU p 3 1⟩ else none

/-- The fields of an ABANDON (3.3), the cause as its byte. -/
structure AbandonFields where
  seq : Nat
  epoch : Nat
  cause : Nat
deriving DecidableEq, Repr

/-- Reading an ABANDON payload. -/
def readAbandon (p : List Byte) : Option AbandonFields :=
  if p.length = 9 then some ⟨fieldU p 0 2, fieldU p 2 6, fieldU p 8 1⟩ else none

/-- The fields of a GUIDE (3.3). -/
structure GuideFields where
  seq : Nat
  roles : Byte
  dAz : Int
  dEl : Int
  dRot : Int
deriving DecidableEq, Repr

/-- Reading a GUIDE payload. -/
def readGuide (p : List Byte) : Option GuideFields :=
  if p.length = 15 then
    some ⟨fieldU p 0 2, BitVec.ofNat 8 (fieldU p 2 1), fieldS p 3 4, fieldS p 7 4, fieldS p 11 4⟩
  else none

/-- Reading a TIME payload: the second number. -/
def readTime (p : List Byte) : Option Nat := if p.length = 4 then some (fieldU p 0 4) else none

/-- Reading a CONFIG payload: the item number and the value. -/
def readConfig (p : List Byte) : Option (Nat × Int) :=
  if p.length = 5 then some (fieldU p 0 1, fieldS p 1 4) else none

/-- The fields of a PLAN_HEAD (3.3), the kind as its byte. -/
structure HeadFields where
  seq : Nat
  kind : Nat
  windowOpen : Nat
  windowClose : Nat
  dwell : Nat
  counts : PerRole Nat
deriving DecidableEq, Repr

/-- Reading a PLAN_HEAD payload. -/
def readHead (p : List Byte) : Option HeadFields :=
  if p.length = 24 then
    some { seq := fieldU p 0 2, kind := fieldU p 2 1, windowOpen := fieldU p 3 6, windowClose := fieldU p 9 6,
           dwell := fieldU p 15 4,
           counts := ⟨fieldU p 19 1, fieldU p 20 1, fieldU p 21 1, fieldU p 22 1, fieldU p 23 1⟩ }
  else none

/-- The fields of a PLAN_SEG (3.3). -/
structure SegFields where
  seq : Nat
  index : Nat
  segment : Segment
deriving DecidableEq, Repr

/-- Reading a PLAN_SEG payload. -/
def readSeg (p : List Byte) : Option SegFields :=
  if p.length = 29 then
    some ⟨fieldU p 0 2, fieldU p 2 1,
      { tStart := fieldU p 3 6, span := fieldU p 9 4, c0 := fieldS p 13 4, c1 := fieldS p 17 4,
        c2 := fieldS p 21 4, c3 := fieldS p 25 4 }⟩
  else none

/-! ### Payloads sent -/

/-- A PROPOSE or ROLL payload (3.3). -/
def callPayload (c : CallFields) : List Byte :=
  bytesOfNat 6 c.epoch ++ bytesOfNat 2 c.seq ++ bytesOfNat 1 c.verdict ++ bytesOfNat 4 c.d

/-- A HOLD payload (3.3). -/
def holdPayload (h : HoldFields) : List Byte :=
  bytesOfNat 1 h.cause ++ bytesOfNat 2 h.seq ++ bytesOfNat 1 h.flags

/-- An ABANDON payload (3.3). -/
def abandonPayload (a : AbandonFields) : List Byte :=
  bytesOfNat 2 a.seq ++ bytesOfNat 6 a.epoch ++ bytesOfNat 1 a.cause

/-- A GUIDE payload (3.3), as the guider sends it. -/
def guidePayload (g : GuideFields) : List Byte :=
  bytesOfNat 2 g.seq ++ bytesOfNat 1 g.roles.toNat ++ bytesOfInt 4 g.dAz ++ bytesOfInt 4 g.dEl ++ bytesOfInt 4 g.dRot

/-- A TIME payload (3.3), as the control station sends it. -/
def timePayload (second : Nat) : List Byte := bytesOfNat 4 second

/-- A CONFIG payload (3.3), as the control station sends it. -/
def configPayload (item : Nat) (value : Int) : List Byte := bytesOfNat 1 item ++ bytesOfInt 4 value

/-- A PLAN_HEAD payload (3.3), as the control station sends it. -/
def headPayload (h : HeadFields) : List Byte :=
  bytesOfNat 2 h.seq ++ bytesOfNat 1 h.kind ++ bytesOfNat 6 h.windowOpen ++ bytesOfNat 6 h.windowClose ++
    bytesOfNat 4 h.dwell ++ bytesOfNat 1 h.counts.az ++ bytesOfNat 1 h.counts.el ++ bytesOfNat 1 h.counts.rot ++
    bytesOfNat 1 h.counts.dome ++ bytesOfNat 1 h.counts.aux

/-- A PLAN_SEG payload (3.3), as the control station sends it. -/
def segPayload (g : SegFields) : List Byte :=
  bytesOfNat 2 g.seq ++ bytesOfNat 1 g.index ++ bytesOfNat 6 g.segment.tStart ++ bytesOfNat 4 g.segment.span ++
    bytesOfInt 4 g.segment.c0 ++ bytesOfInt 4 g.segment.c1 ++ bytesOfInt 4 g.segment.c2 ++ bytesOfInt 4 g.segment.c3

/-- An EVENT payload (3.3). -/
def eventPayload (category code seq : Nat) (value : BitVec 32) : List Byte :=
  bytesOfNat 1 category ++ bytesOfNat 1 code ++ bytesOfNat 2 seq ++ bytesOfNat 4 value.toNat

/-- A TRACE_DATA payload (3.3). -/
def tracePayload (index : Nat) (e : TraceEntry) : List Byte :=
  bytesOfNat 1 index ++ bytesOfNat 4 e.tickTime.toNat ++ bytesOfInt 4 e.setpoint ++ bytesOfInt 4 e.encoder ++
    bytesOfInt 4 e.fe ++ bytesOfNat 1 e.mode ++ bytesOfNat 2 e.flags.toNat

/-! ### The check word and arbitration -/

/-- Fields 2 to 6 of a frame as bytes in transmission order (R16): class and sender share the first byte. -/
def frameBytes (f : Frame) : List Byte :=
  BitVec.ofNat 8 (16 * classCode f.cls + f.sender.toNat) :: f.dest :: BitVec.ofNat 8 f.payload.length :: f.payload

/-- One bit into the remainder register under x^16 + x^12 + x^5 + 1 (R16). -/
def crcBit (r : BitVec 16) (b : Bool) : BitVec 16 :=
  if r.msb != b then (r <<< 1) ^^^ 0x1021#16 else r <<< 1

/-- One byte into the remainder register, most significant bit first (R16). -/
def crcByte (r : BitVec 16) (b : Byte) : BitVec 16 :=
  [b.getLsbD 7, b.getLsbD 6, b.getLsbD 5, b.getLsbD 4, b.getLsbD 3, b.getLsbD 2, b.getLsbD 1, b.getLsbD 0].foldl crcBit r

/-- The remainder of a byte sequence, from $FFFF and without inversion (R16). -/
def crc16 (bs : List Byte) : BitVec 16 := bs.foldl crcByte 0xFFFF#16

/-- The check word of a frame (R16, field 7). -/
def checkWord (f : Frame) : BitVec 16 := crc16 (frameBytes f)

/-- Whether one byte sequence is lower than another at their first difference (R19). -/
def lowerBytes : List Byte → List Byte → Bool
  | a :: as, b :: bs => if a = b then lowerBytes as bs else decide (a.toNat < b.toNat)
  | _, _ => false

/-- Whether a frame heard on the medium wins over the frame the port sent (R19): it is lower at the first
difference in class, sender, destination, length and payload. -/
def winsOver (heard own : Frame) : Bool := lowerBytes (frameBytes heard) (frameBytes own)

end Sys2Proof.Machine
end

