-- ==== Sys2Proof/Machine/Queue.lean ====
section
/-! DEFINITION. The transmit queue of the Span port (R28 to R31) and the settling of attempts (R21). -/

namespace Sys2Proof.Machine

/-- A 16-bit counter raised by `n`, holding at its top (R22, R29, R31). -/
def raiseCounter (c n : Nat) : Nat := min (c + n) Config.counterMax

/-- An entry joins in its place by rank, as the newest of its rank (R28). -/
def insertByRank (e : Entry) : List Entry → List Entry
  | [] => [e]
  | x :: xs => if rankOf e.frame < rankOf x.frame then e :: x :: xs else x :: insertByRank e xs

/-- Whether an offered frame replaces this entry: both STATUS or both PROPOSE (R30). -/
def replaces (f : Frame) (e : Entry) : Bool :=
  (decide (f.cls = .status) || decide (f.cls = .propose)) && decide (e.frame.cls = f.cls)

namespace SpanPort

/-- Whether the attempt in progress copies this entry. -/
def copying (p : SpanPort) (e : Entry) : Bool :=
  match p.attempt with
  | some a => decide (a.entry = e.id)
  | none => false

/-- A new entry joins (R28). -/
def join (p : SpanPort) (f : Frame) (now deadline : Nat) : SpanPort :=
  { p with queue := insertByRank ⟨p.nextEntry, f, now, deadline⟩ p.queue, nextEntry := p.nextEntry + 1 }

/-- An entry takes a new content, a new deadline and the newest position of its rank (R30); an attempt that
copies it goes on with the old content, and has not reached the new deadline (log 15). -/
def replace (p : SpanPort) (old : Entry) (f : Frame) (now deadline : Nat) : SpanPort :=
  { p with
    queue := insertByRank ⟨old.id, f, now, deadline⟩ (p.queue.erase old)
    attempt := p.attempt.map fun a => if a.entry = old.id then { a with replaced := true, reached := false } else a }

/-- A frame offered while the queue is full and nothing is replaced (R29). The queue is kept in order, so its
last entry is the newest of the lowest rank present. -/
def offerFull (p : SpanPort) (f : Frame) (now deadline : Nat) : SpanPort :=
  match p.queue.getLast? with
  | some low =>
    if rankOf f < rankOf low.frame then
      { ({ p with queue := p.queue.dropLast }.join f now deadline) with txDropped := raiseCounter p.txDropped 1 }
    else { p with txDropped := raiseCounter p.txDropped 1 }
  | none => { p with txDropped := raiseCounter p.txDropped 1 }

/-- A block offers a frame with the deadline of its class (R28). -/
def offer (p : SpanPort) (f : Frame) (now deadline : Nat) : SpanPort :=
  if deadline ≤ now then { p with txExpired := raiseCounter p.txExpired 1 }
  else
    match p.queue.find? (replaces f) with
    | some old => p.replace old f now deadline
    | none => if p.queue.length < Config.queueCapacity then p.join f now deadline else p.offerFull f now deadline

/-- Whether an entry leaves the queue at its deadline now (R31): reached, and copied by no attempt. -/
def leavesNow (p : SpanPort) (now : Nat) (e : Entry) : Bool := decide (e.deadline ≤ now) && !p.copying e

/-- The attempt in progress after mount time has reached `now`: it holds whether the deadline of the entry it copies
was reached during it (R21, R31). -/
def attemptAt (p : SpanPort) (now : Nat) : Option Attempt :=
  p.attempt.map fun a =>
    { a with reached := a.reached || p.queue.any fun e => decide (e.id = a.entry) && decide (e.deadline ≤ now) }

/-- Every entry that has reached its deadline and is not being copied leaves the queue and counts; for the entry being
copied the attempt holds that its deadline was reached (R31). -/
def expire (p : SpanPort) (now : Nat) : SpanPort :=
  { p with
    queue := p.queue.filter fun e => !p.leavesNow now e
    attempt := p.attemptAt now
    txExpired := raiseCounter p.txExpired (p.queue.countP (p.leavesNow now)) }

/-- An attempt that copies the head entry, if there is one (R19). -/
def copyHead (p : SpanPort) : SpanPort :=
  { p with attempt := p.queue.head?.map fun e => ⟨e.id, e.frame, checkWord e.frame, false, false⟩ }

/-- An attempt begins when none is in progress (R19). An entry at its deadline leaves first: the port sends no frame
past its deadline (2.4, R31). -/
def beginAttempt (p : SpanPort) (now : Nat) : SpanPort :=
  match p.attempt with
  | none => (p.expire now).copyHead
  | some _ => p

/-- How an attempt ended (2.2). -/
inductive Ending where
  | carried | lost | damaged
deriving DecidableEq, Repr

/-- The ending of an attempt by what the medium carried: the own frame, merged or not (R20), a frame that won
arbitration (R19), or a frame that failed or differed otherwise (R21). -/
def endingOf (own : Frame) : MediumResult → Ending
  | .damaged => .damaged
  | .heard f => if f = own then .carried else if winsOver f own then .lost else .damaged

/-- An entry that its attempt `a` did not send stays for a further attempt, or leaves at the attempt's end when its
deadline was reached, now or at any instant of the attempt (R21, R31). -/
def keepForRetry (p : SpanPort) (a : Attempt) (e : Entry) (now : Nat) : SpanPort :=
  if a.reached ∨ e.deadline ≤ now then
    { p with queue := p.queue.erase e, txExpired := raiseCounter p.txExpired 1 }
  else p

/-- The settling of the entry an attempt was copied from (R21): sent, kept for a further attempt, or, where the entry
is no longer in the queue, nothing. -/
def settleAttempt (p : SpanPort) (a : Attempt) (ending : Ending) (now : Nat) : SpanPort :=
  let p := { p with attempt := none }
  match p.queue.find? fun e => decide (e.id = a.entry) with
  | none => p
  | some e =>
    match ending with
    | .carried => if a.replaced then p.keepForRetry a e now else { p with queue := p.queue.erase e }
    | .lost => p.keepForRetry a e now
    | .damaged => p.keepForRetry a e now

/-- The end of the attempt in progress (R21); none in progress leaves the port unchanged. -/
def endAttempt (p : SpanPort) (r : MediumResult) (now : Nat) : SpanPort :=
  match p.attempt with
  | none => p
  | some a => p.settleAttempt a (endingOf a.frame r) now

/-- A damaged frame is counted and marks its second (R22). -/
def markDamaged (p : SpanPort) : SpanPort :=
  { p with damaged := raiseCounter p.damaged 1, erroredMark := true }

/-- The grading of the link second just closed: the runs (R32). -/
def gradeRuns (p : SpanPort) : SpanPort :=
  if p.erroredMark then
    { p with cleanRun := 0, erroredRun := min (p.erroredRun + 1) 5, erroredMark := false }
  else { p with erroredRun := 0, cleanRun := min (p.cleanRun + 1) 10, erroredMark := false }

end SpanPort

end Sys2Proof.Machine
end

