-- ==== Sys2Proof/Machine/Operands.lean ====
section
/-! DEFINITION. What a command's meaning reads: the roles and the roster (R176), the port's tests of a frame
heard (R23, R24), the plan store's readings (R60), and the plain readings of a state. -/

namespace Sys2Proof.Machine

/-! ### Roles -/

namespace PerRole

/-- The value of a role. -/
def get {α : Type} (x : PerRole α) : Role → α
  | .az => x.az
  | .el => x.el
  | .rot => x.rot
  | .dome => x.dome
  | .aux => x.aux

/-- The value of each role by a function. -/
def ofFn {α : Type} (f : Role → α) : PerRole α := ⟨f .az, f .el, f .rot, f .dome, f .aux⟩

end PerRole

/-- The five roles. -/
def allRoles : List Role := [.az, .el, .rot, .dome, .aux]

/-- The code of a role (0.1). -/
def roleCode : Role → Nat
  | .az => 1
  | .el => 2
  | .rot => 3
  | .dome => 4
  | .aux => 5

/-- The role of a code. -/
def roleOfCode : Nat → Option Role
  | 1 => some .az
  | 2 => some .el
  | 3 => some .rot
  | 4 => some .dome
  | 5 => some .aux
  | _ => none

/-! ### The roster (R176) -/

namespace Items

/-- Whether a role is a roster axis role: its address item is not 15. -/
def inRoster (c : Items) (r : Role) : Bool := decide (c.addr.get r ≠ 15)

/-- Whether an address is a roster axis address. -/
def isRosterAxis (c : Items) (a : Nat) : Bool := decide (a ≠ 15) && allRoles.any fun r => decide (c.addr.get r = a)

/-- The rate-limit step L of R77. -/
def rateStep (c : Items) : Nat := max 1 (c.vtrackMax * c.tickPeriod / Config.second)

end Items

/-! ### Readings of a state -/

namespace State

/-- Mount time now. -/
def now (s : State) : Nat := s.time.mountTime

/-- The configuration items. -/
def items (s : State) : Items := s.conf.items

/-- The own station address: the strap address (R172). -/
def ownAddress (s : State) : Nat := s.conf.straps.address.toNat

/-- The own role: the strap role (R172). -/
def ownRole (s : State) : Option Role := roleOfCode s.conf.straps.role.toNat

/-- Whether the life state is RUN. -/
def inRun (s : State) : Bool := decide (s.conf.life = .run)

/-- Whether the life state is STRAP_FAULT. -/
def inStrapFault (s : State) : Bool := decide (s.conf.life = .strapFault)

/-- The last setpoint sent to the drive; while none has been sent, a free value (log 6). -/
def lastSetpoint (s : State) : Int :=
  match s.axis.lastSetpoint with
  | some p => p
  | none => (Config.unsentSetpoint s.freeDraws).toInt

/-- The free value that `lastSetpoint` reads while none has been sent is drawn once (log 6). -/
def drawSetpoint (s : State) : State :=
  if s.axis.lastSetpoint = none then s.withFreeDraws (s.freeDraws + 1) else s

/-- The clamp to the soft limits (0.5); with SOFT_LO above SOFT_HI the result is a free value (log 8). -/
def clampSoft (s : State) (x : Int) : Int :=
  if s.items.softLo ≤ s.items.softHi then clampInt s.items.softLo s.items.softHi x
  else (Config.clampInverted s.items.softLo s.items.softHi x).toInt

/-- The seq of the record in the current slot, 0 when it is empty (R38, R65). -/
def currentSeq (s : State) : Nat :=
  match s.store.current with
  | some r => r.header.seq
  | none => 0

end State

/-! ### The set of local causes -/

namespace CauseSet

/-- Whether a cause persists. -/
def has (c : CauseSet) : Cause → Bool
  | .following => c.following
  | .encoder => c.encoder
  | .drive => c.drive
  | .estop => c.estop
  | .time => c.time

/-- The set with a cause put in or taken out. -/
def set (c : CauseSet) (b : Bool) : Cause → CauseSet
  | .following => { c with following := b }
  | .encoder => { c with encoder := b }
  | .drive => { c with drive := b }
  | .estop => { c with estop := b }
  | .time => { c with time := b }

/-- Whether any cause persists. -/
def any (c : CauseSet) : Bool := c.following || c.encoder || c.drive || c.estop || c.time

/-- Whether DRIVE or ESTOP persists (R160). -/
def line (c : CauseSet) : Bool := c.drive || c.estop

/-- The persisting cause of lowest code (R140). -/
def lowest (c : CauseSet) : Option Cause :=
  [Cause.following, .encoder, .drive, .estop, .time].find? c.has

end CauseSet

/-- Whether a cause is one of the two lines (R135). -/
def Cause.isLine : Cause → Bool
  | .drive => true
  | .estop => true
  | .following => false
  | .encoder => false
  | .time => false

/-! ### The port's tests -/

/-- Whether a destination role set names the own role (R16, R23). -/
def namesOwnRole (s : State) (dest : BitVec 8) : Bool :=
  match s.ownRole with
  | some r => dest.getLsbD (roleCode r)
  | none => false

/-- The permitted senders of each class (R24); the classes the controller never takes have none (R23). -/
def permittedSender (s : State) (cls : FrameClass) (sender : BitVec 4) : Bool :=
  let a := sender.toNat
  let c := s.items
  let control := decide (a ≠ 15) && (decide (a = c.addrControl) ||
    (decide (s.conf.life = .config) && decide (c.addrControl = 15)))
  match cls with
  | .hold => c.isRosterAxis a || (decide (a ≠ 15) && decide (a = c.addrControl))
  | .roll => decide (a = 15)
  | .propose => c.isRosterAxis a
  | .abandon => c.isRosterAxis a
  | .guide => decide (a ≠ 15) && decide (a = c.addrGuider)
  | .time => control
  | .command => control
  | .config => control
  | .planHead => control
  | .planSeg => control
  | .event => false
  | .status => false
  | .traceData => false
  | .unknown13 => false
  | .unknown14 => false
  | .unknown15 => false

/-- The port's tests of an intact frame (R23). -/
def passesTests (s : State) (cls : FrameClass) (o : Origin) : Bool :=
  namesOwnRole s o.dest && permittedSender s cls o.sender

/-! ### The plan store's readings (R60) -/

namespace Track

/-- The segments in index order. -/
def segments (t : Track) : List Segment := t.first :: t.rest

/-- The number of pool entries the record owns (R49). -/
def size (t : Track) : Nat := t.rest.length + 1

/-- The last segment. -/
def last (t : Track) : Segment := t.rest.getLast?.getD t.first

/-- A list of segments with one more at its end. -/
def snoc : List Segment → Segment → Track
  | [], x => ⟨x, []⟩
  | f :: r, x => ⟨f, r ++ [x]⟩

end Track

/-- The first mount time a segment does not cover (R46). -/
def Segment.finish (g : Segment) : Nat := g.tStart + g.span

/-- The seq of a record. -/
def Record.seq (r : Record) : Nat := r.header.seq

namespace PlanStore

/-- Whether a slot holds a record of this seq. -/
def slotHolds (slot : Option Record) (seq : Nat) : Bool :=
  match slot with
  | some r => decide (r.seq = seq)
  | none => false

/-- Whether a seq is held in the pending queue or a slot (R50 step 6). -/
def holds (p : PlanStore) (seq : Nat) : Bool :=
  p.queue.any (fun r => decide (r.seq = seq)) || slotHolds p.current seq || slotHolds p.ret seq ||
    slotHolds p.excursion seq

/-- The record of a seq, wherever it is held (R60, R61). -/
def find (p : PlanStore) (seq : Nat) : Option Record :=
  if slotHolds p.current seq then p.current
  else if slotHolds p.ret seq then p.ret
  else if slotHolds p.excursion seq then p.excursion
  else p.queue.find? fun r => decide (r.seq = seq)

/-- The entries a slot's record owns. -/
def slotSize (slot : Option Record) : Nat :=
  match slot with
  | some r => r.track.size
  | none => 0

/-- The entries the pending queue's records own. -/
def queueSize (q : List Record) : Nat := (q.map fun r => r.track.size).sum

/-- The pool entries owned by records and by the intake (R49). -/
def owned (p : PlanStore) : Nat :=
  queueSize p.queue + slotSize p.current + slotSize p.ret + slotSize p.excursion +
    (match p.intake with
     | some i => i.reserved
     | none => 0)

/-- A slot without the record of a seq. -/
def dropSlot (slot : Option Record) (seq : Nat) : Option Record := if slotHolds slot seq then none else slot

/-- The record of a seq is removed from wherever it is held and its entries return to free (R61). -/
def remove (p : PlanStore) (seq : Nat) : PlanStore :=
  { p with
    queue := p.queue.filter fun r => !decide (r.seq = seq)
    current := dropSlot p.current seq
    ret := dropSlot p.ret seq
    excursion := dropSlot p.excursion seq
    free := p.free + queueSize (p.queue.filter fun r => decide (r.seq = seq)) +
      (if slotHolds p.current seq then slotSize p.current else 0) +
      (if slotHolds p.ret seq then slotSize p.ret else 0) +
      (if slotHolds p.excursion seq then slotSize p.excursion else 0) }

/-- A record with its wrap_k rewritten (R75). -/
def rewrap (seq : Nat) (k : Int) (r : Record) : Record := if r.seq = seq then { r with wrapK := some k } else r

/-- The wrap_k of the record of a seq is rewritten where it is held (R75). -/
def setWrap (p : PlanStore) (seq : Nat) (k : Int) : PlanStore :=
  { p with
    queue := p.queue.map (rewrap seq k)
    current := p.current.map (rewrap seq k)
    ret := p.ret.map (rewrap seq k)
    excursion := p.excursion.map (rewrap seq k) }

/-- dwell_done of the current record is set (R112, R115). -/
def setDwellDone (p : PlanStore) : PlanStore :=
  { p with current := p.current.map fun r => { r with dwellDone := true } }

/-- What becomes of the record in the current slot when an excursion moves in (R62): the return slot, and the
entries that return to free. -/
def settleForExcursion (p : PlanStore) : Option Record × Nat :=
  match p.current with
  | some r =>
    if r.header.kind = .planned ∧ r.dwellDone = false ∧ p.ret = none then (some r, 0) else (p.ret, r.track.size)
  | none => (p.ret, 0)

/-- The moves of a slew start (R62), by the place that holds the selected record. -/
def moveIn (p : PlanStore) (seq : Nat) : PlanStore :=
  if slotHolds p.current seq then p
  else if slotHolds p.ret seq then
    { p with current := p.ret, ret := none, free := p.free + slotSize p.current }
  else if slotHolds p.excursion seq then
    { p with
      current := p.excursion, excursion := none, ret := p.settleForExcursion.1
      free := p.free + p.settleForExcursion.2 }
  else
    match p.queue.find? fun r => decide (r.seq = seq) with
    | some r => { p with current := some r, queue := p.queue.erase r, free := p.free + slotSize p.current }
    | none => p

end PlanStore

end Sys2Proof.Machine
end

