-- ==== Sys2Proof/Machine/Flags.lean ====
section
/-! DEFINITION. The values that are sets of bits or sums of terms: the per-tick flags (R167), the trace condition
(R168), the events' categories and codes (R43), the refusal reasons and the refusal value (R42), and the two status
pages (R44). -/

namespace Sys2Proof.Machine

/-! ### Per-tick flags (3.3, R167) -/

/-- The flags of one tick, in the order of their bits 0 to 11. -/
structure TickFlags where
  slewing : Bool
  settling : Bool
  tracking : Bool
  stopping : Bool
  braked : Bool
  settled : Bool
  rateLimited : Bool
  limitHeld : Bool
  guideStep : Bool
  feOut : Bool
  held : Bool
  coast : Bool
deriving DecidableEq, Repr

/-- The flags field; bits 12 to 15 are 0 (3.3). -/
def TickFlags.bits (f : TickFlags) : BitVec 16 :=
  BitVec.ofNat 16
    (f.slewing.toNat + 2 * f.settling.toNat + 4 * f.tracking.toNat + 8 * f.stopping.toNat + 16 * f.braked.toNat +
      32 * f.settled.toNat + 64 * f.rateLimited.toNat + 128 * f.limitHeld.toNat + 256 * f.guideStep.toNat +
      512 * f.feOut.toNat + 1024 * f.held.toNat + 2048 * f.coast.toNat)

/-- What the trajectory unit finds at a tick and hands over beside the setpoint (R118). -/
structure TickMarks where
  rateLimited : Bool
  limitHeld : Bool
  guideStep : Bool
deriving DecidableEq, Repr

/-- The four mode flags and BRAKED by the motion mode at step 4; STANDING carries none (R167). -/
def modeFlags : Motion → TickFlags
  | .slewing _ => ⟨true, false, false, false, false, false, false, false, false, false, false, false⟩
  | .releasing _ => ⟨true, false, false, false, false, false, false, false, false, false, false, false⟩
  | .settling => ⟨false, true, false, false, false, false, false, false, false, false, false, false⟩
  | .tracking => ⟨false, false, true, false, false, false, false, false, false, false, false, false⟩
  | .stopping _ => ⟨false, false, false, true, false, false, false, false, false, false, false, false⟩
  | .braked => ⟨false, false, false, false, true, false, false, false, false, false, false, false⟩
  | .standing _ => ⟨false, false, false, false, false, false, false, false, false, false, false, false⟩

/-- Whether the settle record is held with its settled mark set. -/
def settledNow (a : AxisInterface) : Bool :=
  match a.settle with
  | some r => r.settled
  | none => false

/-- The flags of a tick (R167), from the state after step 5 and the trajectory unit's marks. -/
def tickFlags (s : State) (m : TickMarks) : TickFlags :=
  { modeFlags s.traj.motion with
    settled := settledNow s.axis
    rateLimited := m.rateLimited
    limitHeld := m.limitHeld
    guideStep := m.guideStep
    feOut := decide ((s.items.settleWindow : Int) < |s.axis.fe|)
    held := decide (s.round.plan = some .held)
    coast := decide (s.time.timeState = .coast) || decide (s.time.timeState = .lost) }

/-- The trace condition on a tick's flags (R168). -/
def traceCondition (t : TraceSetting) (flags : BitVec 16) : Bool :=
  match t.sense with
  | .isMatch => decide (flags &&& t.mask = t.pattern)
  | .mismatch => !decide (flags &&& t.mask = t.pattern)

/-! ### Events (R43) -/

/-- The events of the table of R43. -/
inductive EventKind where
  | planTaken | planRefused | intakeTimeout | planCleared
  | agreed | skipped | stall | abandoned | planEmpty
  | arrivalLate | settled | settleLate | dwellStart | dwellEnd
  | guideClipped | guideSaturated
  | timeLocked | timeCoast | timeLost
  | linkPoor | linkClear
  | traceTriggered | traceStopped
  | commandRefused
deriving DecidableEq, Repr

/-- The category code of an event (R43). -/
def EventKind.category : EventKind → Nat
  | .planTaken => 0
  | .planRefused => 0
  | .intakeTimeout => 0
  | .planCleared => 0
  | .agreed => 1
  | .skipped => 1
  | .stall => 1
  | .abandoned => 1
  | .planEmpty => 1
  | .arrivalLate => 2
  | .settled => 2
  | .settleLate => 2
  | .dwellStart => 2
  | .dwellEnd => 2
  | .guideClipped => 3
  | .guideSaturated => 3
  | .timeLocked => 4
  | .timeCoast => 4
  | .timeLost => 4
  | .linkPoor => 5
  | .linkClear => 5
  | .traceTriggered => 6
  | .traceStopped => 6
  | .commandRefused => 7

/-- The code of an event within its category (R43). -/
def EventKind.code : EventKind → Nat
  | .planTaken => 0
  | .planRefused => 1
  | .intakeTimeout => 2
  | .planCleared => 3
  | .agreed => 0
  | .skipped => 1
  | .stall => 2
  | .abandoned => 3
  | .planEmpty => 4
  | .arrivalLate => 0
  | .settled => 1
  | .settleLate => 2
  | .dwellStart => 3
  | .dwellEnd => 4
  | .guideClipped => 0
  | .guideSaturated => 1
  | .timeLocked => 0
  | .timeCoast => 1
  | .timeLost => 2
  | .linkPoor => 0
  | .linkClear => 1
  | .traceTriggered => 0
  | .traceStopped => 1
  | .commandRefused => 0

/-- An unsigned value field; a time value is the low 32 bits of the mount time (R43). Of the unsigned values that are
no times, M′ - M alone can pass 32 bits (`valueLate`). -/
def valueU (v : Nat) : BitVec 32 := BitVec.ofNat 32 v

/-- The value field of ARRIVAL_LATE, M′ - M in µs (R88). Above 32 bits, which R43 does not provide for, it is a free
value: DESIGN CHOICE (log 36). -/
def valueLate (late : Nat) : BitVec 32 := if late < 2 ^ 32 then valueU late else Config.overlongLateness late

/-- A signed value field, saturated to the 32-bit range (R43). -/
def valueS (v : Int) : BitVec 32 := BitVec.ofInt 32 (sat32 v)

/-! ### Refusals (3.7) -/

/-- The refusal reasons of 3.7. -/
inductive Reason where
  | state | range | full | order | duplicate | busy | coverage | unknown | late | locked
deriving DecidableEq, Repr

/-- The code of a refusal reason (3.7). -/
def Reason.code : Reason → Nat
  | .state => 1
  | .range => 2
  | .full => 3
  | .order => 4
  | .duplicate => 5
  | .busy => 6
  | .coverage => 7
  | .unknown => 8
  | .late => 9
  | .locked => 10

/-- The value of a refusal event: reason, class and third byte (R42). -/
def refusalValue (r : Reason) (cls : FrameClass) (third : Nat) : BitVec 32 :=
  valueU (r.code + 256 * classCode cls + 65536 * third)

/-! ### Status pages (R44) -/

/-- A field of three bytes, saturated to ±8,388,607 (R44). -/
def bytes24 (v : Int) : List Byte := bytesOfInt 3 (clampAbs 8388607 v)

/-- The hold cause set of page 0: bits 0 to 4 the local causes, bit 5 the peer-hold mark (R44). -/
def holdCauseByte (h : HoldLogic) : Nat := causeBits h.causes + 32 * h.peerHold.toNat

/-- STATUS page 0 (R44). -/
def statusPage0 (s : State) : List Byte :=
  bytesOfNat 1 (lifeCode s.conf.life) ++
  bytesOfNat 1 (16 * planCode s.round.plan + motionCode s.traj.motion) ++
  bytesOfNat 1 (holdCauseByte s.hold) ++
  bytesOfNat 2 s.currentSeq ++
  bytesOfNat 6 s.now ++
  bytesOfInt 4 s.lastSetpoint ++
  bytesOfInt 4 s.axis.lastEncoder ++
  bytes24 s.axis.fe ++ bytes24 s.traj.lag ++ bytes24 s.traj.guideApplied ++
  bytesOfInt 4 s.traj.appliedOffset

/-- The seq of a slot's record, 0 when it is empty (R65). -/
def slotSeq (slot : Option Record) : Nat :=
  match slot with
  | some r => r.seq
  | none => 0

/-- STATUS page 1 (R44). -/
def statusPage1 (s : State) : List Byte :=
  bytesOfNat 1 (16 + lifeCode s.conf.life) ++
  bytesOfNat 1 s.store.queue.length ++
  bytesOfNat 2 (slotSeq s.store.queue.head?) ++
  bytesOfNat 2 (slotSeq s.store.queue.getLast?) ++
  bytesOfNat 1 s.store.free ++
  bytesOfNat 2 (slotSeq s.store.excursion) ++
  bytesOfNat 2 (slotSeq s.store.ret) ++
  bytesOfNat 1 (16 * timeStateCode s.time.timeState + linkCode s.port.linkState) ++
  bytesOfNat 2 s.port.damaged ++
  bytesOfNat 2 s.port.txExpired ++
  bytesOfNat 2 s.port.txDropped ++
  bytesOfNat 1 s.conf.lastRefusal ++
  bytesOfNat 1 (phaseCode s.round.plan)

end Sys2Proof.Machine
end

