-- ==== Sys2Proof/Machine/Ops.lean ====
section
/-! DEFINITION. The operations the meanings share: offering frames and events (R28, R43), judging frames heard
(R22 to R27), decoding commands (R41), refusing (R42), the outputs of the axis (R160), taking a hold (R134 to R136),
raising and ending causes (R132, R133, R140), reporting the motion end (R90, R111). -/

namespace Sys2Proof.Machine

/-! ### Frames sent -/

/-- The destination role set that names every axis role (R16, R17). -/
def everyRole : BitVec 8 := 0x3E

/-- The frame of a class the controller sends: sender and destination by R17. -/
def ownFrame (s : State) (cls : FrameClass) (payload : List Byte) : Frame :=
  match cls with
  | .roll => ⟨cls, 15, everyRole, payload⟩
  | .hold => ⟨cls, s.conf.straps.address, everyRole, payload⟩
  | .propose => ⟨cls, s.conf.straps.address, everyRole, payload⟩
  | .abandon => ⟨cls, s.conf.straps.address, everyRole, payload⟩
  | _ => ⟨cls, s.conf.straps.address, 0, payload⟩

/-- A block offers a frame to the transmit queue (R28); in STRAP_FAULT the port is silent (R34). A deadline may lie past
the top of mount time, at which R1 holds it: R28 does not say what such a deadline is. The model keeps the number, which
mount time never reaches: DESIGN CHOICE (log 35). -/
def offerFrame (cls : FrameClass) (payload : List Byte) (deadline : Nat) (s : State) : State :=
  if s.inStrapFault then s else s.withPort (s.port.offer (ownFrame s cls payload) s.now deadline)

/-- An event is composed: offered when its category is enabled in EVENT_MASK (R43, R180). Within the last second below
the top of mount time its deadline lies past the top and is never reached: DESIGN CHOICE (log 35). -/
def report (e : EventKind) (seq : Nat) (value : BitVec 32) (s : State) : State :=
  if s.items.eventMask.testBit e.category then
    offerFrame .event (eventPayload e.category e.code seq value) (s.now + 1000000) s
  else s

/-! ### Refusals (R42) -/

/-- The reason is recorded and the refusal event composed (R42). -/
def refuse (reason : Reason) (cls : FrameClass) (third : Nat) (e : EventKind) (seq : Nat) (s : State) : State :=
  report e seq (refusalValue reason cls third) (s.withConf { s.conf with lastRefusal := reason.code })

/-- A COMMAND, CONFIG or TIME frame is refused (R42). -/
def refuseCommand (reason : Reason) (cls : FrameClass) (third : Nat) (s : State) : State :=
  refuse reason cls third .commandRefused 0 s

/-! ### Frames heard (R22 to R27) -/

/-- An owner's decision on a frame offered to it (R25): the state it leaves and whether the frame is taken. -/
structure Judged where
  state : State
  taken : Bool

/-- The frame is taken. -/
def take (s : State) : Judged := ⟨s, true⟩

/-- The frame is not taken. -/
def leave (s : State) : Judged := ⟨s, false⟩

/-- The number of the round in progress. -/
def roundNumber (s : State) : Option Nat :=
  match s.round.plan with
  | some (.inRound r) => some r.number
  | some (.scheduled r) => some r.number
  | _ => none

/-- An intact frame is heard at its check word (R22 to R25): in STRAP_FAULT nothing is offered (R34); a frame that
fails the tests is ignored; otherwise its owner decides. The reception holds the decision until the end mark. -/
def hear (cls : FrameClass) (o : Origin) (payload : List Byte) (owner : State → Judged) (s : State) : State :=
  if s.inStrapFault then s
  else
    let f : Frame := ⟨cls, o.sender, o.dest, payload⟩
    if passesTests s cls o then
      let j := owner s
      j.state.withPort { j.state.port with reception := some ⟨f, true, j.taken, roundNumber s⟩ }
    else s.withPort { s.port with reception := some ⟨f, false, false, none⟩ }

/-! ### Commands (R41) -/

/-- Step 6 of R41: while ESTOP persists the command is refused STATE before its owner is consulted (R144). -/
def gateEstop (code : Nat) (owner : State → Judged) (s : State) : Judged :=
  if s.hold.causes.estop then leave (refuseCommand .state .command code s) else owner s

/-- A COMMAND frame of a known code is heard: steps 1 and 2 of R41, then `owner` for the later steps. -/
def hearCommand (code len : Nat) (o : Origin) (args : List Byte) (owner : State → Judged) (s : State) : State :=
  hear .command o (BitVec.ofNat 8 code :: args)
    (fun s => if args.length + 1 = len then owner s else leave (refuseCommand .range .command code s)) s

/-- Steps 4 to 6 of R41 for GO, BREAK and RETURN: the epoch is after now, is rounded up to a tick and is handed on. -/
def withEpoch (code : Nat) (args : List Byte) (owner : Nat → State → Judged) (s : State) : Judged :=
  if natOfBytes args ≤ s.now then leave (refuseCommand .late .command code s)
  else gateEstop code (owner (ceilTo s.items.tickPeriod (natOfBytes args))) s

/-- A command refused by its owner (R42). -/
def refused (reason : Reason) (code : Nat) (s : State) : Judged := leave (refuseCommand reason .command code s)

/-! ### The outputs of the axis (R160) -/

/-- Whether the drive enable is on in a motion mode under a cause set (R160). -/
def driveOn (m : Motion) (c : CauseSet) : Bool := !decide (m = .braked) && !c.line

/-- The drive enable and the brake follow the mode and the line causes; when the enable goes off, a transfer is
sent at once with the last setpoint and feedforward 0 (R160, log 17). -/
def settleOutputs (s : State) : State :=
  let on := driveOn s.traj.motion s.hold.causes
  s.withAxis
    { s.axis with
      driveEnable := on
      brakeApplied := !on
      link := if s.axis.driveEnable && !on then some ⟨false, s.lastSetpoint, 0⟩ else s.axis.link }

/-- The motion mode changes and the outputs with it (R160). -/
def enterMotion (m : Motion) (s : State) : State := settleOutputs (s.withTraj { s.traj with motion := m })

/-! ### Taking a hold (R134 to R136) -/

/-- The plan's side of a hold (R134): HELD, no round, no trigger, no abandon, no dwell record. -/
def holdPlan (s : State) : State :=
  s.withRound { s.round with plan := some .held, trigger := none, abandon := none, dwell := none }

/-- The settle record is emptied (R165). -/
def dropSettle (s : State) : State := s.withAxis { s.axis with settle := none }

/-- The stop profile fixed from the stop tick (R138); with v0 = 0 the axis stands at once (R139). -/
def stopMotion (s : State) : Motion :=
  if s.traj.lastFeedforward = 0 then .standing s.lastSetpoint
  else
    .stopping
      { sp0 := s.lastSetpoint, v0 := s.traj.lastFeedforward, t0 := s.traj.lastTick
        stopTime := Exact.ratio |s.traj.lastFeedforward| s.items.holdDecel }

/-- The motion after a hold on a cause other than the two lines (R136). -/
def motionUnderHold (s : State) : Motion :=
  match s.traj.motion with
  | .slewing _ => stopMotion s
  | .settling => stopMotion s
  | .tracking => stopMotion s
  | .stopping p => .stopping p
  | .standing h => .standing h
  | .braked => .braked
  | .releasing _ => .braked

/-- A hold in RELEASING stops the brake timer (R161). -/
def stopBrakeTimer (s : State) : State :=
  match s.traj.motion with
  | .releasing _ => s.withAxis { s.axis with brakeTimer := none }
  | _ => s

/-- Taking a hold in RUN (R134), `line` for a hold on DRIVE or ESTOP (R135), otherwise by R136. -/
def takeHold (line : Bool) (s : State) : State :=
  let s := stopBrakeTimer (dropSettle (holdPlan s))
  enterMotion (if line then .braked else motionUnderHold s) s

/-! ### Causes (R132, R133, R140) -/

/-- A HOLD frame is composed for a cause and offered (R38, R140). -/
def sendHold (c : Cause) (s : State) : State :=
  offerFrame .hold (holdPayload ⟨causeCode c, s.currentSeq, causeBits s.hold.causes⟩) (s.now + 50000) s

/-- The repeat timer is started (R140). An expiry past the top of mount time, of which R140 does not speak, is never
reached: DESIGN CHOICE (log 35). -/
def startRepeat (s : State) : State :=
  s.withHold { s.hold with repeatTimer := some (s.now + s.items.holdRepeat) }

/-- A cause raised in RUN takes the hold, queues its HOLD and starts the repeat timer (R134, R140). -/
def actOnCause (c : Cause) (s : State) : State := startRepeat (sendHold c (takeHold c.isLine s))

/-- A cause becomes a member of the set. -/
def addCause (c : Cause) (s : State) : State := s.withHold { s.hold with causes := s.hold.causes.set true c }

/-- A local cause is raised (R132, R133): nothing in STRAP_FAULT, nothing when already a member, and it acts on the
plan only in RUN. -/
def raiseCause (c : Cause) (s : State) : State :=
  if s.inStrapFault || s.hold.causes.has c then s
  else if s.inRun then actOnCause c (addCause c s)
  else settleOutputs (addCause c s)

/-- A local cause ends (R132); the outputs follow the mode again (R160). In STRAP_FAULT the hold logic keeps its
hard-reset values (R133). -/
def endCause (c : Cause) (s : State) : State :=
  if s.inStrapFault then s
  else settleOutputs (s.withHold { s.hold with causes := s.hold.causes.set false c })

/-- One cause still in the set is taken as raised (R133). -/
def retakeCause (s : State) (c : Cause) : State := if s.hold.causes.has c then actOnCause c s else s

/-- Every cause still in the set is taken as raised, in turn (R133), lowest code first (log 10). -/
def retakeCauses (s : State) : State :=
  [Cause.following, .encoder, .drive, .estop, .time].foldl retakeCause s

/-! ### The motion end (R90, R111) -/

/-- The phase whose interval of the dwell record holds the instant of a motion end (R111): DWELL once T_d has been
taken, also when the motion-end tick is one that a unit correction passed over, taken after T_d as of its own instant
(log 30). -/
def phaseAt (d : DwellRecord) (t : Nat) : Phase :=
  if d.started then .dwell
  else if t < d.arrival then .settle else if t < d.dwellStart then .dwellWait else .dwell

/-- The trajectory unit reports the motion end at instant `t`: the mark is set, and OBSERVING leaves SLEW (R111). -/
def reportMotionEnd (t : Nat) (s : State) : State :=
  match s.round.dwell with
  | none => s
  | some d =>
    s.withRound
      { s.round with
        dwell := some { d with motionEnded := true }
        plan := match s.round.plan with
          | some (.observing .slew) => some (.observing (phaseAt d t))
          | p => p }

/-- The mode a motion end at instant `t` begins (R90): SETTLING before A, TRACKING at or after it. R85 and R86 say
SETTLING for the motion end at S_m of a profile without distance; where S_m is not before A the model follows R90,
which R86 names: DESIGN CHOICE (log 39). -/
def modeAtMotionEnd (arrival t : Nat) : Motion := if t < arrival then .settling else .tracking

/-- The motion end at instant `t` with the goal g: the track setpoint is set to g, the mode becomes SETTLING or
TRACKING, and the round engine is told (R90). -/
def endMotion (goal : Int) (arrival t : Nat) (s : State) : State :=
  reportMotionEnd t
    (enterMotion (modeAtMotionEnd arrival t) (s.withTraj { s.traj with trackSetpoint := goal }))

/-! ### Link seconds (R15, R32, R33) -/

/-- The link state after grading, with its event (R33). -/
def judgeLink (s : State) : State :=
  if s.port.erroredRun = 5 ∧ s.port.linkState = .clear then
    report .linkPoor 0 (valueU s.port.damaged) (s.withPort { s.port with linkState := .poor })
  else if s.port.cleanRun = 10 ∧ s.port.linkState = .poor then
    report .linkClear 0 (valueU s.port.damaged) (s.withPort { s.port with linkState := .clear })
  else s

/-- The link second closed is graded (R32, R33); the monitor runs in CONFIG and RUN. -/
def gradeLink (s : State) : State :=
  if s.inStrapFault then s else judgeLink (s.withPort s.port.gradeRuns)

end Sys2Proof.Machine
end

