-- ==== Sys2Proof/Machine/Track.lean ====
section
/-! DEFINITION. Track arithmetic (chapter 5): evaluation, wrap choice, demand, the rate-limited step; and the
planning of slews and stops (chapter 6, 9.3): minimum motion time, prediction, proposal, profiles. -/

namespace Sys2Proof.Machine

/-! ### Evaluating a track (R70, R71) -/

/-- µs as seconds. -/
def secondsOf (u : Exact) : Exact := u.mul ⟨1, 0, 0, 1000000⟩

namespace Segment

/-- c2/65,536 in pu/s² (R66). -/
def accel (g : Segment) : Exact := ⟨g.c2, 0, 0, 65536⟩

/-- c3/4,294,967,296 in pu/s³ (R66). -/
def jerk (g : Segment) : Exact := ⟨g.c3, 0, 0, 4294967296⟩

/-- The position at an offset u in µs (R71). -/
def posAt (g : Segment) (u : Exact) : Int :=
  let s := secondsOf u
  let s2 := s.mul s
  ((((Exact.ofInt g.c0).add ((Exact.ofInt g.c1).mul s)).add (g.accel.mul s2)).add (g.jerk.mul (s2.mul s))).round

/-- The velocity at an offset u in µs (R71). -/
def velAt (g : Segment) (u : Exact) : Int :=
  let s := secondsOf u
  (((Exact.ofInt g.c1).add ((Exact.ofInt 2).mul (g.accel.mul s))).add
    ((Exact.ofInt 3).mul (g.jerk.mul (s.mul s)))).round

/-- Whether a mount time lies before the segment's end. -/
def before (g : Segment) (t : Exact) : Bool := t.ltInt g.finish

end Segment

namespace Track

/-- Position and velocity of a track at a real mount time (R70, R71): the segment whose interval holds t; the first
segment's start before coverage and the last segment's end after it, with velocity 0. -/
def evalAt (t : Exact) (tr : Track) : Int × Int :=
  if t.ltInt tr.first.tStart then (tr.first.posAt (.ofInt 0), 0)
  else
    match tr.segments.find? (fun g => g.before t) with
    | some g => (g.posAt (t.sub (.ofInt g.tStart)), g.velAt (t.sub (.ofInt g.tStart)))
    | none => (tr.last.posAt (.ofInt tr.last.span), 0)

/-- The track position at a mount time. -/
def pos (tr : Track) (t : Nat) : Int := (tr.evalAt (.ofInt t)).1

/-- The track velocity at a mount time. -/
def vel (tr : Track) (t : Nat) : Int := (tr.evalAt (.ofInt t)).2

end Track

/-- A track position and a whole number of turns, a result (R68, R76). -/
def withTurns (p k : Int) : Int := sat32 (p + k * Config.fullTurn)

/-! ### Wrap choice (R73, R74) -/

/-- The wrap candidates (R73). -/
def wrapCandidates (c : Items) : List Int := if c.modular = 1 then [-1, 0, 1] else [0]

/-- Whether both endpoint sums of a segment lie within the soft limits, compared unsaturated (R73). -/
def segmentAdmits (c : Items) (k : Int) (g : Segment) : Bool :=
  let a := g.posAt (.ofInt 0) + k * Config.fullTurn
  let b := g.posAt (.ofInt g.span) + k * Config.fullTurn
  decide (c.softLo ≤ a) && decide (a ≤ c.softHi) && decide (c.softLo ≤ b) && decide (b ≤ c.softHi)

/-- Whether a candidate is admissible for a track (R73). -/
def admissible (c : Items) (tr : Track) (k : Int) : Bool := tr.segments.all (segmentAdmits c k)

/-- The distance of a candidate from the predicted position (R74), not saturated. -/
def wrapDistance (p pS k : Int) : Int := |p + k * Config.fullTurn - pS|

/-- The candidate of least distance, the lower of two at the same distance (R74). -/
def nearestWrap (p pS : Int) : List Int → Option Int
  | [] => none
  | k :: ks =>
    match nearestWrap p pS ks with
    | none => some k
    | some b => if wrapDistance p pS b < wrapDistance p pS k then some b else some k

/-- The wrap choice at S for a record and a predicted position (R74). -/
def chooseWrap (c : Items) (tr : Track) (slewStart : Nat) (pS : Int) : Option Int :=
  nearestWrap (tr.pos slewStart) pS ((wrapCandidates c).filter (admissible c tr))

/-! ### The rate-limited step (R78) -/

/-- The change of the track setpoint toward the demand: the difference clamped to ±L. -/
def rateLimitedStep (stepL : Nat) (setpoint demand : Int) : Int := clampAbs stepL (demand - setpoint)

/-! ### Minimum motion time (R80) -/

/-- M_min(d) in µs: 2·√(d/a) when d ≤ vmax²/a, otherwise d/vmax + vmax/a. -/
def minMotion (c : Items) (d : Nat) : Exact :=
  if d * c.amax ≤ c.vmax * c.vmax then (Exact.root (d * c.amax) c.amax).mul (.ofInt 2000000)
  else (Exact.ratio (1000000 * d) c.vmax).add (Exact.ratio (1000000 * c.vmax) c.amax)

/-! ### The slew profile (R86 to R88) -/

/-- What the fixing of a profile finds (R86): no distance, or a profile and how far it was lengthened (R88). -/
inductive Fixed where
  | still (goal : Int)
  | moving (p : SlewProfile) (late : Option Nat)
deriving DecidableEq, Repr

/-- The ramp time r in seconds for a duration T in µs and a distance d (R87): (T - √(T² - 4d/a))/2. -/
def rampTime (a T d : Nat) : Exact :=
  ((Exact.ratio T 1000000).sub (Exact.root (a * (a * T * T - 4000000000000 * d)) (1000000 * a))).div (.ofInt 2)

/-- The profile is fixed at S_m from the release record, the current record's track and the wrap offset (R86):
with M at least M_min(d) it runs over M, otherwise over M_min(d) rounded up to a tick (R88). -/
def fixProfile (c : Items) (tr : Track) (wrap : Int) (r : Release) : Fixed :=
  let goal := withTurns (tr.pos (r.motionStart + r.budget)) wrap
  let delta := goal - r.p0
  let d := delta.natAbs
  if d = 0 then .still goal
  else
    let need := minMotion c d
    let late := need.gtInt r.budget
    let T := if late then need.ceilTick c.tickPeriod else r.budget
    .moving
      { seq := r.seq, slewStart := r.slewStart, motionStart := r.motionStart, arrival := r.arrival, p0 := r.p0
        goal := goal, delta := delta, duration := T, ramp := rampTime c.amax T d }
      (if late then some (T - r.budget) else none)

namespace SlewProfile

/-- T in seconds. -/
def total (p : SlewProfile) : Exact := .ratio p.duration 1000000

/-- T - r in seconds. -/
def downAt (p : SlewProfile) : Exact := p.total.sub p.ramp

/-- r·(T - r). -/
def rampProduct (p : SlewProfile) : Exact := p.ramp.mul p.downAt

/-- The profile's position at u µs after S_m (R87). -/
def posAt (p : SlewProfile) (u : Nat) : Int :=
  let s := Exact.ratio u 1000000
  let r := p.ramp
  let δ := Exact.ofInt p.delta
  let start := Exact.ofInt p.p0
  let left := p.total.sub s
  if p.duration ≤ u then p.goal
  else if s.lt r then (start.add ((δ.mul (s.mul s)).div ((Exact.ofInt 2).mul p.rampProduct))).round
  else if p.downAt.lt s then
    (start.add (δ.mul ((Exact.ofInt 1).sub ((left.mul left).div ((Exact.ofInt 2).mul p.rampProduct))))).round
  else (start.add (δ.mul ((s.sub (r.div (.ofInt 2))).div p.downAt))).round

/-- The profile's feedforward at u µs after S_m, the exact derivative of the position (R87). -/
def feedforwardAt (p : SlewProfile) (u : Nat) : Int :=
  let s := Exact.ratio u 1000000
  let δ := Exact.ofInt p.delta
  if p.duration ≤ u then 0
  else if s.lt p.ramp then ((δ.mul s).div p.rampProduct).round
  else if p.downAt.lt s then ((δ.mul (p.total.sub s)).div p.rampProduct).round
  else (δ.div p.downAt).round

/-- The profile's motion end, S_m + T. -/
def finish (p : SlewProfile) : Nat := p.motionStart + p.duration

end SlewProfile

/-! ### The stop profile (R138, R139) -/

namespace StopProfile

/-- u in seconds at a mount time. -/
def elapsed (p : StopProfile) (t : Nat) : Exact := .ratio ((t : Int) - p.t0) 1000000

/-- Whether the stop still runs at a mount time: u < T_s. -/
def runsAt (p : StopProfile) (t : Nat) : Bool := (p.elapsed t).lt p.stopTime

/-- The position at an exact u: sp0 + v0·u - sign(v0)·a·u²/2 (R138). -/
def posAt (p : StopProfile) (a : Nat) (u : Exact) : Int :=
  (((Exact.ofInt p.sp0).add ((Exact.ofInt p.v0).mul u)).sub
    ((Exact.ratio (signOf p.v0 * a) 2).mul (u.mul u))).round

/-- The feedforward at an exact u: v0 - sign(v0)·a·u (R138). -/
def feedforwardAt (p : StopProfile) (a : Nat) (u : Exact) : Int :=
  ((Exact.ofInt p.v0).sub ((Exact.ofInt (signOf p.v0 * a)).mul u)).round

/-- The position at u = T_s: sp0 + sign(v0)·v0²/(2a), rounded and saturated (R139). -/
def restPos (p : StopProfile) (a : Nat) : Int :=
  ((Exact.ofInt p.sp0).add (Exact.ratio (signOf p.v0 * (p.v0 * p.v0)) (2 * a))).round

end StopProfile

/-! ### The proposal (R81 to R83) -/

/-- The current record's track with the wrap offset at a mount time; the last setpoint sent when the slot is
empty (R81). -/
def trackedPosition (s : State) (t : Nat) : Int :=
  match s.store.current with
  | some r => withTurns (r.track.pos t) s.traj.wrapOffset
  | none => s.lastSetpoint

/-- The first row of R81: the track with the two corrections; the last setpoint sent when the slot is empty. -/
def predictTracking (s : State) (t : Nat) : Int :=
  match s.store.current with
  | some r =>
    sat32 (r.track.pos t + s.traj.wrapOffset * Config.fullTurn + s.traj.appliedOffset + s.traj.guideApplied)
  | none => s.lastSetpoint

/-- The second row of R81: the profile's position before its motion end, the current track after it. R86 places the
motion end at S_m + M and R90 at the first tick from there. For an S between the two the model takes the motion end to
be S_m + T and predicts the track: DESIGN CHOICE (log 37). -/
def predictProfile (s : State) (p : SlewProfile) (t : Nat) : Int :=
  if t < p.finish then p.posAt (t - p.motionStart) else trackedPosition s t

/-- The third row of R81, by the profile that will be fixed at S_m (R85). -/
def predictRelease (s : State) (r : Release) (t : Nat) : Int :=
  if t ≤ r.motionStart then r.p0
  else
    match s.store.current with
    | some rec =>
      match fixProfile s.items rec.track s.traj.wrapOffset r with
      | .moving p _ => predictProfile s p t
      | .still _ => trackedPosition s t
    | none => s.lastSetpoint

/-- The predicted position at S before its clamp, by the motion mode (R81). -/
def predictRaw (s : State) (t : Nat) : Int :=
  match s.traj.motion with
  | .settling => predictTracking s t
  | .tracking => predictTracking s t
  | .slewing p => predictProfile s p t
  | .releasing r => predictRelease s r t
  | .stopping p => if p.runsAt t then p.posAt s.items.holdDecel (p.elapsed t) else p.restPos s.items.holdDecel
  | .standing _ => s.lastSetpoint
  | .braked => s.lastSetpoint

/-- p_S, clamped to the soft limits (R81). -/
def predict (s : State) (t : Nat) : Int := s.clampSoft (predictRaw s t)

/-- What a proposal computation hands back (R83): the verdict, D_i, and the wrap it wrote, if any. -/
structure Proposal where
  verdict : Verdict
  d : Nat
  wrap : Option Int
deriving DecidableEq, Repr

/-- Whether BRAKE_DELAY enters a proposal or a slew start: the mode is BRAKED or RELEASING (R83, R84). -/
def fromBrake (m : Motion) : Bool :=
  match m with
  | .braked => true
  | .releasing _ => true
  | .slewing _ => false
  | .settling => false
  | .tracking => false
  | .stopping _ => false
  | .standing _ => false

/-- Whether the mode is STOPPING. -/
def isStopping (m : Motion) : Bool :=
  match m with
  | .stopping _ => true
  | .slewing _ => false
  | .settling => false
  | .tracking => false
  | .standing _ => false
  | .braked => false
  | .releasing _ => false

/-- M0 of a goal (R82 step 3). -/
def motionFor (c : Items) (goal pS : Int) : Exact := minMotion c (goal - pS).natAbs

/-- The time argument of the second goal: S + M0 + SETTLE_ALLOW, exact (R82 step 4). -/
def secondGoalTime (c : Items) (slewStart : Nat) (m0 : Exact) : Exact :=
  (Exact.ofInt (slewStart + c.settleAllow : Nat)).add m0

/-- The computation for a chosen wrap: both goals, their motion times, the verdict and D_i (R82, R83). The larger
motion time exceeds MAX_SLEW when either does, and rounds up to the larger of the two rounded values. -/
def proposeWith (s : State) (tr : Track) (slewStart : Nat) (pS k : Int) : Proposal :=
  let c := s.items
  let g0 := withTurns (tr.pos slewStart) k
  let m0 := motionFor c g0 pS
  let g1 := withTurns (tr.evalAt (secondGoalTime c slewStart m0)).1 k
  let m1 := motionFor c g1 pS
  if m0.gtInt c.maxSlew || m1.gtInt c.maxSlew then ⟨.unreachable, 0, some k⟩
  else
    ⟨.go, max (m0.ceilTick c.tickPeriod) (m1.ceilTick c.tickPeriod) + c.settleAllow +
      (if fromBrake s.traj.motion then c.brakeDelay else 0), some k⟩

/-- The proposal computation of the trajectory unit for a record at the epoch E (R82, R83). -/
def computeProposal (s : State) (rec : Record) (epoch : Nat) : Proposal :=
  let slewStart := epoch + s.items.tAgree
  if isStopping s.traj.motion then ⟨.notReady, 0, none⟩
  else
    match chooseWrap s.items rec.track slewStart (predict s slewStart) with
    | none => ⟨.unreachable, 0, none⟩
    | some k => proposeWith s rec.track slewStart (predict s slewStart) k

end Sys2Proof.Machine
end

