-- ==== Sys2Proof/Machine/RoundOps.lean ====
section
/-! DEFINITION. What a round does: starting (R98), selecting (R99, R100), proposing (R102), skipping (R61, R101),
the slew start (R84, R109), the stall (R110); and the abandon (R113). -/

namespace Sys2Proof.Machine

/-! ### Skipping a record (R61, R101) -/

/-- The modes that the removal of the current record ends in STANDING (R101). -/
def standsOnRemoval (m : Motion) : Bool :=
  match m with
  | .slewing _ => true
  | .releasing _ => true
  | .settling => true
  | .tracking => true
  | .stopping _ => false
  | .standing _ => false
  | .braked => false

/-- The motion when the current record is removed: it stands on the last setpoint sent (R101). The lag becomes 0 at the
first STANDING tick (log 40). -/
def standOnRemoval (s : State) : State :=
  if standsOnRemoval s.traj.motion then enterMotion (.standing s.lastSetpoint) s.drawSetpoint else s

/-- The dwell record is emptied if it names the seq (R101). -/
def dropDwellOf (seq : Nat) (s : State) : State :=
  match s.round.dwell with
  | some d => if d.seq = seq then s.withRound { s.round with dwell := none } else s
  | none => s

/-- A record is skipped: removed wherever it is held, the axis stands if it was current, EVENT ROUND SKIPPED
(R61, R100, R101, R108, R109). -/
def skipRecord (seq value : Nat) (s : State) : State :=
  let wasCurrent := PlanStore.slotHolds s.store.current seq
  let s := s.withStore (s.store.remove seq)
  let s := if wasCurrent then standOnRemoval (dropSettle (dropDwellOf seq s)) else s
  report .skipped seq (valueU value) s

/-! ### Selection (R99, R100) -/

/-- The record a round selects, by its kind (R99 steps 1 to 6). -/
def selectRecord (p : PlanStore) : RoundKind → Option Record
  | .breakRound => p.excursion
  | .returnRound =>
    match p.ret with
    | some r => some r
    | none => p.queue.head?
  | .ordinary =>
    match p.current with
    | some r => if r.dwellDone then afterCurrent else some r
    | none => afterCurrent
where
  /-- Steps 4 and 5. -/
  afterCurrent : Option Record :=
    match p.ret with
    | some r => some r
    | none => p.queue.head?

/-- The kind with which selection is repeated after a window skip at round start (R100). -/
def kindAfterSkip : RoundKind → RoundKind
  | .breakRound => .ordinary
  | .ordinary => .ordinary
  | .returnRound => .returnRound

/-- Whether a record's window is closed for a slew start at S (R100). -/
def windowClosed (s : State) (epoch : Nat) (r : Record) : Bool :=
  decide (r.header.windowClose < epoch + s.items.tAgree)

/-- What selection ends with. -/
structure Selection where
  state : State
  kind : RoundKind
  record : Option Record

/-- Selection at the epoch with its window skips (R99, R100). Each repeat has removed a record, so `fuel` above the
number of held records is never used up. -/
def selectTarget (epoch : Nat) : Nat → RoundKind → State → Selection
  | 0, kind, s => ⟨s, kind, none⟩
  | fuel + 1, kind, s =>
    match selectRecord s.store kind with
    | none => ⟨s, kind, none⟩
    | some r =>
      if windowClosed s epoch r then selectTarget epoch fuel (kindAfterSkip kind) (skipRecord r.seq 0 s)
      else ⟨s, kind, some r⟩

/-- More than the records a store can hold. -/
def selectionFuel (p : PlanStore) : Nat := p.queue.length + 4

/-- PLAN_EMPTY at an ordinary round without a target whose queue and return slot are empty (R99). -/
def reportPlanEmpty (sel : Selection) : State :=
  if sel.record = none ∧ sel.kind = .ordinary ∧ sel.state.store.queue = [] ∧ sel.state.store.ret = none then
    report .planEmpty 0 0 sel.state
  else sel.state

/-! ### The own proposal (R102) -/

/-- The round engine's own NOT_READY conditions (R102). -/
def ownNotReady (s : State) : Bool :=
  decide (s.port.linkState = .poor) || s.hold.causes.any || decide (s.time.timeState = .lost)

/-- The own verdict, D_i and the wrap written (R102). -/
def formProposal (s : State) (epoch : Nat) : Option Record → Proposal
  | none => ⟨.noTarget, 0, none⟩
  | some r => if ownNotReady s then ⟨.notReady, 0, none⟩ else computeProposal s r epoch

/-- The wrap_k that a proposal wrote (R75). -/
def writeWrap (seq : Nat) (k : Option Int) (s : State) : State :=
  match k with
  | some k => s.withStore (s.store.setWrap seq k)
  | none => s

/-- The PROPOSE of a round (R37, R102). -/
def sendPropose (r : RoundRecord) (s : State) : State :=
  offerFrame .propose
    (callPayload ⟨r.epoch, r.selected.getD 0, verdictCode r.verdict, if r.verdict = .go then r.ownD else 0⟩)
    (r.epoch + s.items.tPropose) s

/-! ### Starting a round (R98) -/

/-- Whether the plan is HELD. -/
def planHeld (s : State) : Bool := decide (s.round.plan = some .held)

/-- Steps 1 and 2 of R98 and the leaving of HELD (R143): the round in progress is gone with its record, the pending
abandon is dropped, the peer-hold mark is cleared when the plan leaves HELD. -/
def leaveForRound (s : State) : State :=
  let s := if planHeld s then s.withHold { s.hold with peerHold := false } else s
  s.withRound { s.round with abandon := none, rounds := s.round.rounds + 1 }

/-- The round record of step 3 of R98 with the selection and the own proposal in it. -/
def freshRound (number epoch : Nat) (kind : RoundKind) (selected : Option Nat) (p : Proposal) : RoundRecord where
  number := number
  epoch := epoch
  kind := kind
  selected := selected
  verdict := p.verdict
  ownD := p.d
  heard := PerRole.ofFn fun _ => none
  unreachableHeard := false
  outcome := none
  goAsserted := false
  skipAsserted := false
  completeGo := none
  completeSkip := false

/-- Steps 4 to 6 of R98 after selection: the plan is ROUND, the proposal is formed and queued. -/
def proposeFor (epoch : Nat) (sel : Selection) : State :=
  let s := reportPlanEmpty sel
  let p := formProposal s epoch sel.record
  let r := freshRound s.round.rounds epoch sel.kind (sel.record.map Record.seq) p
  let s := writeWrap (r.selected.getD 0) p.wrap s.drawSetpoint
  sendPropose r (s.withRound { s.round with plan := some (.inRound r) })

/-- The plan is ROUND while the target is selected (R98 step 4). -/
def roundBegun (s : State) (epoch : Nat) (kind : RoundKind) : State :=
  s.withRound
    { s.round with plan := some (.inRound (freshRound s.round.rounds epoch kind none ⟨.noTarget, 0, none⟩)) }

/-- A round starts at its epoch (R98). -/
def startRound (kind : RoundKind) (epoch : Nat) (s : State) : State :=
  let s := roundBegun (leaveForRound s) epoch kind
  proposeFor epoch (selectTarget epoch (selectionFuel s.store) kind s)

/-- The kind of the re-round that follows a skip at S (R96). -/
def reRoundKind : RoundKind → RoundKind
  | .returnRound => .returnRound
  | .ordinary => .ordinary
  | .breakRound => .ordinary

/-! ### The slew start (R84, R109) -/

/-- The profile found at S_m takes effect (R86): no distance is a motion end at S_m; a profile begins SLEWING, with
ARRIVAL_LATE when it was lengthened (R88). -/
def beginProfile (r : Release) (f : Fixed) (s : State) : State :=
  match f with
  | .still g => endMotion g r.arrival r.motionStart s
  | .moving p none => enterMotion (.slewing p) s
  | .moving p (some late) => report .arrivalLate r.seq (valueLate late) (enterMotion (.slewing p) s)

/-- The trajectory unit's items at a slew start (R84): wrap offset, offsets, guide, saturated mark, A. -/
def slewItems (rec : Record) (arrival : Nat) (s : State) : State :=
  s.withTraj
    { s.traj with
      wrapOffset := rec.wrapK.getD s.traj.wrapOffset
      commandedOffset := 0, appliedOffset := 0, pendingGuide := 0, guideApplied := 0, saturated := false
      arrival := arrival }

/-- The settle record is filled at a slew start (R165). -/
def fillSettle (seq arrival : Nat) (s : State) : State :=
  s.withAxis { s.axis with settle := some ⟨seq, arrival, 0, false, false⟩ }

/-- The release record of a slew start (R84): p0, S, S_m, A, M. -/
def releaseOf (rec : Record) (slewStart d delay : Nat) (s : State) : Release where
  seq := rec.seq
  slewStart := slewStart
  motionStart := slewStart + delay
  arrival := slewStart + d
  budget := d - s.items.settleAllow - delay
  p0 := s.lastSetpoint

/-- The profile is fixed for a record (R86). -/
def fixFor (rec : Record) (r : Release) (s : State) : State :=
  beginProfile r (fixProfile s.items rec.track s.traj.wrapOffset r) s

/-- The motion of a slew start: from the brake the mode becomes RELEASING and the brake timer runs to S_m (R84,
R85, R161), fixed at once when BRAKE_DELAY is 0 (log 18); otherwise the profile is fixed at S. -/
def slewMotion (rec : Record) (slewStart d : Nat) (s : State) : State :=
  if fromBrake s.traj.motion then
    let r := releaseOf rec slewStart d s.items.brakeDelay s
    let s := enterMotion (.releasing r) s
    if s.items.brakeDelay = 0 then fixFor rec r (s.withAxis { s.axis with brakeTimer := none })
    else s.withAxis { s.axis with brakeTimer := some r.motionStart }
  else fixFor rec (releaseOf rec slewStart d 0 s) s

/-- The dwell record of a slew start (R109). -/
def dwellRecordOf (rec : Record) (arrival : Nat) : DwellRecord where
  seq := rec.seq
  arrival := arrival
  dwellStart := max arrival rec.header.windowOpen
  dwellEnd := max arrival rec.header.windowOpen + rec.header.dwell
  motionEnded := false
  started := false

/-- The round engine's items at a slew start (R109), with the pending RETURN dropped when a PLANNED record becomes
or stays current (R152). -/
def slewRound (rec : Record) (arrival : Nat) (s : State) : State :=
  s.withRound
    { s.round with
      dwell := some (dwellRecordOf rec arrival), abandonSent := false, plan := some (.observing .slew)
      trigger := match s.round.trigger with
        | some t => if t.kind = .returnTo ∧ rec.header.kind = .planned then none else some t
        | none => none }

/-- The slew start of a successful round (R109). -/
def slewStartFor (rec : Record) (slewStart d : Nat) (s : State) : State :=
  let s := s.withStore (s.store.moveIn rec.seq)
  let s := fillSettle rec.seq (slewStart + d) (slewItems rec (slewStart + d) (slewRound rec (slewStart + d) s))
  report .agreed rec.seq (valueU d) (slewMotion rec slewStart d s).drawSetpoint

/-! ### The stall (R110) -/

/-- The heard proposals. -/
def heardList (r : RoundRecord) : List HeardProposal := allRoles.filterMap r.heard.get

/-- Whether a roster axis role has no heard proposal (R110). -/
def roleMissing (c : Items) (r : RoundRecord) : Bool :=
  allRoles.any fun x => c.inRoster x && decide (r.heard.get x = none)

/-- The stall reason, the first row of R110 that applies; `none` when no row does (log 9). -/
def stallReason (c : Items) (r : RoundRecord) : Option Nat :=
  if r.selected = none then some 0
  else if r.verdict = .notReady ∨ ∃ h ∈ heardList r, h.verdict = .notReady then some 1
  else if ∃ h ∈ heardList r, some h.seq ≠ r.selected then some 2
  else if roleMissing c r then some 3
  else if r.outcome = some .nothing ∨ r.outcome = none then none
  else some 4

/-- The round has stalled (R110); a reason that no row gives is a free value (log 9). -/
def stall (r : RoundRecord) (s : State) : State :=
  let w := s.withRound { s.round with plan := some .waiting }
  match stallReason s.items r with
  | some v => report .stall (r.selected.getD 0) (valueU v) w
  | none =>
    report .stall (r.selected.getD 0) (Config.unstatedStallReason s.freeDraws) (w.withFreeDraws (s.freeDraws + 1))

/-! ### The round in progress -/

/-- The record of the round in progress. -/
def roundOf (s : State) : Option RoundRecord :=
  match s.round.plan with
  | some (.inRound r) => some r
  | some (.scheduled r) => some r
  | _ => none

/-- The round's record rewritten, the plan state kept. -/
def updateRound (f : RoundRecord → RoundRecord) (s : State) : State :=
  match s.round.plan with
  | some (.inRound r) => s.withRound { s.round with plan := some (.inRound (f r)) }
  | some (.scheduled r) => s.withRound { s.round with plan := some (.scheduled (f r)) }
  | _ => s

/-! ### Abandon (R113) -/

/-- Whether the plan is OBSERVING in phase SETTLE, DWELL_WAIT or DWELL (R113, R114). -/
def inAbandonPhase (s : State) : Bool :=
  match s.round.plan with
  | some (.observing .settle) => true
  | some (.observing .dwellWait) => true
  | some (.observing .dwell) => true
  | _ => false

/-- Whether a current record is held with dwell_done clear. -/
def currentOpen (s : State) : Bool :=
  match s.store.current with
  | some r => !r.dwellDone
  | none => false

/-- The epoch field of an own ABANDON (R38, R113). The rules give no field to an epoch past the top of mount time, which
48 bits cannot hold: it is a free value, DESIGN CHOICE (log 42). -/
def epochField (epoch : Nat) : Nat := if epoch ≤ Config.timeMax then epoch else (Config.overlongEpoch epoch).toNat

/-- The round engine's answer to a report of TRACK_LOST or LIMIT (R113). -/
def reportAbandonCause (c : AbandonCause) (s : State) : State :=
  if inAbandonPhase s && currentOpen s && decide (s.round.abandon = none) && !s.round.abandonSent then
    let epoch := ceilTo s.items.tickPeriod (s.now + Config.abandonLead)
    offerFrame .abandon (abandonPayload ⟨s.currentSeq, epochField epoch, abandonCode c⟩) epoch
      (s.withRound { s.round with abandonSent := true })
  else s

end Sys2Proof.Machine
end

