-- ==== Sys2Proof/Machine/RoundCmds.lean ====
section
/-! DEFINITION. The round engine (chapters 7 and 10): the frames PROPOSE, GO_ROLL, SKIP_ROLL, ABANDON, the commands
GO, BREAK, RETURN, and the instants PENDING_TRIGGER_EPOCH, OWN_OUTCOME, ROUND_RESULT, BRAKE_TIMER_EXPIRY, ARRIVAL,
DWELL_START, DWELL_END, ABANDON_EPOCH. -/

namespace Sys2Proof.Machine

/-! ### PROPOSE (R103) -/

/-- Whether a PROPOSE is counted (R103): its E is the round's and it is heard before E + T_PROPOSE, or at that
instant before the outcome is formed. -/
def countsPropose (s : State) (r : RoundRecord) (epoch : Nat) : Bool :=
  decide (epoch = r.epoch) && decide (s.now ≤ r.epoch + s.items.tPropose) && decide (r.outcome = none)

/-- The heard-proposal table with the entries of the sender's roles filled (R103). -/
def fillHeard (c : Items) (sender : Nat) (h : HeardProposal) (t : PerRole (Option HeardProposal)) :
    PerRole (Option HeardProposal) :=
  PerRole.ofFn fun r => if c.inRoster r && decide (c.addr.get r = sender) then some h else t.get r

/-- The round record after a PROPOSE is counted (R103): its D is read only with verdict GO (R37). -/
def countPropose (c : Items) (sender : Nat) (v : Verdict) (f : CallFields) (r : RoundRecord) : RoundRecord :=
  { r with
    heard := fillHeard c sender ⟨f.seq, v, if v = .go then f.d else 0⟩ r.heard
    unreachableHeard := r.unreachableHeard || (decide (v = .unreachable) && decide (r.selected = some f.seq)) }

/-- The round engine's decision on a PROPOSE (R35, R36, R103). -/
def judgePropose (o : Origin) (payload : List Byte) (s : State) : Judged :=
  match readCall payload, roundOf s with
  | some f, some r =>
    match verdictOfCode f.verdict with
    | some v =>
      if countsPropose s r f.epoch then take (updateRound (countPropose s.items o.sender.toNat v f) s) else leave s
    | none => leave s
  | _, _ => leave s

/-- PROPOSE (R103). -/
def execPropose (o : Origin) (payload : List Byte) (s : State) : Host.Outcome State Fault Refusal :=
  .next (hear .propose o payload (judgePropose o payload) s)

/-! ### ROLL (R105, R106) -/

/-- Whether a ROLL belongs to the round and is heard before S (R105, R106); seq 0 never does (R37). -/
def rollMatches (s : State) (r : RoundRecord) (f : CallFields) : Bool :=
  decide (f.epoch = r.epoch) && decide (r.selected = some f.seq) && decide (f.seq ≠ 0) &&
    decide (s.now < r.epoch + s.items.tAgree)

/-- The conditions of a GO roll (R105). -/
def assertsGo (s : State) (r : RoundRecord) (f : CallFields) : Bool :=
  rollMatches s r f && decide (r.verdict = .go) && !r.skipAsserted && !r.unreachableHeard && decide (r.ownD ≤ f.d)

/-- The conditions of a SKIP roll (R106). -/
def assertsSkip (s : State) (r : RoundRecord) (f : CallFields) : Bool := rollMatches s r f && !r.goAsserted

/-- A GO roll is judged (R105). -/
def judgeGoRoll (r : RoundRecord) (f : CallFields) (s : State) : Judged :=
  if assertsGo s r f then take (updateRound (fun r => { r with goAsserted := true }) s) else leave s

/-- A SKIP roll is judged (R106). -/
def judgeSkipRoll (r : RoundRecord) (f : CallFields) (s : State) : Judged :=
  if assertsSkip s r f then take (updateRound (fun r => { r with skipAsserted := true }) s) else leave s

/-- The round engine's decision on a ROLL by its verdict (R35, R36): a verdict outside the list, or no round in
progress, and the frame is ignored. -/
def judgeRoll (payload : List Byte) (s : State) : Judged :=
  match readCall payload, roundOf s with
  | some f, some r =>
    if f.verdict = 0 then judgeGoRoll r f s else if f.verdict = 1 then judgeSkipRoll r f s else leave s
  | _, _ => leave s

/-- GO_ROLL (R105). A payload of the other verdict is heard for what it is (log 16). -/
def execGoRoll (o : Origin) (payload : List Byte) (s : State) : Host.Outcome State Fault Refusal :=
  .next (hear .roll o payload (judgeRoll payload) s)

/-- SKIP_ROLL (R106). A payload of the other verdict is heard for what it is (log 16). -/
def execSkipRoll (o : Origin) (payload : List Byte) (s : State) : Host.Outcome State Fault Refusal :=
  .next (hear .roll o payload (judgeRoll payload) s)

/-! ### ABANDON (R114) -/

/-- The conditions of an ABANDON (R114). -/
def admitsAbandon (s : State) (f : AbandonFields) : Bool :=
  inAbandonPhase s && PlanStore.slotHolds s.store.current f.seq && currentOpen s && decide (s.now < f.epoch)

/-- The pending abandon after a taken ABANDON: the earlier epoch of the two (R114). -/
def earlierAbandon (held : Option PendingAbandon) (n : PendingAbandon) : PendingAbandon :=
  match held with
  | none => n
  | some p => if n.epoch < p.epoch then n else p

/-- The round engine's decision on an ABANDON (R35, R36, R114). -/
def judgeAbandon (payload : List Byte) (s : State) : Judged :=
  match readAbandon payload with
  | some f =>
    match abandonOfCode f.cause with
    | some c =>
      if admitsAbandon s f then
        take (s.withRound { s.round with abandon := some (earlierAbandon s.round.abandon ⟨f.seq, f.epoch, c⟩) })
      else leave s
    | none => leave s
  | none => leave s

/-- ABANDON (R114). -/
def execAbandon (o : Origin) (payload : List Byte) (s : State) : Host.Outcome State Fault Refusal :=
  .next (hear .abandon o payload (judgeAbandon payload) s)

/-! ### GO, BREAK, RETURN (R97, R143, R146, R150) -/

/-- A taken command becomes the pending trigger (R97). -/
def setTrigger (k : TriggerKind) (epoch : Nat) (s : State) : State :=
  s.withRound { s.round with trigger := some ⟨k, epoch⟩ }

/-- Whether the axis is STANDING or BRAKED (R143, R178). -/
def atRest (m : Motion) : Bool :=
  match m with
  | .standing _ => true
  | .braked => true
  | .slewing _ => false
  | .settling => false
  | .tracking => false
  | .stopping _ => false
  | .releasing _ => false

/-- Whether a held mount may be released (R143). -/
def releasable (s : State) : Bool := !s.hold.causes.any && atRest s.traj.motion

/-- The plan states in which GO is taken (R97, R143). -/
def admitsGo (s : State) : Bool :=
  match s.round.plan with
  | some .ready => true
  | some .waiting => true
  | some .held => releasable s
  | _ => false

/-- The plan states in which BREAK is taken, with an excursion loaded (R146). -/
def admitsBreak (s : State) : Bool :=
  decide (s.store.excursion ≠ none) &&
    (match s.round.plan with
     | some (.observing _) => true
     | some .waiting => true
     | some .held => releasable s
     | _ => false)

/-- The conditions of RETURN (R150): OBSERVING an EXCURSION. -/
def admitsReturn (s : State) : Bool :=
  (match s.round.plan with
   | some (.observing _) => true
   | _ => false) &&
  (match s.store.current with
   | some r => decide (r.header.kind = .excursion)
   | none => false)

/-- The owner's decision on GO with its rounded epoch. -/
def judgeGo (epoch : Nat) (s : State) : Judged :=
  if s.inRun && admitsGo s then take (setTrigger .go epoch s) else refused .state 2 s

/-- The owner's decision on BREAK with its rounded epoch. -/
def judgeBreak (epoch : Nat) (s : State) : Judged :=
  if s.inRun && admitsBreak s then take (setTrigger .breakIn epoch s) else refused .state 3 s

/-- The owner's decision on RETURN with its rounded epoch. -/
def judgeReturn (epoch : Nat) (s : State) : Judged :=
  if s.inRun && admitsReturn s then take (setTrigger .returnTo epoch s) else refused .state 4 s

/-- GO (R97). -/
def execGo (o : Origin) (args : List Byte) (s : State) : Host.Outcome State Fault Refusal :=
  .next (hearCommand 2 7 o args (withEpoch 2 args judgeGo) s)

/-- BREAK (R146). -/
def execBreakIn (o : Origin) (args : List Byte) (s : State) : Host.Outcome State Fault Refusal :=
  .next (hearCommand 3 7 o args (withEpoch 3 args judgeBreak) s)

/-- RETURN (R150). -/
def execReturnTo (o : Origin) (args : List Byte) (s : State) : Host.Outcome State Fault Refusal :=
  .next (hearCommand 4 7 o args (withEpoch 4 args judgeReturn) s)

/-- The round kind of a trigger (R96). -/
def kindOfTrigger : TriggerKind → RoundKind
  | .go => .ordinary
  | .breakIn => .breakRound
  | .returnTo => .returnRound

/-- The pending trigger whose epoch mount time has reached (R97). -/
def dueTrigger (s : State) : Option Trigger :=
  match s.round.trigger with
  | some t => if t.epoch ≤ s.now then some t else none
  | none => none

/-- The trigger is consumed and its round starts (R97). -/
def fireTrigger (t : Trigger) (s : State) : State :=
  startRound (kindOfTrigger t.kind) t.epoch (s.withRound { s.round with trigger := none })

/-- PENDING_TRIGGER_EPOCH (R97); nothing when no trigger's epoch has come (log 2). -/
def execPendingTriggerEpoch (s : State) : Host.Outcome State Fault Refusal :=
  .next
    (match dueTrigger s with
     | some t => fireTrigger t s
     | none => s)

/-! ### The own outcome (R104) -/

/-- Whether a role's heard proposal is GO for the selected seq. -/
def heardGo (r : RoundRecord) (x : Role) : Bool :=
  match r.heard.get x with
  | some h => decide (h.verdict = .go) && decide (r.selected = some h.seq)
  | none => false

/-- Whether every roster axis role has proposed GO for the selected seq (R104). -/
def allGo (c : Items) (r : RoundRecord) : Bool := allRoles.all fun x => !c.inRoster x || heardGo r x

/-- The largest D in the heard-proposal table (R104). -/
def largestD (r : RoundRecord) : Nat := (heardList r).foldl (fun m h => max m h.d) 0

/-- The own outcome of a round (R104). -/
def formOutcome (c : Items) (r : RoundRecord) : OwnOutcome :=
  if r.verdict = .unreachable ∨ r.unreachableHeard = true then .skip
  else if r.selected ≠ none ∧ allGo c r = true then .go (largestD r)
  else .nothing

/-- The ROLL of an outcome, none for NONE (R37, R104); its deadline is S (R28). -/
def sendRoll (r : RoundRecord) (o : OwnOutcome) (s : State) : State :=
  match o with
  | .skip => offerFrame .roll (callPayload ⟨r.epoch, r.selected.getD 0, 1, 0⟩) (r.epoch + s.items.tAgree) s
  | .go d => offerFrame .roll (callPayload ⟨r.epoch, r.selected.getD 0, 0, d⟩) (r.epoch + s.items.tAgree) s
  | .nothing => s

/-- The round whose outcome is formed now (R104). -/
def dueOutcome (s : State) : Option RoundRecord :=
  match roundOf s with
  | some r => if r.outcome = none ∧ r.epoch + s.items.tPropose ≤ s.now then some r else none
  | none => none

/-- The own outcome is formed, written into the round record, and its ROLL offered (R104). -/
def settleOutcome (r : RoundRecord) (s : State) : State :=
  sendRoll r (formOutcome s.items r) (updateRound (fun r => { r with outcome := some (formOutcome s.items r) }) s)

/-- OWN_OUTCOME (R104); nothing when no outcome is formed now (log 2). -/
def execOwnOutcome (s : State) : Host.Outcome State Fault Refusal :=
  .next
    (match dueOutcome s with
     | some r => settleOutcome r s
     | none => s)

/-! ### The round result (R108 to R110) -/

/-- The round whose result is taken now (R108). -/
def dueResult (s : State) : Option RoundRecord :=
  match roundOf s with
  | some r => if r.epoch + s.items.tAgree ≤ s.now then some r else none
  | none => none

/-- The selected target is skipped at S and a re-round starts with E = S (R96, R108, R109). -/
def skipAndReRound (value : Nat) (r : RoundRecord) (s : State) : State :=
  startRound (reRoundKind r.kind) (r.epoch + s.items.tAgree) (skipRecord (r.selected.getD 0) value s)

/-- A round with a complete GO roll of duration D (R109): the window check, then the slew start. -/
def succeed (d : Nat) (r : RoundRecord) (rec : Record) (s : State) : State :=
  if rec.header.windowClose < r.epoch + s.items.tAgree + d then skipAndReRound 0 r s
  else slewStartFor rec (r.epoch + s.items.tAgree) d s

/-- The round result at S (R108 to R110). -/
def roundResult (r : RoundRecord) (s : State) : Host.Outcome State Fault Refusal :=
  if r.completeSkip then .next (skipAndReRound 1 r s)
  else
    match r.completeGo with
    | none => .next (stall r s)
    | some d =>
      match s.store.find (r.selected.getD 0) with
      | some rec => .next (succeed d r rec s)
      | none => .fault .selectedRecordMissing

/-- ROUND_RESULT (R108); nothing when no round result is taken now (log 2). -/
def execRoundResult (s : State) : Host.Outcome State Fault Refusal :=
  match dueResult s with
  | some r => roundResult r s
  | none => .next s

/-! ### The brake timer (R161) -/

/-- Whether the brake timer expires now (R161). -/
def brakeDue (s : State) : Bool :=
  match s.axis.brakeTimer with
  | some t => decide (t ≤ s.now)
  | none => false

/-- The brake timer stops (R161). -/
def clearBrakeTimer (s : State) : State := s.withAxis { s.axis with brakeTimer := none }

/-- The expiry of the brake timer (R161): in RELEASING the profile is fixed for the current record (R86); in another
mode, which an expiry can find only after the removal of the current record (log 22), nothing else happens. -/
def expireBrake (s : State) : Host.Outcome State Fault Refusal :=
  match s.traj.motion with
  | .releasing r =>
    match s.store.current with
    | some rec => .next (fixFor rec r (clearBrakeTimer s))
    | none => .fault .noCurrentRecord
  | _ => .next (clearBrakeTimer s)

/-- BRAKE_TIMER_EXPIRY (R161); nothing when the timer does not expire now (log 2). -/
def execBrakeTimerExpiry (s : State) : Host.Outcome State Fault Refusal :=
  if brakeDue s then expireBrake s else .next s

/-! ### Dwell timing (R111, R112) -/

/-- Whether the phase moves on from SETTLE at A now (R111). -/
def arrivalDue (s : State) : Bool :=
  match s.round.plan, s.round.dwell with
  | some (.observing .settle), some d => decide (d.arrival ≤ s.now)
  | _, _ => false

/-- The phase after A: DWELL_WAIT is passed over when T_d equals A (R111). -/
def arrive (s : State) : State :=
  match s.round.dwell with
  | some d =>
    s.withRound
      { s.round with plan := some (.observing (if d.dwellStart ≤ d.arrival then .dwell else .dwellWait)) }
  | none => s

/-- ARRIVAL (R111); nothing when the phase is not SETTLE or A has not come (log 2). -/
def execArrival (s : State) : Host.Outcome State Fault Refusal := .next (if arrivalDue s then arrive s else s)

/-- The dwell record whose T_d is taken now (R111). -/
def dueDwellStart (s : State) : Option DwellRecord :=
  match s.round.dwell with
  | some d => if !d.started && decide (d.dwellStart ≤ s.now) then some d else none
  | none => none

/-- The plan at T_d: OBSERVING passes to DWELL once the motion has ended (R111). -/
def planAtDwellStart (d : DwellRecord) (p : Option PlanState) : Option PlanState :=
  match p with
  | some (.observing _) => if d.motionEnded then some (.observing .dwell) else p
  | _ => p

/-- T_d (R111): EVENT MOTION DWELL_START, whether or not the motion has ended. -/
def beginDwell (d : DwellRecord) (s : State) : State :=
  report .dwellStart d.seq (valueU d.dwellStart)
    (s.withRound
      { s.round with dwell := some { d with started := true }, plan := planAtDwellStart d s.round.plan })

/-- DWELL_START (R111); nothing when no T_d is taken now (log 2). -/
def execDwellStart (s : State) : Host.Outcome State Fault Refusal :=
  .next
    (match dueDwellStart s with
     | some d => beginDwell d s
     | none => s)

/-- The dwell record whose dwell ends now (R112). -/
def dueDwellEnd (s : State) : Option DwellRecord :=
  match s.round.dwell with
  | some d => if d.dwellEnd ≤ s.now then some d else none
  | none => none

/-- Whether the plan is OBSERVING. -/
def isObserving (p : Option PlanState) : Bool :=
  match p with
  | some (.observing _) => true
  | some .ready => false
  | some (.inRound _) => false
  | some (.scheduled _) => false
  | some .waiting => false
  | some .held => false
  | none => false

/-- dwell_done of the target is set and its dwell record emptied (R112). -/
def closeDwell (d : DwellRecord) (s : State) : State :=
  let s := if PlanStore.slotHolds s.store.current d.seq then s.withStore s.store.setDwellDone else s
  report .dwellEnd d.seq (valueU d.dwellEnd) (s.withRound { s.round with dwell := none })

/-- The dwell end (R112): a round starts when the plan is OBSERVING, the phase AFTER lasting no time. -/
def endDwell (d : DwellRecord) (s : State) : State :=
  if isObserving s.round.plan then
    let c := closeDwell d s
    startRound .ordinary d.dwellEnd (c.withRound { c.round with plan := some (.observing .after) })
  else closeDwell d s

/-- DWELL_END (R112); nothing when no dwell ends now (log 2). -/
def execDwellEnd (s : State) : Host.Outcome State Fault Refusal :=
  .next
    (match dueDwellEnd s with
     | some d => endDwell d s
     | none => s)

/-! ### The abandon's epoch (R115) -/

/-- The pending abandon whose epoch mount time has reached (R115). -/
def dueAbandon (s : State) : Option PendingAbandon :=
  match s.round.abandon with
  | some a => if a.epoch ≤ s.now then some a else none
  | none => none

/-- The abandon takes effect (R115): dwell_done set, EVENT ROUND ABANDONED, an ordinary round. -/
def fireAbandon (a : PendingAbandon) (s : State) : State :=
  let s := s.withStore s.store.setDwellDone
  let s := report .abandoned a.seq (valueU (abandonCode a.cause)) s
  startRound .ordinary a.epoch (s.withRound { s.round with dwell := none, abandon := none })

/-- ABANDON_EPOCH (R115); nothing when no abandon's epoch has come (log 2). -/
def execAbandonEpoch (s : State) : Host.Outcome State Fault Refusal :=
  .next
    (match dueAbandon s with
     | some a => fireAbandon a s
     | none => s)

end Sys2Proof.Machine
end

