-- ==== Sys2Proof/Machine/ConfigCmds.lean ====
section
/-! DEFINITION. The configuration block (chapter 12): HARD_RESET, CONFIG_ITEM, START, RESTART, STATUS_REQ,
COMMAND_UNKNOWN_CODE. -/

namespace Sys2Proof.Machine

/-! ### HARD_RESET (R172) -/

/-- HARD_RESET (R172): every block takes its hard-reset values, by the straps as read and the levels of the two
lines; what is outside the part (the lines, the commands that wait) stays. -/
def execHardReset (address : BitVec 4) (role : BitVec 3) (s : State) : Host.Outcome State Fault Refusal :=
  .next
    { time := .afterReset
      port := .afterReset
      store := .afterReset
      round := .afterReset
      traj := .afterReset
      hold := .afterReset s.pins
      axis := .afterReset
      conf := .afterReset ⟨address, role⟩
      pins := s.pins
      freeDraws := s.freeDraws
      pending := s.pending }

/-! ### The configuration items (R175) -/

/-- The items by their names. -/
inductive Item where
  | addr (r : Role)
  | addrControl | addrGuider | tickPeriod | tAgree | tPropose | vmax | amax | vtrackMax | softLo | softHi | modular
  | settleWindow | settleCount | settleAllow | feTrip | feTripCount | lagLimit | offsetMax | offsetStep
  | guideEnable | guideMaxStep | guidePendingMax | guideTotalMax | guideStep | holdDecel | brakeDelay | maxSlew
  | intakeTimeout | holdRepeat | coastMax | lockWindow | eventMask
deriving DecidableEq, Repr

/-- The items in the order of their numbers, 1 first (R175). -/
def itemOrder : List Item :=
  [.addr .az, .addr .el, .addr .rot, .addr .dome, .addr .aux, .addrControl, .addrGuider, .tickPeriod, .tAgree,
   .tPropose, .vmax, .amax, .vtrackMax, .softLo, .softHi, .modular, .settleWindow, .settleCount, .settleAllow,
   .feTrip, .feTripCount, .lagLimit, .offsetMax, .offsetStep, .guideEnable, .guideMaxStep, .guidePendingMax,
   .guideTotalMax, .guideStep, .holdDecel, .brakeDelay, .maxSlew, .intakeTimeout, .holdRepeat, .coastMax,
   .lockWindow, .eventMask]

/-- The item of a number; none outside 1 to 37 (R174). -/
def itemOfNumber : Nat → Option Item
  | 0 => none
  | n + 1 => itemOrder[n]?

/-- The smallest value of an item's range (R175). -/
def Item.lo : Item → Int
  | .addr _ => 0
  | .addrControl => 0
  | .addrGuider => 0
  | .tickPeriod => 250
  | .tAgree => 10000
  | .tPropose => 5000
  | .vmax => 1000
  | .amax => 1000
  | .vtrackMax => 1000
  | .softLo => -2000000000
  | .softHi => -2000000000
  | .modular => 0
  | .settleWindow => 1
  | .settleCount => 1
  | .settleAllow => 0
  | .feTrip => 1024
  | .feTripCount => 1
  | .lagLimit => 1024
  | .offsetMax => 0
  | .offsetStep => 1
  | .guideEnable => 0
  | .guideMaxStep => 1
  | .guidePendingMax => 1
  | .guideTotalMax => 1
  | .guideStep => 1
  | .holdDecel => 1000
  | .brakeDelay => 0
  | .maxSlew => 1000000
  | .intakeTimeout => 50000
  | .holdRepeat => 50000
  | .coastMax => 10
  | .lockWindow => 5
  | .eventMask => 0

/-- The largest value of an item's range (R175). -/
def Item.hi : Item → Int
  | .addr _ => 15
  | .addrControl => 15
  | .addrGuider => 15
  | .tickPeriod => 4000
  | .tAgree => 500000
  | .tPropose => 495000
  | .vmax => 25000000
  | .amax => 25000000
  | .vtrackMax => 25000000
  | .softLo => 2000000000
  | .softHi => 2000000000
  | .modular => 1
  | .settleWindow => 1048576
  | .settleCount => 1000
  | .settleAllow => 10000000
  | .feTrip => 36864000
  | .feTripCount => 1000
  | .lagLimit => 36864000
  | .offsetMax => 36864000
  | .offsetStep => 1048576
  | .guideEnable => 1
  | .guideMaxStep => 1048576
  | .guidePendingMax => 1048576
  | .guideTotalMax => 3686400
  | .guideStep => 65536
  | .holdDecel => 25000000
  | .brakeDelay => 2000000
  | .maxSlew => 600000000
  | .intakeTimeout => 2000000
  | .holdRepeat => 2000000
  | .coastMax => 3600
  | .lockWindow => 200
  | .eventMask => 255

/-- A value clamped to an item's range, and TICK_PERIOD down to its step of 250 (R174). -/
def Item.admitted (i : Item) (v : Int) : Int :=
  let c := clampInt i.lo i.hi v
  if i = .tickPeriod then c / 250 * 250 else c

/-- The value of a role replaced. -/
def PerRole.set {α : Type} (x : PerRole α) (r : Role) (v : α) : PerRole α :=
  PerRole.ofFn fun q => if q = r then v else x.get q

/-- The items with one replaced by an admitted value. -/
def Items.put (c : Items) (v : Int) : Item → Items
  | .addr r => { c with addr := c.addr.set r v.toNat }
  | .addrControl => { c with addrControl := v.toNat }
  | .addrGuider => { c with addrGuider := v.toNat }
  | .tickPeriod => { c with tickPeriod := v.toNat }
  | .tAgree => { c with tAgree := v.toNat }
  | .tPropose => { c with tPropose := v.toNat }
  | .vmax => { c with vmax := v.toNat }
  | .amax => { c with amax := v.toNat }
  | .vtrackMax => { c with vtrackMax := v.toNat }
  | .softLo => { c with softLo := v }
  | .softHi => { c with softHi := v }
  | .modular => { c with modular := v.toNat }
  | .settleWindow => { c with settleWindow := v.toNat }
  | .settleCount => { c with settleCount := v.toNat }
  | .settleAllow => { c with settleAllow := v.toNat }
  | .feTrip => { c with feTrip := v.toNat }
  | .feTripCount => { c with feTripCount := v.toNat }
  | .lagLimit => { c with lagLimit := v.toNat }
  | .offsetMax => { c with offsetMax := v.toNat }
  | .offsetStep => { c with offsetStep := v.toNat }
  | .guideEnable => { c with guideEnable := v.toNat }
  | .guideMaxStep => { c with guideMaxStep := v.toNat }
  | .guidePendingMax => { c with guidePendingMax := v.toNat }
  | .guideTotalMax => { c with guideTotalMax := v.toNat }
  | .guideStep => { c with guideStep := v.toNat }
  | .holdDecel => { c with holdDecel := v.toNat }
  | .brakeDelay => { c with brakeDelay := v.toNat }
  | .maxSlew => { c with maxSlew := v.toNat }
  | .intakeTimeout => { c with intakeTimeout := v.toNat }
  | .holdRepeat => { c with holdRepeat := v.toNat }
  | .coastMax => { c with coastMax := v.toNat }
  | .lockWindow => { c with lockWindow := v.toNat }
  | .eventMask => { c with eventMask := v.toNat }

/-- A received duration rounded up to a tick, or down to the greatest multiple within the maximum (R174). -/
def tickForm (period max received : Nat) : Nat :=
  if ceilTo period received ≤ max then ceilTo period received else max / period * period

/-- The received values of SETTLE_ALLOW and BRAKE_DELAY after an item is taken (R173, R174). -/
def putReceived (v : Nat) (i : Item) (b : ConfigBlock) : ConfigBlock :=
  match i with
  | .settleAllow => { b with receivedSettle := v }
  | .brakeDelay => { b with receivedBrake := v }
  | _ => b

/-- SETTLE_ALLOW and BRAKE_DELAY formed anew from their received values (R174). -/
def reformTicks (b : ConfigBlock) : ConfigBlock :=
  { b with
    items :=
      { b.items with
        settleAllow := tickForm b.items.tickPeriod 10000000 b.receivedSettle
        brakeDelay := tickForm b.items.tickPeriod 2000000 b.receivedBrake } }

/-- The configuration block after an item is taken (R174). Forming both tick values anew at every item leaves
those alone whose received value and tick did not change. -/
def putItem (i : Item) (v : Int) (b : ConfigBlock) : ConfigBlock :=
  let a := i.admitted v
  reformTicks (putReceived a.toNat i { b with items := b.items.put a i })

/-- The first multiple of a period after an instant (R14). -/
def nextMultiple (period t : Nat) : Nat := (t / period + 1) * period

/-- A taken CONFIG (R174): the item, L formed anew (R77), and the next tick when TICK_PERIOD changed (R14). -/
def takeItem (i : Item) (v : Int) (s : State) : State :=
  let b := putItem i v s.conf
  let t : TimeBase :=
    if b.items.tickPeriod = s.items.tickPeriod then s.time
    else { s.time with nextTick := nextMultiple b.items.tickPeriod s.now }
  ((s.withConf b).withTime t).withTraj { s.traj with stepL := b.items.rateStep }

/-- The third byte of a refused CONFIG: the item number, or 255 where the payload holds none (R42, log 21). -/
def configThird (payload : List Byte) : Nat :=
  match payload with
  | b :: _ => b.toNat
  | [] => 255

/-- The configuration block's decision on a CONFIG (R35, R174). -/
def judgeConfig (payload : List Byte) (s : State) : Judged :=
  match readConfig payload with
  | none => leave (refuseCommand .range .config (configThird payload) s)
  | some (n, v) =>
    if s.inRun then leave (refuseCommand .locked .config n s)
    else if s.hold.causes.estop then leave (refuseCommand .state .config n s)
    else
      match itemOfNumber n with
      | none => leave (refuseCommand .unknown .config n s)
      | some i => take (takeItem i v s)

/-- CONFIG_ITEM (R174). -/
def execConfigItem (o : Origin) (payload : List Byte) (s : State) : Host.Outcome State Fault Refusal :=
  .next (hear .config o payload (judgeConfig payload) s)

/-! ### START (R177) -/

/-- Whether the roster address of the own role is the strap address (R177 step 2). -/
def ownAddressMatches (s : State) : Bool :=
  match s.ownRole with
  | some r => decide (s.items.addr.get r = s.ownAddress)
  | none => false

/-- The steps of R177; `none` when every check holds. -/
def startFails (s : State) : Option Reason :=
  if s.inRun then some .state
  else if !ownAddressMatches s then some .range
  else if s.items.addrControl = 15 then some .range
  else if s.items.softHi ≤ s.items.softLo then some .range
  else if s.items.tAgree < s.items.tPropose + 5000 then some .range
  else if s.time.timeState ≠ .locked ∨ s.time.setTaken = false then some .state
  else none

/-- The round engine READY with its items as R95 gives them at START and RESTART; the rounds stay numbered (log 4). -/
def readyRound (e : RoundEngine) : RoundEngine :=
  { RoundEngine.afterReset with plan := some .ready, rounds := e.rounds }

/-- A taken START (R177): RUN, the pending set discarded, the plan READY, the causes taken as raised (R133). -/
def takeStart (s : State) : State :=
  retakeCauses
    (((s.withConf { s.conf with life := .run }).withTime { s.time with pendingSet := none }).withRound
      (readyRound s.round))

/-- The configuration block's decision on START (R177). -/
def judgeStart (s : State) : Judged :=
  match startFails s with
  | some r => refused r 1 s
  | none => take (takeStart s)

/-- START (R177). -/
def execStart (o : Origin) (args : List Byte) (s : State) : Host.Outcome State Fault Refusal :=
  .next (hearCommand 1 1 o args (gateEstop 1 judgeStart) s)

/-! ### RESTART (R178) -/

/-- The trajectory unit's items after RESTART, the mode apart (R79, R93, R130). -/
def restartTraj (j : Trajectory) : Trajectory :=
  { j with
    wrapOffset := 0, lag := 0, trackSetpoint := 0, commandedOffset := 0, appliedOffset := 0, pendingGuide := 0
    guideApplied := 0, saturated := false }

/-- The axis interface's items after RESTART, the outputs apart (R157). -/
def restartAxis (a : AxisInterface) : AxisInterface :=
  { a with brakeTimer := none, failureCount := 0, goodRun := 0, tripCount := 0, settle := none }

/-- The hold logic's items after RESTART (R131): the repeat timer runs again only from a cause taken as raised. -/
def restartHold (h : HoldLogic) : HoldLogic :=
  { causes := { h.causes with following := false, encoder := false }, peerHold := false, repeatTimer := none }

/-- The blocks that RESTART empties (R64, R178). -/
def clearedBlocks (s : State) : State :=
  ((((s.withStore .afterReset).withRound (readyRound s.round)).withTraj (restartTraj s.traj)).withAxis
    (restartAxis s.axis)).withHold (restartHold s.hold)

/-- A taken RESTART (R178): the axis on its brake, and the causes still in the set taken as raised (R133). -/
def takeRestart (s : State) : State := retakeCauses (enterMotion .braked (clearedBlocks s))

/-- The configuration block's decision on RESTART (R178). -/
def judgeRestart (s : State) : Judged :=
  if s.inRun && atRest s.traj.motion then take (takeRestart s) else refused .state 7 s

/-- RESTART (R178). -/
def execRestart (o : Origin) (args : List Byte) (s : State) : Host.Outcome State Fault Refusal :=
  .next (hearCommand 7 1 o args (gateEstop 7 judgeRestart) s)

/-! ### STATUS_REQ (R179) -/

/-- The STATUS frame of a page with its deadline (R28, R44). -/
def sendStatus (payload : List Byte) (s : State) : State := offerFrame .status payload (s.now + 100000) s

/-- The configuration block's decision on STATUS_REQ: page 0 or 1, any other refused (R41, R179). -/
def judgeStatusReq (args : List Byte) (s : State) : Judged :=
  if fieldU args 0 1 = 0 then take (sendStatus (statusPage0 s) s).drawSetpoint
  else if fieldU args 0 1 = 1 then take (sendStatus (statusPage1 s) s)
  else refused .range 8 s

/-- STATUS_REQ (R179). -/
def execStatusReq (o : Origin) (args : List Byte) (s : State) : Host.Outcome State Fault Refusal :=
  .next (hearCommand 8 2 o args (judgeStatusReq args) s)

/-! ### COMMAND_UNKNOWN_CODE (R41) -/

/-- The payload of a COMMAND without a known code. -/
def unknownPayload (code : Option UnknownCode) (args : List Byte) : List Byte :=
  match code with
  | some c => c.val :: args
  | none => []

/-- The third byte of its refusal: the code, or 255 where none exists (R42). -/
def unknownThird (code : Option UnknownCode) : Nat :=
  match code with
  | some c => c.val.toNat
  | none => 255

/-- COMMAND_UNKNOWN_CODE (R41 step 1): refused UNKNOWN. -/
def execCommandUnknownCode (o : Origin) (code : Option UnknownCode) (args : List Byte) (s : State) :
    Host.Outcome State Fault Refusal :=
  .next
    (hear .command o (unknownPayload code args)
      (fun s => leave (refuseCommand .unknown .command (unknownThird code) s)) s)

end Sys2Proof.Machine
end

