-- ==== Sys2Proof/Machine/HoldCmds.lean ====
section
/-! DEFINITION. The hold logic (chapter 9): DRIVE_FAULT_ASSERTED, DRIVE_FAULT_DEASSERTED,
EMERGENCY_STOP_ASSERTED, EMERGENCY_STOP_DEASSERTED, HOLD_REPEAT, HOLD. -/

namespace Sys2Proof.Machine

/-- The level of the drive-fault line. -/
def setDriveFault (b : Bool) (s : State) : State := s.withPins { s.pins with driveFault := b }

/-- The level of the emergency-stop line. -/
def setEstop (b : Bool) (s : State) : State := s.withPins { s.pins with estop := b }

/-- DRIVE_FAULT_ASSERTED (R135): the line is asserted and DRIVE raised. -/
def execDriveFaultAsserted (s : State) : Host.Outcome State Fault Refusal :=
  .next (raiseCause .drive (setDriveFault true s))

/-- DRIVE_FAULT_DEASSERTED (R132): DRIVE ends; neither the hold nor the brake is released. -/
def execDriveFaultDeasserted (s : State) : Host.Outcome State Fault Refusal :=
  .next (endCause .drive (setDriveFault false s))

/-- EMERGENCY_STOP_ASSERTED (R135): the line is asserted and ESTOP raised. -/
def execEmergencyStopAsserted (s : State) : Host.Outcome State Fault Refusal :=
  .next (raiseCause .estop (setEstop true s))

/-- EMERGENCY_STOP_DEASSERTED (R144): ESTOP ends and with it its refusals; the motion stays BRAKED and the plan HELD. -/
def execEmergencyStopDeasserted (s : State) : Host.Outcome State Fault Refusal :=
  .next (endCause .estop (setEstop false s))

/-- Whether the repeat timer expires now (R140). -/
def repeatDue (s : State) : Bool :=
  match s.hold.repeatTimer with
  | some t => decide (t ≤ s.now)
  | none => false

/-- The repeat timer's expiry (R140): a repeat HOLD for the persisting cause of lowest code and a new expiry, or the
timer stops. -/
def repeatHold (s : State) : State :=
  match s.hold.causes.lowest with
  | some c => startRepeat (sendHold c s)
  | none => s.withHold { s.hold with repeatTimer := none }

/-- HOLD_REPEAT (R140); nothing when the timer does not expire now (log 2). -/
def execHoldRepeat (s : State) : Host.Outcome State Fault Refusal :=
  .next (if repeatDue s then repeatHold s else s)

/-- The hold logic's decision on a HOLD frame (R137, R35): taken in RUN; the own HOLD changes nothing else; any
other sets the peer-hold mark and takes a hold. -/
def judgeHold (o : Origin) (payload : List Byte) (s : State) : Judged :=
  match readHold payload with
  | none => leave s
  | some _ =>
    if !s.inRun then leave s
    else if o.sender = s.conf.straps.address then take s
    else take (takeHold false (s.withHold { s.hold with peerHold := true }))

/-- HOLD (R137). -/
def execHold (o : Origin) (payload : List Byte) (s : State) : Host.Outcome State Fault Refusal :=
  .next (hear .hold o payload (judgeHold o payload) s)

end Sys2Proof.Machine
end

