-- ==== Sys2Proof/Machine/PlanCmds.lean ====
section
/-! DEFINITION. The plan store (chapter 4): PLAN_HEAD, PLAN_SEG, INTAKE_TIMEOUT, PLAN_CLEAR. -/

namespace Sys2Proof.Machine

/-! ### Headers (R40, R50 to R53) -/

/-- The own role's count of a header. -/
def ownCount (s : State) (counts : PerRole Nat) : Nat :=
  match s.ownRole with
  | some r => counts.get r
  | none => 0

/-- Whether any count of a header is above 6 (R40). -/
def countAbove6 (counts : PerRole Nat) : Bool := allRoles.any fun r => decide (6 < counts.get r)

/-- Whether the count of a roster axis role is 0 (R50 step 7). -/
def rosterCountZero (c : Items) (counts : PerRole Nat) : Bool :=
  allRoles.any fun r => c.inRoster r && decide (counts.get r = 0)

/-- A header is refused (R42): its seq in the event, 255 as third byte. -/
def refuseHead (reason : Reason) (seq : Nat) (s : State) : Judged :=
  leave (refuse reason .planHead 255 .planRefused seq s)

/-- The header a decoded PLAN_HEAD stands for (R40). -/
def headerOf (f : HeadFields) (k : RecordKind) : Header :=
  { seq := f.seq, kind := k, windowOpen := f.windowOpen, windowClose := f.windowClose, dwell := f.dwell
    counts := f.counts }

/-- The seq selected by the round in progress (R50 step 4). -/
def selectedSeq (s : State) : Option Nat :=
  match s.round.plan with
  | some (.inRound r) => r.selected
  | some (.scheduled r) => r.selected
  | _ => none

/-- Whether the round's selected target is the record in the excursion slot (R50 step 4). -/
def excursionSelected (s : State) : Bool :=
  match selectedSeq s with
  | some q => PlanStore.slotHolds s.store.excursion q
  | none => false

/-- The entries a header finds free: those of a loaded excursion count for an EXCURSION header (R50 step 9). -/
def freeFor (s : State) (k : RecordKind) : Nat :=
  s.store.free + (if k = .excursion then PlanStore.slotSize s.store.excursion else 0)

/-- Steps 4 to 9 of R50; `none` when the header passes. -/
def headerFails (s : State) (h : Header) : Option Reason :=
  if h.kind = .excursion ∧ excursionSelected s = true then some .state
  else if h.kind = .planned ∧ h.seq ≤ s.store.lastAppended then some .order
  else if s.store.holds h.seq then some .duplicate
  else if h.seq = 0 ∨ h.dwell < 1000000 ∨ 3600000000 < h.dwell ∨ h.windowClose < h.windowOpen ∨
      rosterCountZero s.items h.counts = true then some .range
  else if h.kind = .planned ∧ Config.pendingCapacity ≤ s.store.queue.length then some .full
  else if freeFor s h.kind < ownCount s h.counts then some .full
  else none

/-- A loaded excursion is discarded when an EXCURSION header is taken (R52). -/
def discardExcursion (p : PlanStore) : PlanStore :=
  { p with excursion := none, free := p.free + PlanStore.slotSize p.excursion }

/-- The intake is opened with its reservation (R51). -/
def openIntake (h : Header) (n now : Nat) (p : PlanStore) : PlanStore :=
  { p with
    free := p.free - n
    intake := some
      { header := h, reserved := n, segments := [], nextExpected := 0, lastTaken := none, start := now } }

/-- A header that passes is taken (R51, R52). -/
def takeHeader (h : Header) (s : State) : State :=
  let p := if h.kind = .excursion then discardExcursion s.store else s.store
  s.withStore (openIntake h (ownCount s h.counts) s.now p)

/-- Steps 1 to 9 of R50 for a decoded header, with the repeat of R53 while an intake is open. -/
def judgeHeader (h : Header) (s : State) : Judged :=
  if !s.inRun then refuseHead .state h.seq s
  else if s.hold.causes.estop then refuseHead .state h.seq s
  else
    match s.store.intake with
    | some i => if i.header = h then take s else refuseHead .busy h.seq s
    | none =>
      match headerFails s h with
      | some r => refuseHead r h.seq s
      | none => take (takeHeader h s)

/-- The plan store's decision on a PLAN_HEAD (R35, R36, R40, R50). The seq of the event that refuses a header of a
wrong length is a free value (log 7). -/
def judgePlanHead (payload : List Byte) (s : State) : Judged :=
  match readHead payload with
  | none => refuseHead .range (Config.malformedHeaderSeq payload).toNat s
  | some f =>
    match kindOfCode f.kind with
    | none => refuseHead .range f.seq s
    | some k => if countAbove6 f.counts then refuseHead .range f.seq s else judgeHeader (headerOf f k) s

/-- PLAN_HEAD (R50). -/
def execPlanHead (o : Origin) (payload : List Byte) (s : State) : Host.Outcome State Fault Refusal :=
  .next (hear .planHead o payload (judgePlanHead payload) s)

/-! ### Segments (R54 to R57) -/

/-- Whether segments increase strictly in t_start and are contiguous (R46). -/
def ordered : Segment → List Segment → Bool
  | _, [] => true
  | a, b :: rest => decide (a.tStart < b.tStart) && decide (b.tStart = a.finish) && ordered b rest

/-- Whether a track covers a header's window and dwell (R46). -/
def covers (h : Header) (t : Track) : Bool :=
  decide (t.first.tStart ≤ h.windowOpen) && decide (h.windowClose + h.dwell ≤ t.last.finish)

/-- The validation of R56 by the conditions of R46. -/
def validRecord (h : Header) (t : Track) : Bool := ordered t.first t.rest && covers h t

/-- The intake is discarded and its entries return to free (R49). -/
def discardIntake (p : PlanStore) : PlanStore :=
  match p.intake with
  | some i => { p with intake := none, free := p.free + i.reserved }
  | none => p

/-- The record joins its place at commit (R56). -/
def commitRecord (h : Header) (t : Track) (p : PlanStore) : PlanStore :=
  let rec0 : Record := { header := h, track := t, dwellDone := false, wrapK := none }
  match h.kind with
  | .planned =>
    { p with queue := p.queue ++ [rec0], lastAppended := h.seq, lastCommitted := h.seq, intake := none }
  | .excursion => { p with excursion := some rec0, lastCommitted := h.seq, intake := none }

/-- The last segment of a record: the record commits, or is refused COVERAGE (R56). -/
def finishIntake (i : Intake) (g : SegFields) (s : State) : Judged :=
  let t := Track.snoc i.segments g.segment
  if validRecord i.header t then
    let s := s.withStore (commitRecord i.header t s.store)
    take (report .planTaken i.header.seq (valueU s.store.free) s)
  else
    leave (refuse .coverage .planSeg g.index .planRefused i.header.seq (s.withStore (discardIntake s.store)))

/-- The expected segment is stored (R54). -/
def storeSegment (i : Intake) (g : SegFields) (s : State) : State :=
  s.withStore
    { s.store with
      intake := some
        { i with segments := i.segments ++ [g.segment], nextExpected := i.nextExpected + 1, lastTaken := some g.index } }

/-- Whether a segment is the one the open intake expects (R54). -/
def expectedSegment (i : Intake) (g : SegFields) : Bool :=
  decide (g.seq = i.header.seq) && decide (g.index = i.nextExpected) && decide (1 ≤ g.segment.span) &&
    decide (g.segment.span ≤ Config.spanMax)

/-- Whether a segment repeats the one last taken (R55). -/
def repeatsLast (i : Intake) (g : SegFields) : Bool :=
  decide (g.seq = i.header.seq) && decide (i.lastTaken = some g.index) && decide (i.segments.getLast? = some g.segment)

/-- The record of the last committed seq, where R57 looks for it: the pending queue or the excursion slot. -/
def committedRecord (p : PlanStore) : Option Record :=
  if PlanStore.slotHolds p.excursion p.lastCommitted then p.excursion
  else p.queue.find? fun r => decide (r.seq = p.lastCommitted)

/-- Whether a segment repeats the last segment of the record last committed (R57). -/
def repeatsCommitted (p : PlanStore) (g : SegFields) : Bool :=
  match committedRecord p with
  | some r => decide (g.seq = p.lastCommitted) && decide (g.index + 1 = r.track.size) && decide (r.track.last = g.segment)
  | none => false

/-- A segment while an intake is open (R54, R55). -/
def judgeOpenSegment (i : Intake) (g : SegFields) (s : State) : Judged :=
  if expectedSegment i g then
    if i.nextExpected + 1 < i.reserved then take (storeSegment i g s) else finishIntake i g s
  else if repeatsLast i g then take s
  else leave s

/-- The plan store's decision on a PLAN_SEG (R35, R54, R55, R57, R144). -/
def judgePlanSeg (payload : List Byte) (s : State) : Judged :=
  match readSeg payload with
  | none => leave s
  | some g =>
    if s.hold.causes.estop then leave s
    else
      match s.store.intake with
      | some i => judgeOpenSegment i g s
      | none => if repeatsCommitted s.store g then take s else leave s

/-- PLAN_SEG (R54). -/
def execPlanSeg (o : Origin) (payload : List Byte) (s : State) : Host.Outcome State Fault Refusal :=
  .next (hear .planSeg o payload (judgePlanSeg payload) s)

/-! ### The intake's timeout (R58) -/

/-- Whether the open intake expires now (R58). -/
def intakeDue (s : State) : Bool :=
  match s.store.intake with
  | some i => decide (i.start + s.items.intakeTimeout ≤ s.now)
  | none => false

/-- The expiry of the intake (R58): discarded, with EVENT PLAN INTAKE_TIMEOUT. -/
def expireIntake (s : State) : State :=
  match s.store.intake with
  | some i => report .intakeTimeout i.header.seq (valueU i.nextExpected) (s.withStore (discardIntake s.store))
  | none => s

/-- INTAKE_TIMEOUT (R58); nothing when no intake expires now (log 2). -/
def execIntakeTimeout (s : State) : Host.Outcome State Fault Refusal :=
  .next (if intakeDue s then expireIntake s else s)

/-! ### PLAN_CLEAR (R59) -/

/-- The records PLAN_CLEAR removes: the pending queue and the excursion slot (R59). -/
def clearedCount (p : PlanStore) : Nat := p.queue.length + (if p.excursion = none then 0 else 1)

/-- The plan store after PLAN_CLEAR (R59): the current and return slots are untouched. -/
def clearPlan (p : PlanStore) : PlanStore :=
  let q := discardIntake p
  { q with
    queue := [], excursion := none, lastAppended := 0, lastCommitted := 0
    free := q.free + PlanStore.queueSize p.queue + PlanStore.slotSize p.excursion }

/-- Whether the plan state admits PLAN_CLEAR (R59). -/
def admitsClear (p : Option PlanState) : Bool :=
  match p with
  | some .ready => true
  | some (.observing _) => true
  | some .waiting => true
  | some .held => true
  | some (.inRound _) => false
  | some (.scheduled _) => false
  | none => false

/-- The plan store's decision on PLAN_CLEAR (R59). -/
def judgePlanClear (s : State) : Judged :=
  if s.inRun && admitsClear s.round.plan then
    take (report .planCleared 0 (valueU (clearedCount s.store)) (s.withStore (clearPlan s.store)))
  else refused .state 6 s

/-- PLAN_CLEAR (R59). -/
def execPlanClear (o : Origin) (args : List Byte) (s : State) : Host.Outcome State Fault Refusal :=
  .next (hearCommand 6 1 o args (gateEstop 6 judgePlanClear) s)

end Sys2Proof.Machine
end

