-- ==== Sys2Proof/Machine/TimeCmds.lean ====
section
/-! DEFINITION. The time base (chapter 1): PPS_EDGE, UNIT_CORRECTION, CORRECTION_SECOND_END,
EXPECTED_SECOND_JUDGEMENT, REGAIN_RUN_MISS, LINK_SECOND_CLOSE, TIME_SET, and the passing of one microsecond. -/

namespace Sys2Proof.Machine

/-! ### Mount time (R1, R13 to R15) -/

/-- Mount time advanced by `n`, holding at its top (R1). -/
def advanceTime (n : Nat) (t : TimeBase) : TimeBase := { t with mountTime := min (t.mountTime + n) Config.timeMax }

/-- One microsecond of the local oscillator passes (R1). -/
def passMicrosecond (s : State) : State := s.withTime (advanceTime 1 s.time)

/-- The first whole second after a mount time (R13). -/
def secondAfter (t : Nat) : Nat := (t / Config.second + 1) * Config.second

/-- The trace phase that a TRACE_SET of a mode gives (R169, R170). -/
def phaseOfMode : TraceMode → TracePhase
  | .off => .idle
  | .free => .recording
  | .startOn => .armed
  | .stopOn => .recording

/-- The trace ring emptied by a step of mount time, the setting kept (R13, R169). -/
def emptyTrace (s : State) : State :=
  s.withAxis { s.axis with ring := [], phase := phaseOfMode s.axis.setting.mode }

/-- The time base after a step to `t` (R13, R14). Mount time cannot be stepped past its top: a whole second beyond it,
which the fourth edge of R4 can have in the last 210,655 µs, leaves mount time at the top, DESIGN CHOICE (log 41). -/
def steppedTime (period t : Nat) (b : TimeBase) : TimeBase :=
  { b with
    mountTime := min t Config.timeMax, residue := 0, correction := none
    nextSecond := secondAfter (min t Config.timeMax), nextTick := ceilTo period (min t Config.timeMax) }

/-- The transmit entries whose deadlines mount time has reached at `now` expire (R13, R31). -/
def expireQueue (now : Nat) (s : State) : State := s.withPort (s.port.expire now)

/-- A step of mount time (R13): the residue and the correction second end, the transmit entries that it passes expire
at once with those at their deadline before it, the link second closes, ticks are taken up again, the trace ring is
emptied. No other deadline or timer runs in CONFIG or STRAP_FAULT, where alone a step can happen. -/
def stepTo (t : Nat) (s : State) : State :=
  let n := s.withTime (steppedTime s.items.tickPeriod t s.time)
  emptyTrace (gradeLink (expireQueue (max s.now n.now) n))

/-! ### PPS edges (R3 to R5, R8, R12) -/

/-- The corrected capture of an edge now (R3). -/
def correctedCapture (b : TimeBase) : Int := b.mountTime + b.residue

/-- The whole second of a corrected capture: the nearest, the later of two (R3). -/
def wholeSecond (c : Int) : Int := (c + Config.halfSecond) / (Config.second : Int) * Config.second

/-- The capture error of an edge now (R3). -/
def captureError (b : TimeBase) : Int := correctedCapture b - wholeSecond (correctedCapture b)

/-- A correction second beginning at `t` with a residue (R10); none runs when q is 0. -/
def beginCorrection (t : Nat) (residue : Int) : Option Correction :=
  if clampAbs 100 residue = 0 then none else some ⟨t, clampAbs 100 residue, 0⟩

/-- The qualifying count after an edge in FREE (R4). -/
def qualifyCount (c : Items) (b : TimeBase) : Nat :=
  match b.lastCapture with
  | none => 1
  | some l =>
    if ((b.mountTime : Int) - l - Config.second).natAbs ≤ c.lockWindow then b.qualifying + 1 else 1

/-- The fourth qualified edge (R4): mount time is stepped onto W, the state becomes LOCKED, EVENT TIME LOCKED. W stays
the good second also where it lies past the top of mount time (log 41). -/
def lockFromFree (s : State) : State :=
  let e := captureError s.time
  let w := wholeSecond (correctedCapture s.time)
  let s := stepTo ((s.time.mountTime : Int) - e).toNat s
  let s := s.withTime
    { s.time with
      timeState := .locked, qualifying := 0, misses := 0
      goodSeconds := [w], judgeSecond := w + Config.second }
  endCause .time (report .timeLocked 0 (valueS e) s)

/-- An edge in FREE (R4). -/
def edgeFree (s : State) : State :=
  if qualifyCount s.items s.time = 4 then lockFromFree s
  else s.withTime { s.time with qualifying := qualifyCount s.items s.time }

/-- A pending set is applied at a good edge in LOCKED (R12). -/
def applySet (second : Nat) (s : State) : State :=
  let s := stepTo (second * Config.second) s
  s.withTime
    { s.time with
      pendingSet := none, setTaken := true, misses := 0
      goodSeconds := [((second * Config.second : Nat) : Int)]
      judgeSecond := ((second * Config.second : Nat) : Int) + Config.second }

/-- The good edge of a whole second is taken (R5): the seconds of good edges that are judged already are forgotten, since
the corrected capture of a later edge cannot fall back to them (log 44). -/
def takeGood (w : Int) (b : TimeBase) : List Int := w :: b.goodSeconds.filter fun g => decide (b.judgeSecond ≤ g)

/-- A first good edge for its whole second without a pending set (R5). -/
def correctAt (s : State) : State :=
  let residue := s.time.residue - captureError s.time
  s.withTime
    { s.time with
      misses := 0, residue := residue, correction := beginCorrection s.time.mountTime residue
      goodSeconds := takeGood (wholeSecond (correctedCapture s.time)) s.time }

/-- An edge in LOCKED (R5): only a good edge whose whole second has none yet does anything. -/
def edgeLocked (s : State) : State :=
  if (captureError s.time).natAbs ≤ s.items.lockWindow ∧
      wholeSecond (correctedCapture s.time) ∉ s.time.goodSeconds then
    match s.time.pendingSet with
    | some n => applySet n s
    | none => correctAt s
  else s

/-- The fourth regain edge (R8): LOCKED without a step, the error left to the slewed correction. The expected seconds
are those after its W (R6). -/
def regainLock (s : State) : State :=
  let e := captureError s.time
  let w := wholeSecond (correctedCapture s.time)
  let residue := s.time.residue - e
  let s := s.withTime
    { s.time with
      timeState := .locked, residue := residue, correction := beginCorrection s.time.mountTime residue
      misses := 0, qualifying := 0, coastSeconds := 0, regainSecond := none
      goodSeconds := [w], judgeSecond := max s.time.judgeSecond (w + Config.second) }
  endCause .time (report .timeLocked 0 (valueS e) s)

/-- The qualifying count after a regain edge for W (R8). -/
def regainCount (w : Int) (b : TimeBase) : Nat :=
  if b.regainSecond = some (w - Config.second) then b.qualifying + 1 else 1

/-- An edge in COAST or LOST (R8). -/
def edgeRegain (s : State) : State :=
  let w := wholeSecond (correctedCapture s.time)
  if Config.regainWindow < (captureError s.time).natAbs ∨ s.time.regainSecond = some w then s
  else if regainCount w s.time = 4 then regainLock s
  else s.withTime { s.time with qualifying := regainCount w s.time, regainSecond := some w }

/-- The edge handled by the time state (R3). -/
def edgeByState (s : State) : State :=
  match s.time.timeState with
  | .free => edgeFree s
  | .locked => edgeLocked s
  | .coast => edgeRegain s
  | .lost => edgeRegain s

/-- PPS_EDGE (R3): the edge is handled by the time state, and its capture becomes the last capture. -/
def execPpsEdge (s : State) : Host.Outcome State Fault Refusal :=
  let t := edgeByState s
  .next (t.withTime { t.time with lastCapture := some s.time.mountTime })

/-! ### The slewed correction (R10) -/

/-- The instant of the next unit correction of a correction second. -/
def nextUnit (c : Correction) : Nat := c.start + (c.done + 1) * (Config.second / c.q.natAbs)

/-- Whether a unit correction falls now. -/
def unitDue (b : TimeBase) : Bool :=
  match b.correction with
  | some c => decide (c.done < c.q.natAbs) && decide (nextUnit c ≤ b.mountTime)
  | none => false

/-- A residue one microsecond nearer to 0 (R10). -/
def towardZero (x : Int) : Int := x - signOf x

/-- The microsecond of a unit correction (R10): mount time advances by two, or holds. -/
def unitCorrection (b : TimeBase) : TimeBase :=
  match b.correction with
  | some c =>
    { advanceTime (if 0 < c.q then 2 else 0) b with
      residue := towardZero b.residue, correction := some { c with done := c.done + 1 } }
  | none => b

/-- UNIT_CORRECTION (R10): the microsecond in which a unit correction falls; nothing when none falls now (log 2). -/
def execUnitCorrection (s : State) : Host.Outcome State Fault Refusal :=
  .next (if unitDue s.time then s.withTime (unitCorrection s.time) else s)

/-- Whether the correction second in progress ends now: its time is over and its unit corrections are made. -/
def correctionEndDue (b : TimeBase) : Bool :=
  match b.correction with
  | some c => decide (c.q.natAbs ≤ c.done) && decide (c.start + Config.second ≤ b.mountTime)
  | none => false

/-- The end of a correction second (R10): with a residue left the next begins at once, at the instant of the
end (log 20). -/
def endCorrection (b : TimeBase) : TimeBase :=
  match b.correction with
  | some c => { b with correction := beginCorrection (c.start + Config.second) b.residue }
  | none => b

/-- CORRECTION_SECOND_END (R10); nothing when no correction second ends now (log 2). -/
def execCorrectionSecondEnd (s : State) : Host.Outcome State Fault Refusal :=
  .next (if correctionEndDue s.time then s.withTime (endCorrection s.time) else s)

/-! ### Judging the seconds (R6, R8) -/

/-- Whether mount time has reached W + 500,000 for the next W to be judged. -/
def halfReached (b : TimeBase) : Bool := decide (b.judgeSecond + Config.halfSecond ≤ b.mountTime)

/-- Whether an expected second is judged now (R6). -/
def judgementDue (b : TimeBase) : Bool := decide (b.timeState = .locked) && halfReached b

/-- The third miss (R6): COAST, with EVENT TIME COAST; the correction runs on. -/
def enterCoast (s : State) : State :=
  report .timeCoast 0 (valueU 3)
    (s.withTime { s.time with timeState := .coast, coastSeconds := 0, regainSecond := none, misses := 0 })

/-- The judgement of the expected second (R6). A second with its good edge leaves the miss count at 0, also where a
second before it was missed after that edge (log 44). -/
def judgeExpected (s : State) : State :=
  let w := s.time.judgeSecond
  let n := s.withTime { s.time with judgeSecond := w + Config.second }
  if w ∈ s.time.goodSeconds then n.withTime { n.time with misses := 0 }
  else if s.time.misses + 1 = 3 then enterCoast n
  else n.withTime { n.time with misses := s.time.misses + 1 }

/-- EXPECTED_SECOND_JUDGEMENT (R6); nothing when no second is judged now (log 2). -/
def execExpectedSecondJudgement (s : State) : Host.Outcome State Fault Refusal :=
  .next (if judgementDue s.time then judgeExpected s else s)

/-- Whether the half-second instant of COAST or LOST is taken now (R8). -/
def regainCheckDue (b : TimeBase) : Bool :=
  (decide (b.timeState = .coast) || decide (b.timeState = .lost)) && halfReached b

/-- Whether the regain run missed the whole second W (R8). -/
def runMissed (w : Int) (b : TimeBase) : Bool :=
  match b.regainSecond with
  | some r => decide (r < w)
  | none => false

/-- The half-second instant of COAST or LOST (R8): a run that missed W is reset. -/
def checkRegain (b : TimeBase) : TimeBase :=
  if runMissed b.judgeSecond b then
    { b with judgeSecond := b.judgeSecond + Config.second, qualifying := 0, regainSecond := none }
  else { b with judgeSecond := b.judgeSecond + Config.second }

/-- REGAIN_RUN_MISS (R8); nothing when its instant has not come (log 2). -/
def execRegainRunMiss (s : State) : Host.Outcome State Fault Refusal :=
  .next (if regainCheckDue s.time then s.withTime (checkRegain s.time) else s)

/-! ### Whole seconds (R7, R15) -/

/-- The coast seconds reach COAST_MAX (R7, R9): LOST, EVENT TIME LOST, cause TIME. -/
def enterLost (s : State) : State :=
  raiseCause .time
    (report .timeLost 0 (valueU s.items.coastMax) (s.withTime { s.time with timeState := .lost }))

/-- A whole second passes in COAST (R7). -/
def coastSecond (s : State) : State :=
  if s.time.timeState = .coast then
    let n := s.withTime { s.time with coastSeconds := s.time.coastSeconds + 1 }
    if s.items.coastMax ≤ s.time.coastSeconds + 1 then enterLost n else n
  else s

/-- Whether the link second closes now (R15). -/
def linkCloseDue (b : TimeBase) : Bool := decide (b.nextSecond ≤ b.mountTime)

/-- The closing of a link second at a whole second (R15): graded, then the coast seconds advance. -/
def closeSecond (s : State) : State :=
  coastSecond (gradeLink (s.withTime { s.time with nextSecond := s.time.nextSecond + Config.second }))

/-- LINK_SECOND_CLOSE (R15); nothing when no link second closes now (log 2). -/
def execLinkSecondClose (s : State) : Host.Outcome State Fault Refusal :=
  .next (if linkCloseDue s.time then closeSecond s else s)

/-! ### TIME_SET (R11) -/

/-- The time base's decision on a TIME frame (R11, R35, R144). -/
def judgeTimeSet (payload : List Byte) (s : State) : Judged :=
  match readTime payload with
  | none => leave (refuseCommand .range .time 255 s)
  | some n =>
    if s.inRun then leave (refuseCommand .locked .time 255 s)
    else if s.hold.causes.estop then leave (refuseCommand .state .time 255 s)
    else if Config.secondMax < n then leave (refuseCommand .range .time 255 s)
    else take (s.withTime { s.time with pendingSet := some n })

/-- TIME_SET (R11). -/
def execTimeSet (o : Origin) (payload : List Byte) (s : State) : Host.Outcome State Fault Refusal :=
  .next (hear .time o payload (judgeTimeSet payload) s)

end Sys2Proof.Machine
end

