-- ==== Sys2Proof/Machine/PortCmds.lean ====
section
/-! DEFINITION. The Span port (chapter 2): ATTEMPT_START, ATTEMPT_END, TX_DEADLINE, DAMAGED_FRAME,
UNKNOWN_CLASS_FRAME, REPORT_FRAME_HEARD, RESPONSE_FIELD_REPORT. -/

namespace Sys2Proof.Machine

/-- ATTEMPT_START (R19): on the idle medium an attempt copies the head entry, unless one is in progress or no
entry is left that its deadline allows. In STRAP_FAULT the port begins none (R34). -/
def execAttemptStart (s : State) : Host.Outcome State Fault Refusal :=
  .next (if s.inStrapFault then s else s.withPort (s.port.beginAttempt s.now))

/-- ATTEMPT_END (R21): the ending follows from what the medium carried, and the entry is settled. -/
def execAttemptEnd (result : MediumResult) (s : State) : Host.Outcome State Fault Refusal :=
  .next (if s.inStrapFault then s else s.withPort (s.port.endAttempt result s.now))

/-- TX_DEADLINE (R31): the entries at their deadlines leave, except one that the attempt copies, of which the attempt
holds that its deadline was reached. -/
def execTxDeadline (s : State) : Host.Outcome State Fault Refusal :=
  .next (s.withPort (s.port.expire s.now))

/-- A damaged frame counts, marks its second and ends the reception (R22, R26): found after the check word, the
acceptance stands and the response field is reported unread, which completes no ROLL. -/
def hearDamage (s : State) : State := s.withPort { s.port.markDamaged with reception := none }

/-- DAMAGED_FRAME (R22). At the instant of a closing it marks the second that the closing begins (R32). The place of
the damage decides whether a decision had been taken before; the reception ends either way. -/
def execDamagedFrame (_afterCheckWord : Bool) (s : State) : Host.Outcome State Fault Refusal :=
  .next (if s.inStrapFault then s else hearDamage (if linkCloseDue s.time then closeSecond s else s))

/-- The class value of an unknown class (R18). -/
def classOfUnknown : UnknownClass → FrameClass
  | .class13 => .unknown13
  | .class14 => .unknown14
  | .class15 => .unknown15

/-- The class of a report frame (R23). -/
def classOfReport : ReportClass → FrameClass
  | .event => .event
  | .status => .status
  | .traceData => .traceData

/-- UNKNOWN_CLASS_FRAME (R18): ignored. -/
def execUnknownClassFrame (c : UnknownClass) (o : Origin) (payload : List Byte) (s : State) :
    Host.Outcome State Fault Refusal :=
  .next (hear (classOfUnknown c) o payload leave s)

/-- REPORT_FRAME_HEARD (R23): ignored, whoever sends it. -/
def execReportFrameHeard (c : ReportClass) (o : Origin) (payload : List Byte) (s : State) :
    Host.Outcome State Fault Refusal :=
  .next (hear (classOfReport c) o payload leave s)

/-! ### The response field (R26, R107) -/

/-- The slots as every station reads them (R26): those that other stations drove, and the own slot when the controller
drove it, which it did when it took the frame (R25). -/
def slotsRead (x : Reception) (slots : BitVec 15) (s : State) : BitVec 15 :=
  if x.taken then slots ||| BitVec.twoPow 15 s.conf.straps.address.toNat else slots

/-- Whether a response field shows the slot of every roster axis address (R107). -/
def everyAxisSlot (c : Items) (slots : BitVec 15) : Bool :=
  allRoles.all fun r => !c.inRoster r || slots.getLsbD (c.addr.get r)

/-- A complete GO roll: the largest complete D is raised, and the first makes the plan SCHEDULED (R107). -/
def recordGo (d : Nat) (s : State) : State :=
  match roundOf s with
  | some r =>
    s.withRound
      { s.round with plan := some (.scheduled { r with completeGo := some (max d (r.completeGo.getD 0)) }) }
  | none => s

/-- A complete SKIP roll sets the complete-SKIP mark (R107). -/
def recordSkip (s : State) : State := updateRound (fun r => { r with completeSkip := true }) s

/-- Whether a reception is a ROLL taken in the round now in progress (R107, R141). -/
def rollOfRound (x : Reception) (s : State) : Bool :=
  decide (x.frame.cls = .roll) && x.taken && decide (x.round ≠ none) && decide (x.round = roundNumber s)

/-- The completion of a taken ROLL at its end mark (R107). -/
def completeRoll (x : Reception) (slots : BitVec 15) (s : State) : State :=
  if rollOfRound x s && everyAxisSlot s.items slots then
    match readCall x.frame.payload with
    | some c => if c.verdict = 0 then recordGo c.d s else recordSkip s
    | none => s
  else s

/-- The reception ends. -/
def endReception (s : State) : State := s.withPort { s.port with reception := none }

/-- RESPONSE_FIELD_REPORT (R26) with the slots that stations drove on the medium: the fifteen slots as read go to the
block that owns the frame; only the round engine makes use of them, for a ROLL it took (R107). -/
def execResponseFieldReport (slots : BitVec 15) (s : State) : Host.Outcome State Fault Refusal :=
  .next
    (match s.port.reception with
     | some x => endReception (completeRoll x (slotsRead x slots s) s)
     | none => s)

end Sys2Proof.Machine
end

