-- ==== Sys2Proof/Machine/TrackCmds.lean ====
section
/-! DEFINITION. The frames of a tracking axis (chapter 8): GUIDE, OFFSET. -/

namespace Sys2Proof.Machine

/-! ### GUIDE (R39, R125, R126) -/

/-- The correction of the own role, when the payload role set names it; DOME and AUX have none (R39). -/
def ownCorrection (s : State) (g : GuideFields) : Option Int :=
  match s.ownRole with
  | some .az => if g.roles.getLsbD 1 then some g.dAz else none
  | some .el => if g.roles.getLsbD 2 then some g.dEl else none
  | some .rot => if g.roles.getLsbD 3 then some g.dRot else none
  | some .dome => none
  | some .aux => none
  | none => none

/-- Whether the mode is SETTLING or TRACKING. -/
def tracks (m : Motion) : Bool :=
  match m with
  | .settling => true
  | .tracking => true
  | .slewing _ => false
  | .stopping _ => false
  | .standing _ => false
  | .braked => false
  | .releasing _ => false

/-- The conditions of a GUIDE (R125). -/
def admitsGuide (s : State) (seq : Nat) : Bool :=
  PlanStore.slotHolds s.store.current seq && isObserving s.round.plan && tracks s.traj.motion &&
    decide (s.items.guideEnable = 1)

/-- The accumulation of a correction (R126): both clamps. -/
def accumulate (c : Items) (pending Δ : Int) : Int :=
  clampAbs c.guidePendingMax (pending + clampAbs c.guideMaxStep Δ)

/-- EVENT GUIDE CLIPPED when the first clamp changes the correction (R126). -/
def reportClip (Δ : Int) (s : State) : State :=
  if clampAbs s.items.guideMaxStep Δ = Δ then s else report .guideClipped s.currentSeq (valueS Δ) s

/-- A correction is taken (R126). -/
def takeGuide (Δ : Int) (s : State) : State :=
  let t := reportClip Δ s
  t.withTraj { t.traj with pendingGuide := accumulate s.items s.traj.pendingGuide Δ }

/-- The trajectory unit's decision on a GUIDE (R35, R39, R125). -/
def judgeGuide (payload : List Byte) (s : State) : Judged :=
  match readGuide payload with
  | none => leave s
  | some g =>
    match ownCorrection s g with
    | none => leave s
    | some Δ => if admitsGuide s g.seq then take (takeGuide Δ s) else leave s

/-- GUIDE (R125). -/
def execGuide (o : Origin) (payload : List Byte) (s : State) : Host.Outcome State Fault Refusal :=
  .next (hear .guide o payload (judgeGuide payload) s)

/-! ### OFFSET (R41, R124) -/

/-- The commanded offset that a value gives (R124). -/
def commandOffset (v : Int) (s : State) : State :=
  s.withTraj { s.traj with commandedOffset := clampAbs s.items.offsetMax v }

/-- The trajectory unit's decision on an OFFSET of the own role (R124). -/
def judgeOffset (v : Int) (s : State) : Judged :=
  if s.inRun && isObserving s.round.plan then take (commandOffset v s) else refused .state 5 s

/-- Steps 3 to 6 of R41 for OFFSET: a role outside 1 to 5 is refused, another axis's role ignored. -/
def addressOffset (args : List Byte) (s : State) : Judged :=
  match roleOfCode (fieldU args 0 1) with
  | none => refused .range 5 s
  | some r => if s.ownRole = some r then gateEstop 5 (judgeOffset (fieldS args 1 4)) s else leave s

/-- OFFSET (R124). -/
def execOffset (o : Origin) (args : List Byte) (s : State) : Host.Outcome State Fault Refusal :=
  .next (hearCommand 5 6 o args (addressOffset args) s)

end Sys2Proof.Machine
end

