-- ==== Sys2Proof/Machine/Tick.lean ====
section
/-! DEFINITION. The servo tick (R158): the encoder (R162), the following error (R163), the counters (R162, R164 to
R166), the trajectory unit's work by mode (R89, R118, R123, R138, R139), the transfer (R159), the trace (R168). -/

namespace Sys2Proof.Machine

/-! ### Steps 1 and 2: encoder and following error -/

/-- The position a good sample delivers; none for a failed sample (R162). -/
def goodPosition : EncoderReply → Option Int
  | .position p => some p.toInt
  | .noReply => none
  | .badCheck => none
  | .errorIndication => none

/-- The following error of a tick; 0 while no setpoint has been sent (R163). -/
def followingError (last : Option Int) (encoder : Int) : Int :=
  match last with
  | some p => sat32 (p - encoder)
  | none => 0

/-- Steps 1 and 2 of R158: the tick's encoder value is held, and fe formed from it. -/
def sampleAxis (good : Option Int) (a : AxisInterface) : AxisInterface :=
  { a with
    lastEncoder := good.getD a.lastEncoder
    fe := followingError a.lastSetpoint (good.getD a.lastEncoder) }

/-! ### Step 4: the trajectory unit's work -/

/-- What the trajectory unit hands over at a tick (R118). -/
structure Handover where
  setpoint : Int
  feedforward : Int
  marks : TickMarks
deriving DecidableEq, Repr

/-- What the trajectory unit's work at a tick gives: the state and the handover. -/
structure TickWork where
  state : State
  out : Handover

/-- No mark. -/
def noMarks : TickMarks := ⟨false, false, false⟩

/-- A position clamped to the soft limits, with LIMIT_HELD and feedforward 0 when the clamp changes it
(R89, R138, R159). -/
def clampedHandover (s : State) (pos ff : Int) : Handover :=
  if s.clampSoft pos = pos then ⟨pos, ff, noMarks⟩ else ⟨s.clampSoft pos, 0, ⟨false, true, false⟩⟩

/-- At a tick outside SETTLING and TRACKING the lag is 0 (R78, R89). R129 leaves it as it was from a slew start until
the next motion end; the model leaves it at S and makes it 0 at the first tick in RELEASING or SLEWING. R123 says that
it is 0 in STANDING; where STANDING, STOPPING or BRAKED begins between ticks (a skip, a hold) the model makes it 0 at
the first tick in that mode: DESIGN CHOICE (log 40). -/
def zeroLag (s : State) : State := s.withTraj { s.traj with lag := 0 }

/-- A tick of a mode that forms no lag. -/
def plainTick (s : State) (h : Handover) : TickWork := ⟨zeroLag s, h⟩

/-- Item 2 of R118: the rate-limited step and the lag (R78). -/
def stepTrack (demand : Int) (j : Trajectory) : Trajectory :=
  let p := j.trackSetpoint + rateLimitedStep j.stepL j.trackSetpoint demand
  { j with trackSetpoint := p, lag := sat32 (demand - p) }

/-- Item 3 of R118: the applied offset moves toward the commanded one (R124). -/
def stepOffset (c : Items) (j : Trajectory) : Trajectory :=
  { j with appliedOffset := j.appliedOffset + clampAbs c.offsetStep (j.commandedOffset - j.appliedOffset) }

/-- The guide step of a tick (R127). -/
def guideStepOf (c : Items) (j : Trajectory) : Int := clampAbs c.guideStep j.pendingGuide

/-- Item 4 of R118: the guide step within the total limit (R127, R128). -/
def stepGuide (c : Items) (j : Trajectory) : Trajectory :=
  { j with
    pendingGuide := j.pendingGuide - guideStepOf c j
    guideApplied := clampAbs c.guideTotalMax (j.guideApplied + guideStepOf c j) }

/-- Whether a guide step would pass the total limit (R128). -/
def guideMeetsLimit (c : Items) (j : Trajectory) : Bool :=
  !decide (clampAbs c.guideTotalMax (j.guideApplied + guideStepOf c j) = j.guideApplied + guideStepOf c j)

/-- EVENT GUIDE SATURATED, once in an acquisition (R128); `before` is the trajectory unit before the step. -/
def reportSaturated (before : Trajectory) (s : State) : State :=
  if guideMeetsLimit s.items before && !before.saturated then
    report .guideSaturated s.currentSeq (valueS s.traj.guideApplied) (s.withTraj { s.traj with saturated := true })
  else s

/-- The sum of R120. -/
def setpointSum (j : Trajectory) : Int := j.trackSetpoint + j.appliedOffset + j.guideApplied

/-- The feedforward of a tracking tick (R121). -/
def trackFeedforward (c : Items) (limited : Bool) (vel : Int) : Int := if limited then 0 else clampAbs c.vtrackMax vel

/-- Item 7 of R118: TRACK_LOST (R119), then LIMIT (R120). -/
def reportLosses (limited : Bool) (s : State) : State :=
  let s := if (s.items.lagLimit : Int) < |s.traj.lag| then reportAbandonCause .trackLost s else s
  if limited then reportAbandonCause .limit s else s

/-- The demand at a tick (R76). -/
def demandAt (s : State) (rec : Record) (t : Nat) : Int := withTurns (rec.track.pos t) s.traj.wrapOffset

/-- A tick in SETTLING or TRACKING on the current record (R118). -/
def trackingTick (rec : Record) (t : Nat) (s : State) : TickWork :=
  let before := stepOffset s.items (stepTrack (demandAt s rec t) s.traj)
  let n := reportSaturated before (s.withTraj (stepGuide s.items before))
  let sum := setpointSum n.traj
  let limited := !decide (s.clampSoft sum = sum)
  let marks : TickMarks :=
    { rateLimited := !decide (rateLimitedStep s.traj.stepL s.traj.trackSetpoint (demandAt s rec t) =
        demandAt s rec t - s.traj.trackSetpoint)
      limitHeld := limited
      guideStep := !decide (n.traj.guideApplied = s.traj.guideApplied) }
  ⟨reportLosses limited n, ⟨s.clampSoft sum, trackFeedforward s.items limited (rec.track.vel t), marks⟩⟩

/-- A tick that needs the record in the current slot, which is always held then (R118, log 26). -/
def tickOnRecord (t : Nat) (s : State) : Option TickWork :=
  s.store.current.map fun rec => trackingTick rec t s

/-- A tick in SLEWING (R89): the profile, or its motion end, which is a tick of the new mode (R90). -/
def slewingTick (p : SlewProfile) (t : Nat) (s : State) : Option TickWork :=
  if t < p.finish then
    some (plainTick s
      (clampedHandover s (p.posAt (t - p.motionStart)) (p.feedforwardAt (t - p.motionStart))))
  else tickOnRecord t (endMotion p.goal p.arrival t s)

/-- A tick in STOPPING (R138), or the STANDING tick that ends the stop (R139). -/
def stoppingTick (p : StopProfile) (t : Nat) (s : State) : TickWork :=
  if p.runsAt t then
    plainTick s (clampedHandover s (p.posAt s.items.holdDecel (p.elapsed t))
      (p.feedforwardAt s.items.holdDecel (p.elapsed t)))
  else
    let h := clampedHandover s (p.restPos s.items.holdDecel) 0
    plainTick (enterMotion (.standing h.setpoint) s) h

/-- The trajectory unit's work at tick `t` by the motion mode (R117, R159). -/
def tickWork (t : Nat) (s : State) : Option TickWork :=
  match s.traj.motion with
  | .slewing p => slewingTick p t s
  | .settling => tickOnRecord t (if s.traj.arrival ≤ t then enterMotion .tracking s else s)
  | .tracking => tickOnRecord t s
  | .stopping p => some (stoppingTick p t s)
  | .standing h => some (plainTick s ⟨h, 0, noMarks⟩)
  | .braked => some (plainTick s (clampedHandover s s.axis.lastEncoder 0))
  | .releasing r => some (plainTick s ⟨r.p0, 0, noMarks⟩)

/-! ### Step 3: counters, settling, arrival -/

/-- The failure count and good run after a sample (R162). -/
def countSample (good persists : Bool) (a : AxisInterface) : AxisInterface :=
  if good then
    { a with failureCount := 0, goodRun := if persists then (if a.goodRun + 1 = 3 then 0 else a.goodRun + 1) else a.goodRun }
  else { a with failureCount := min (a.failureCount + 1) 3, goodRun := 0 }

/-- Whether |fe| exceeds FE_TRIP. -/
def feOver (c : Items) (a : AxisInterface) : Bool := decide ((c.feTrip : Int) < |a.fe|)

/-- The trip counter (R164). One that stands above a FE_TRIP_COUNT that CONFIG has lowered since is cut to the new count
at the next tick over FE_TRIP, which thereby reaches it: DESIGN CHOICE (log 43). -/
def countTrip (c : Items) (a : AxisInterface) : AxisInterface :=
  { a with tripCount := if feOver c a then min (a.tripCount + 1) c.feTripCount else 0 }

/-- The settle counter of a record at a tick in SETTLING or TRACKING (R165). -/
def countSettle (c : Items) (good : Bool) (fe : Int) (r : SettleRecord) : SettleRecord :=
  if r.settled then r
  else if good && decide (|fe| ≤ (c.settleWindow : Int)) then
    { r with counter := r.counter + 1, settled := decide (c.settleCount ≤ r.counter + 1) }
  else { r with counter := 0 }

/-- The arrival is judged at the first tick at or after A (R166). -/
def judgeArrival (t : Nat) (r : SettleRecord) : SettleRecord :=
  if decide (r.arrival ≤ t) && !r.judged then { r with judged := true } else r

/-- The settle record after a tick's counting and judgement (R165, R166). -/
def tickSettle (c : Items) (counts good : Bool) (fe : Int) (t : Nat) (r : SettleRecord) : SettleRecord :=
  judgeArrival t (if counts then countSettle c good fe r else r)

/-- Step 3 of R158 over the axis interface; `counts` says whether the mode at step 4 is SETTLING or TRACKING. -/
def countAxis (c : Items) (persists counts good : Bool) (t : Nat) (a : AxisInterface) : AxisInterface :=
  let a := countTrip c (countSample good persists a)
  { a with settle := a.settle.map (tickSettle c counts good a.fe t) }

/-- An event found at a tick, composed at step 7. -/
structure TickEvent where
  kind : EventKind
  seq : Nat
  value : BitVec 32
deriving DecidableEq, Repr

/-- The events of step 3: SETTLED (R165), then SETTLE_LATE (R166). -/
def settleEvents (before after : Option SettleRecord) (fe : Int) (t : Nat) : List TickEvent :=
  match before, after with
  | some b, some a =>
    (if a.settled && !b.settled then [⟨.settled, a.seq, valueU t⟩] else []) ++
      (if a.judged && !b.judged && !a.settled then [⟨.settleLate, a.seq, valueS fe⟩] else [])
  | _, _ => []

/-! ### Steps 5 and 6: transfer and trace -/

/-- Step 5 of R158: the transfer with the drive enable; its setpoint becomes the last one sent (R159). -/
def transfer (h : Handover) (a : AxisInterface) : AxisInterface :=
  { a with link := some ⟨a.driveEnable, h.setpoint, h.feedforward⟩, lastSetpoint := some h.setpoint }

/-- A recorded entry; a full ring first loses its oldest (R168). -/
def pushEntry (e : TraceEntry) (ring : List TraceEntry) : List TraceEntry :=
  if ring.length < Config.ringCapacity then ring ++ [e] else ring.tail ++ [e]

/-- What the trace does at a tick: the ring, the phase, and the events. -/
structure TraceStep where
  ring : List TraceEntry
  phase : TracePhase
  events : List TickEvent
deriving DecidableEq, Repr

/-- TRACE TRIGGERED (R169). -/
def triggeredEvent (t : Nat) : TickEvent := ⟨.traceTriggered, 0, valueU t⟩

/-- TRACE STOPPED (R169). -/
def stoppedEvent (ring : List TraceEntry) : TickEvent := ⟨.traceStopped, 0, valueU ring.length⟩

/-- The end of a capture when `ends`, otherwise the phase goes on (R168). -/
def stopWhen (ends : Bool) (ring : List TraceEntry) (p : TracePhase) : TraceStep :=
  if ends then ⟨ring, .stopped, [stoppedEvent ring]⟩ else ⟨ring, p, []⟩

/-- Step 6 of R158 over the trace ring, by its phase (R168). -/
def traceStep (t : Nat) (e : TraceEntry) (a : AxisInterface) : TraceStep :=
  let holds := traceCondition a.setting e.flags
  let ring := pushEntry e a.ring
  match a.phase with
  | .idle => ⟨a.ring, .idle, []⟩
  | .stopped => ⟨a.ring, .stopped, []⟩
  | .recording =>
    if holds && decide (a.setting.mode = .stopOn) then
      ⟨ring, .postTrigger Config.postTriggerCount, [triggeredEvent t]⟩
    else ⟨ring, .recording, []⟩
  | .armed => if holds then ⟨ring, .recordingToFull, [triggeredEvent t]⟩ else ⟨a.ring, .armed, []⟩
  | .recordingToFull => stopWhen (decide (ring.length = Config.ringCapacity)) ring .recordingToFull
  | .postTrigger n => stopWhen (decide (n - 1 = 0)) ring (.postTrigger (n - 1))

/-- The trace entry of a tick (R168). -/
def tickEntry (t : Nat) (h : Handover) (s : State) : TraceEntry where
  tickTime := valueU t
  setpoint := h.setpoint
  encoder := s.axis.lastEncoder
  fe := s.axis.fe
  mode := motionCode s.traj.motion
  flags := (tickFlags s h.marks).bits

/-! ### Step 7: causes and events -/

/-- ENCODER raised or ended at a tick (R162). -/
def reportEncoder (good : Bool) (goodRunBefore : Nat) (s : State) : State :=
  if !good && decide (s.axis.failureCount = 3) then raiseCause .encoder s
  else if good && s.hold.causes.encoder && decide (goodRunBefore + 1 = 3) then endCause .encoder s
  else s

/-- FOLLOWING raised or ended at a tick whose mode at step 4 was `m` (R164). -/
def reportFollowing (m : Motion) (s : State) : State :=
  if feOver s.items s.axis && decide (s.axis.tripCount = s.items.feTripCount) then raiseCause .following s
  else if s.hold.causes.following && !feOver s.items s.axis && decide (motionCode m = 4) then endCause .following s
  else s

/-- An event of the tick is composed. -/
def composeEvent (s : State) (e : TickEvent) : State := report e.kind e.seq e.value s

/-- Steps 5 to 7 of R158, after the trajectory unit's work and the counters. -/
def finishTick (t : Nat) (good : Bool) (goodRunBefore : Nat) (found : List TickEvent) (h : Handover) (s : State) :
    State :=
  let m := s.traj.motion
  let s := s.withAxis (transfer h s.axis)
  let s := s.withTraj { s.traj with lastFeedforward := h.feedforward, lastTick := t }
  let r := traceStep t (tickEntry t h s) s.axis
  let s := s.withAxis { s.axis with ring := r.ring, phase := r.phase }
  (found ++ r.events).foldl composeEvent (reportFollowing m (reportEncoder good goodRunBefore s))

/-- Step 3 of R158 after the trajectory unit's work, with its events, then steps 5 to 7. -/
def countAndFinish (t : Nat) (good : Option Int) (w : TickWork) : State :=
  let s := w.state
  let a := countAxis s.items s.hold.causes.encoder (tracks s.traj.motion) good.isSome t s.axis
  finishTick t good.isSome s.axis.goodRun (settleEvents s.axis.settle a.settle a.fe t) w.out (s.withAxis a)

/-- A tick in CONFIG or RUN (R158). The counters of step 3 need the mode at step 4, so the trajectory unit's work is
done before them; neither reads the other. -/
def liveTick (t : Nat) (reply : EncoderReply) (s : State) : Option State :=
  (tickWork t (s.withAxis (sampleAxis (goodPosition reply) s.axis))).map (countAndFinish t (goodPosition reply))

/-- A tick in STRAP_FAULT (R158): a transfer with everything off. -/
def strapTick (s : State) : State := s.withAxis { s.axis with link := some ⟨false, 0, 0⟩ }

/-- The next tick instant is a period on (R14). -/
def advanceTick (s : State) : State := s.withTime { s.time with nextTick := s.time.nextTick + s.items.tickPeriod }

/-- Whether a tick falls now (R14). -/
def tickDue (b : TimeBase) : Bool := decide (b.nextTick ≤ b.mountTime)

/-- A tick at the instant `t` (R158). -/
def tickAt (t : Nat) (reply : EncoderReply) (s : State) : Host.Outcome State Fault Refusal :=
  if s.inStrapFault then .next (strapTick s)
  else
    match liveTick t reply s with
    | some n => .next n
    | none => .fault .noCurrentRecord

/-- SERVO_TICK (R158); nothing when no tick falls now (log 2). -/
def execServoTick (reply : EncoderReply) (s : State) : Host.Outcome State Fault Refusal :=
  if tickDue s.time then tickAt s.time.nextTick reply (advanceTick s) else .next s

end Sys2Proof.Machine
end

