-- ==== Sys2Proof/Machine/TraceCmds.lean ====
section
/-! DEFINITION. The trace ring's commands (11.9): TRACE_SET, TRACE_READ. -/

namespace Sys2Proof.Machine

/-! ### TRACE_SET (R41, R170) -/

/-- A mask or pattern field, bits 12 to 15 taken as 0 (R41, R170). -/
def traceBits (v : Nat) : BitVec 16 := BitVec.ofNat 16 v &&& 0x0FFF#16

/-- The setting that the arguments of a TRACE_SET give; none where mode or sense is outside its codes (R41). -/
def readTraceSetting (args : List Byte) : Option TraceSetting :=
  match traceModeOfCode (fieldU args 0 1), traceSenseOfCode (fieldU args 5 1) with
  | some m, some e => some ⟨m, traceBits (fieldU args 1 2), traceBits (fieldU args 3 2), e⟩
  | _, _ => none

/-- A taken TRACE_SET (R170): the ring is emptied, the setting replaced, the phase as its mode gives. -/
def takeTraceSet (x : TraceSetting) (s : State) : State :=
  s.withAxis { s.axis with ring := [], setting := x, phase := phaseOfMode x.mode }

/-- Steps 3 to 6 of R41 for TRACE_SET. -/
def judgeTraceSet (args : List Byte) (s : State) : Judged :=
  match readTraceSetting args with
  | none => refused .range 9 s
  | some x => gateEstop 9 (fun s => take (takeTraceSet x s)) s

/-- TRACE_SET (R170). -/
def execTraceSet (o : Origin) (args : List Byte) (s : State) : Host.Outcome State Fault Refusal :=
  .next (hearCommand 9 7 o args (judgeTraceSet args) s)

/-! ### TRACE_READ (R41, R171) -/

/-- The entries a TRACE_READ asks for that lie below the fill, with their indices (R171). -/
def requestedEntries (ring : List TraceEntry) (first count : Nat) : List (TraceEntry × Nat) :=
  ((ring.drop first).take count).zipIdx first

/-- One TRACE_DATA frame is composed and offered (R28, R171). -/
def sendTraceData (s : State) (e : TraceEntry × Nat) : State :=
  offerFrame .traceData (tracePayload e.2 e.1) (s.now + 100000) s

/-- The axis interface's decision on TRACE_READ, the count checked first (R41, R171). -/
def judgeTraceRead (args : List Byte) (s : State) : Judged :=
  if fieldU args 1 1 = 0 ∨ 4 < fieldU args 1 1 then refused .range 10 s
  else if s.axis.ring.length ≤ fieldU args 0 1 then refused .range 10 s
  else take ((requestedEntries s.axis.ring (fieldU args 0 1) (fieldU args 1 1)).foldl sendTraceData s)

/-- TRACE_READ (R171). -/
def execTraceRead (o : Origin) (args : List Byte) (s : State) : Host.Outcome State Fault Refusal :=
  .next (hearCommand 10 3 o args (judgeTraceRead args) s)

end Sys2Proof.Machine
end

