-- ==== Sys2Proof/Machine/Dispatch.lean ====
section
/-! DEFINITION. The dispatch of a command to its meaning: one arm for each row of spec/opcode_table.json. -/

namespace Sys2Proof.Machine

def exec (i : Instr) (s : State) : Host.Outcome State Fault Refusal :=
  match i with
  | .hardReset address role => Sys2Proof.Machine.execHardReset address role s
  | .ppsEdge => Sys2Proof.Machine.execPpsEdge s
  | .unitCorrection => Sys2Proof.Machine.execUnitCorrection s
  | .correctionSecondEnd => Sys2Proof.Machine.execCorrectionSecondEnd s
  | .expectedSecondJudgement => Sys2Proof.Machine.execExpectedSecondJudgement s
  | .regainRunMiss => Sys2Proof.Machine.execRegainRunMiss s
  | .linkSecondClose => Sys2Proof.Machine.execLinkSecondClose s
  | .servoTick reply => Sys2Proof.Machine.execServoTick reply s
  | .driveFaultAsserted => Sys2Proof.Machine.execDriveFaultAsserted s
  | .driveFaultDeasserted => Sys2Proof.Machine.execDriveFaultDeasserted s
  | .emergencyStopAsserted => Sys2Proof.Machine.execEmergencyStopAsserted s
  | .emergencyStopDeasserted => Sys2Proof.Machine.execEmergencyStopDeasserted s
  | .holdRepeat => Sys2Proof.Machine.execHoldRepeat s
  | .attemptStart => Sys2Proof.Machine.execAttemptStart s
  | .attemptEnd result => Sys2Proof.Machine.execAttemptEnd result s
  | .txDeadline => Sys2Proof.Machine.execTxDeadline s
  | .damagedFrame afterCheckWord => Sys2Proof.Machine.execDamagedFrame afterCheckWord s
  | .unknownClassFrame c o payload => Sys2Proof.Machine.execUnknownClassFrame c o payload s
  | .reportFrameHeard c o payload => Sys2Proof.Machine.execReportFrameHeard c o payload s
  | .responseFieldReport slots => Sys2Proof.Machine.execResponseFieldReport slots s
  | .hold o payload => Sys2Proof.Machine.execHold o payload s
  | .goRoll o payload => Sys2Proof.Machine.execGoRoll o payload s
  | .skipRoll o payload => Sys2Proof.Machine.execSkipRoll o payload s
  | .propose o payload => Sys2Proof.Machine.execPropose o payload s
  | .abandon o payload => Sys2Proof.Machine.execAbandon o payload s
  | .guide o payload => Sys2Proof.Machine.execGuide o payload s
  | .timeSet o payload => Sys2Proof.Machine.execTimeSet o payload s
  | .configItem o payload => Sys2Proof.Machine.execConfigItem o payload s
  | .planHead o payload => Sys2Proof.Machine.execPlanHead o payload s
  | .planSeg o payload => Sys2Proof.Machine.execPlanSeg o payload s
  | .intakeTimeout => Sys2Proof.Machine.execIntakeTimeout s
  | .commandUnknownCode o code args => Sys2Proof.Machine.execCommandUnknownCode o code args s
  | .start o args => Sys2Proof.Machine.execStart o args s
  | .go o args => Sys2Proof.Machine.execGo o args s
  | .breakIn o args => Sys2Proof.Machine.execBreakIn o args s
  | .returnTo o args => Sys2Proof.Machine.execReturnTo o args s
  | .offset o args => Sys2Proof.Machine.execOffset o args s
  | .planClear o args => Sys2Proof.Machine.execPlanClear o args s
  | .restart o args => Sys2Proof.Machine.execRestart o args s
  | .statusReq o args => Sys2Proof.Machine.execStatusReq o args s
  | .traceSet o args => Sys2Proof.Machine.execTraceSet o args s
  | .traceRead o args => Sys2Proof.Machine.execTraceRead o args s
  | .pendingTriggerEpoch => Sys2Proof.Machine.execPendingTriggerEpoch s
  | .ownOutcome => Sys2Proof.Machine.execOwnOutcome s
  | .roundResult => Sys2Proof.Machine.execRoundResult s
  | .brakeTimerExpiry => Sys2Proof.Machine.execBrakeTimerExpiry s
  | .arrival => Sys2Proof.Machine.execArrival s
  | .dwellStart => Sys2Proof.Machine.execDwellStart s
  | .dwellEnd => Sys2Proof.Machine.execDwellEnd s
  | .abandonEpoch => Sys2Proof.Machine.execAbandonEpoch s

end Sys2Proof.Machine
end

