-- ==== Sys2Proof/Machine/Idle.lean ====
section
/-! DEFINITION. What the block does when no command waits (log 1): the event that is due at this instant is taken,
in the fixed order of log 10; with none due, one microsecond passes. -/

namespace Sys2Proof.Machine

/-- Whether an entry of the transmit queue leaves at its deadline now, or one that the attempt copies reaches it
(R31). -/
def txDue (s : State) : Bool :=
  s.port.queue.any (s.port.leavesNow s.now) || decide (s.port.attemptAt s.now ≠ s.port.attempt)

/-- A free encoder reply (log 1). -/
def freeReply (n : Nat) : EncoderReply :=
  match Config.encoderSample n with
  | some p => .position p
  | none => .noReply

/-- The events that mount time brings about, in the order in which those of one instant are taken (log 10), each
with whether it is due. A unit correction comes last: it is the passing of its microsecond (R10). -/
def schedule (s : State) : List (Bool × Instr) :=
  [(txDue s, .txDeadline),
   (linkCloseDue s.time, .linkSecondClose),
   (judgementDue s.time, .expectedSecondJudgement),
   (regainCheckDue s.time, .regainRunMiss),
   (intakeDue s, .intakeTimeout),
   (repeatDue s, .holdRepeat),
   (decide (dueDwellEnd s ≠ none), .dwellEnd),
   (decide (dueAbandon s ≠ none), .abandonEpoch),
   (decide (dueTrigger s ≠ none), .pendingTriggerEpoch),
   (decide (dueOutcome s ≠ none), .ownOutcome),
   (decide (dueResult s ≠ none), .roundResult),
   (brakeDue s, .brakeTimerExpiry),
   (arrivalDue s, .arrival),
   (decide (dueDwellStart s ≠ none), .dwellStart),
   (correctionEndDue s.time, .correctionSecondEnd),
   (tickDue s.time, .servoTick (freeReply s.freeDraws)),
   (unitDue s.time, .unitCorrection)]

/-- The first event that is due now. -/
def due (s : State) : Option Instr := ((schedule s).find? Prod.fst).map Prod.snd

/-- The state in which a due event is taken: a tick's free encoder reply is drawn once (log 1). -/
def drawReply (c : Instr) (s : State) : State :=
  match c with
  | .servoTick _ => s.withFreeDraws (s.freeDraws + 1)
  | _ => s

/-- The block with no command waiting (log 1). -/
def idle (s : State) : Host.Outcome State Fault Refusal :=
  match due s with
  | some c => exec c (drawReply c s)
  | none => .next (passMicrosecond s)

/-- A command put at the front of the queue. -/
def enqueueFront (c : Instr) (s : State) : State := s.withPending (c :: s.pending)

/-- The command that a word spells put at the front of the queue, the state unchanged where it spells none. -/
def enqueueWord (nbits w : Nat) (s : State) : State :=
  match decodeTableWord nbits w with
  | some c => enqueueFront c s
  | none => s

end Sys2Proof.Machine
end

