-- ==== Sys2Proof/Machine/Step.lean ====
section
/-! DEFINITION. The step of the block: the command at the front of the queue, or the idle block's own time. -/

namespace Sys2Proof.Machine

/-- One step: the front command takes effect on the state with the queue's rest; an empty queue idles (log 1). -/
def step (s : State) : Host.Outcome State Fault Refusal :=
  match s.pending with
  | c :: rest => exec c (s.withPending rest)
  | [] => idle s

/-- `s` with the command that a word spells put at the front of its queue (log 33). -/
def State.withFetchWord (s : State) (nbits w : Nat) : State := enqueueWord nbits w s

end Sys2Proof.Machine
end

