-- ==== Sys2Proof/Safety.lean ====
section
/-! DEFINITION. The terms in which claims about the controller are stated: what a frame heard leads to, what the
invariants of chapters 1 to 12 say of a state, and the real numbers that the exact arithmetic stands for. -/

namespace Sys2Proof.Machine

/-! ### Frames heard -/

/-- The frame of a command is heard by a port that is not silent and passes its tests (R23, R34). -/
def Passes (c : Instr) (s : State) : Prop :=
  s.conf.life ≠ .strapFault ∧ ∃ f, c.frame? = some f ∧ passesTests s f.cls ⟨f.sender, f.dest⟩ = true

/-- What the port holds after an owner's decision on the frame of a command (R25): `taken` says that the own slot is
driven. -/
def heardAs (c : Instr) (taken : Bool) (s : State) : Option Reception :=
  c.frame?.map fun f => ⟨f, true, taken, roundNumber s⟩

/-- A state with what its port receives replaced. -/
def State.receiving (s : State) (r : Option Reception) : State := s.withPort { s.port with reception := r }

/-! ### Frames sent -/

/-- A frame stands in the transmit queue with a deadline. -/
def Queued (t : State) (f : Frame) (deadline : Nat) : Prop :=
  ∃ e ∈ t.port.queue, e.frame = f ∧ e.deadline = deadline

/-- The EVENT frame of an event (R17, R43). -/
def eventFrame (s : State) (e : EventKind) (seq : Nat) (v : BitVec 32) : Frame :=
  ⟨.event, s.conf.straps.address, 0, eventPayload e.category e.code seq v⟩

/-- An event composed now is offered: the port is not silent and EVENT_MASK enables the category (R43, R180). -/
def Enabled (s : State) (e : EventKind) : Prop :=
  s.conf.life ≠ .strapFault ∧ s.items.eventMask.testBit e.category = true

/-- The transmit queue has room for `n` more entries. -/
def Room (s : State) (n : Nat) : Prop := s.port.queue.length + n ≤ 8

/-! ### The outputs (R160) -/

/-- The drive enable is on exactly outside BRAKED with neither line cause, and the brake is applied exactly when the
drive enable is off. -/
def State.OutputsSafe (s : State) : Prop :=
  s.axis.driveEnable = driveOn s.traj.motion s.hold.causes ∧ s.axis.brakeApplied = !s.axis.driveEnable

/-! ### The transmit queue (R28, R29, R31, R32) -/

/-- The entries of a class. -/
def SpanPort.ofClass (p : SpanPort) (c : FrameClass) : List Entry := p.queue.filter fun e => decide (e.frame.cls = c)

/-- The transmit queue holds at most 8 entries in order of rank, at most one STATUS and one PROPOSE, each with a number
of its own that no later entry takes, and so does the attempt; the counters and the runs keep their ranges. -/
structure SpanPort.Ordered (p : SpanPort) : Prop where
  room : p.queue.length ≤ 8
  ranks : p.queue.Pairwise fun a b => rankOf a.frame ≤ rankOf b.frame
  oneStatus : (p.ofClass .status).length ≤ 1
  onePropose : (p.ofClass .propose).length ≤ 1
  distinct : p.queue.Pairwise fun a b => a.id ≠ b.id
  numbered : ∀ e ∈ p.queue, e.id < p.nextEntry
  copied : ∀ a, p.attempt = some a → a.entry < p.nextEntry
  damagedHolds : p.damaged ≤ 65535
  expiredHolds : p.txExpired ≤ 65535
  droppedHolds : p.txDropped ≤ 65535
  erroredRange : p.erroredRun ≤ 5
  cleanRange : p.cleanRun ≤ 10

/-! ### The plan store (R47 to R49) -/

/-- The seqs of the records held, place by place. -/
def PlanStore.heldSeqs (p : PlanStore) : List Nat :=
  p.queue.map Record.seq ++ (p.current.map Record.seq).toList ++ (p.ret.map Record.seq).toList ++
    (p.excursion.map Record.seq).toList

/-- The pending queue is short and strictly ordered, every seq is held once, each place holds its kind, and the
record an open intake builds will find its place (R47, R48, R56). -/
structure PlanStore.Ordered (p : PlanStore) : Prop where
  room : p.queue.length ≤ 32
  rising : p.queue.Pairwise fun a b => a.seq < b.seq
  appended : ∀ r ∈ p.queue, r.seq ≤ p.lastAppended
  queued : ∀ r ∈ p.queue, r.header.kind = .planned
  returning : ∀ r, p.ret = some r → r.header.kind = .planned
  excursions : ∀ r, p.excursion = some r → r.header.kind = .excursion
  once : p.heldSeqs.Nodup
  arriving : ∀ i, p.intake = some i →
    i.header.seq ∉ p.heldSeqs ∧
    (i.header.kind = .planned → p.lastAppended < i.header.seq ∧ p.queue.length < 32) ∧
    (i.header.kind = .excursion → p.excursion = none)

/-- Every one of the 128 entries is free or owned once, and an open intake owns its role's count and has stored fewer
segments than that (R49, R51, R54). In RUN the own role has a roster address (R177), and in CONFIG and RUN the straps
are usable (R172). -/
structure State.Pooled (s : State) : Prop where
  conserved : s.store.owned + s.store.free = 128
  intake : ∀ i, s.store.intake = some i →
    i.reserved = ownCount s i.header.counts ∧ i.segments.length = i.nextExpected ∧ i.nextExpected < i.reserved ∧
    (i.header.kind = .excursion → s.store.excursion = none)
  roster : s.conf.life = .run → ∃ r, s.ownRole = some r ∧ s.items.addr.get r ≠ 15
  straps : s.conf.life ≠ .strapFault → s.conf.straps.address ≠ 15

/-! ### The round (R105 to R109) -/

/-- What a round record keeps: a controller never asserts both rolls, asserts GO only for a selected record with its
own verdict GO, and records complete only rolls it asserted, a GO roll at its own D_i or above. -/
structure RoundRecord.Honest (r : RoundRecord) : Prop where
  oneSide : ¬(r.goAsserted = true ∧ r.skipAsserted = true)
  ownGo : r.goAsserted = true → r.verdict = .go ∧ r.selected ≠ none
  enough : ∀ d, r.completeGo = some d → r.goAsserted = true ∧ r.ownD ≤ d
  skipped : r.completeSkip = true → r.skipAsserted = true

/-- What a ROLL taken in the round in progress asserted (R105, R106). -/
def RoundRecord.Asserted (r : RoundRecord) (payload : List Byte) : Prop :=
  ∃ f, readCall payload = some f ∧
    ((f.verdict = 0 ∧ r.goAsserted = true ∧ r.ownD ≤ f.d) ∨ (f.verdict = 1 ∧ r.skipAsserted = true))

/-- The round in progress is honest, and so is the ROLL being received; rounds are numbered upward. -/
structure State.Agreeing (s : State) : Prop where
  honest : ∀ r, roundOf s = some r → r.Honest
  numbered : ∀ r, roundOf s = some r → r.number ≤ s.round.rounds
  heardIn : ∀ x n, s.port.reception = some x → x.round = some n → n ≤ s.round.rounds
  asserted : ∀ x r, s.port.reception = some x → roundOf s = some r → x.frame.cls = .roll → x.taken = true →
    x.round = some r.number → r.Asserted x.frame.payload

/-- A frame is refused (R42): it is not taken, the reason is recorded, the event of the refusal is composed with the
reason, the class and the third byte, and nothing else changes. -/
structure Refuses (c : Instr) (s t : State) (reason : Reason) (e : EventKind) (seq cls third : Nat) : Prop where
  heard : t.port.reception = heardAs c false s
  recorded : t.conf = { s.conf with lastRefusal := reason.code }
  told : Enabled s e → Room s 1 →
    Queued t (eventFrame s e seq (BitVec.ofNat 32 (reason.code + 256 * cls + 65536 * third))) (s.now + 1000000)
  masked : s.items.eventMask.testBit e.category = false → t.port = { s.port with reception := heardAs c false s }
  rest : t = { s with port := t.port, conf := t.conf }

/-- A COMMAND frame of a code is refused. -/
def RefusesCommand (c : Instr) (s t : State) (reason : Reason) (code : Nat) : Prop :=
  Refuses c s t reason .commandRefused 0 6 code

/-! ### PPS edges (R3) -/

/-- `w` is the whole second of an edge taken now: the multiple of 1,000,000 nearest the corrected capture, the later
of two. -/
structure State.EdgeAt (s : State) (w : Int) : Prop where
  whole : (1000000 : Int) ∣ w
  above : -500000 ≤ s.now + s.time.residue - w
  below : s.now + s.time.residue - w < 500000

/-- The capture error of an edge now whose whole second is `w`. -/
def State.edgeError (s : State) (w : Int) : Int := s.now + s.time.residue - w

/-- The correction second that begins at an instant with a residue (R10). -/
def correctionFrom (start : Nat) (residue : Int) : Option Correction :=
  if residue = 0 then none else some ⟨start, max (-100) (min residue 100), 0⟩

/-! ### Link seconds and steps of mount time (R13 to R15, R31 to R33) -/

/-- A link second closes (R32, R33): the runs and the mark, and the link state with its event, which is queued where
the queue has `room`; in every other case the link state stays and no LINK event is sent. -/
structure LinkGraded (room : Prop) (s t : State) : Prop where
  cleared : t.port.erroredMark = false
  errored : s.port.erroredMark = true → t.port.cleanRun = 0 ∧ t.port.erroredRun = min (s.port.erroredRun + 1) 5
  clean : s.port.erroredMark = false → t.port.erroredRun = 0 ∧ t.port.cleanRun = min (s.port.cleanRun + 1) 10
  toPoor : s.port.erroredMark = true → s.port.erroredRun = 4 → s.port.linkState = .clear →
    t.port.linkState = .poor ∧
      (Enabled s .linkPoor → room →
        Queued t (eventFrame s .linkPoor 0 (BitVec.ofNat 32 s.port.damaged)) (t.now + 1000000))
  toClear : s.port.erroredMark = false → s.port.cleanRun = 9 → s.port.linkState = .poor →
    t.port.linkState = .clear ∧
      (Enabled s .linkClear → room →
        Queued t (eventFrame s .linkClear 0 (BitVec.ofNat 32 s.port.damaged)) (t.now + 1000000))
  same : (s.port.linkState = .clear → s.port.erroredMark = false ∨ s.port.erroredRun < 4) →
    (s.port.linkState = .poor → s.port.erroredMark = true ∨ s.port.cleanRun < 9) →
    t.port.linkState = s.port.linkState ∧
      ∀ e ∈ t.port.queue, e ∉ s.port.queue → ∀ q v,
        e.frame ≠ eventFrame s .linkPoor q v ∧ e.frame ≠ eventFrame s .linkClear q v

/-- The entries left in the transmit queue when mount time has reached `time`: those whose deadlines lie ahead, and the
one that the attempt copies (R31). -/
def State.leftAt (s : State) (time : Nat) : List Entry :=
  s.port.queue.filter fun e => decide (time < e.deadline) || decide (s.port.attempt.map Attempt.entry = some e.id)

/-- The attempt in progress when mount time has reached `time`: it holds whether the deadline of its entry was reached
(R21, R31). -/
def State.attemptBy (s : State) (time : Nat) : Option Attempt :=
  s.port.attempt.map fun a =>
    { a with reached := a.reached || s.port.queue.any fun e => decide (e.id = a.entry ∧ e.deadline ≤ time) }

/-- A step of mount time from `s` to `t` with at most `n` events of its edge (R13, R14, R15, R31, R169): the next link
second and tick, the graded link second, the trace ring, and the transmit entries that expire at once. -/
structure Stepped (n : Nat) (s t : State) : Prop where
  second : 1000000 ∣ t.time.nextSecond ∧ t.now < t.time.nextSecond ∧ t.time.nextSecond ≤ t.now + 1000000
  tick : 0 < s.items.tickPeriod → s.items.tickPeriod ∣ t.time.nextTick ∧ t.now ≤ t.time.nextTick ∧
    t.time.nextTick < t.now + s.items.tickPeriod
  graded : s.conf.life ≠ .strapFault → LinkGraded ((s.leftAt (max s.now t.now)).length + n ≤ 8) s t
  ring : t.axis.ring = [] ∧ t.axis.setting = s.axis.setting
  phase : t.axis.phase =
    match s.axis.setting.mode with
    | .off => .idle
    | .free => .recording
    | .startOn => .armed
    | .stopOn => .recording
  expired : t.port.txExpired =
    min (s.port.txExpired + (s.port.queue.length - (s.leftAt (max s.now t.now)).length)) 65535
  left : (s.leftAt (max s.now t.now)).length + n ≤ 8 → (s.leftAt (max s.now t.now)).Sublist t.port.queue
  joined : ∀ e ∈ t.port.queue,
    e ∈ s.leftAt (max s.now t.now) ∨ (e.frame.cls = .event ∧ e.deadline = t.now + 1000000)
  attempt : t.port.attempt = s.attemptBy (max s.now t.now)

/-! ### Holds (R134 to R136, R140) -/

/-- Taking a hold (R134): the plan and the settle record, the motion by R135 or R136, the outputs by R160. The lag is
kept to the next tick (log 40). -/
structure HoldTaken (line : Bool) (s t : State) : Prop where
  plan : t.round = { s.round with plan := some .held, trigger := none, abandon := none, dwell := none }
  settle : t.axis.settle = none
  store : t.store = s.store
  traj : t.traj = { s.traj with motion := t.traj.motion }
  outputs : t.OutputsSafe
  braked : line = true → t.traj.motion = .braked
  released : ∀ r, s.traj.motion = .releasing r → t.traj.motion = .braked ∧ t.axis.brakeTimer = none
  kept : line = false → 3 ≤ motionCode s.traj.motion → motionCode s.traj.motion ≤ 5 → t.traj.motion = s.traj.motion
  stopped : line = false → motionCode s.traj.motion ≤ 2 → s.traj.lastFeedforward ≠ 0 →
    ∃ p, t.traj.motion = .stopping p ∧ p.v0 = s.traj.lastFeedforward ∧ p.t0 = s.traj.lastTick ∧
      p.stopTime = .ratio |s.traj.lastFeedforward| s.items.holdDecel ∧
      ∀ x, s.axis.lastSetpoint = some x → p.sp0 = x
  stood : line = false → motionCode s.traj.motion ≤ 2 → s.traj.lastFeedforward = 0 →
    ∃ h, t.traj.motion = .standing h ∧ ∀ x, s.axis.lastSetpoint = some x → h = x

/-- The HOLD frame of a cause is in the transmit queue (R38, R140). -/
def HoldQueued (c : Cause) (s t : State) : Prop :=
  Queued t ⟨.hold, s.conf.straps.address, 0x3E, holdPayload ⟨causeCode c, s.currentSeq, causeBits t.hold.causes⟩⟩
    (s.now + 50000)

/-! ### Configuration items (R174, R175) -/

/-- The value of an item. -/
def Items.read (c : Items) : Item → Int
  | .addr r => c.addr.get r
  | .addrControl => c.addrControl
  | .addrGuider => c.addrGuider
  | .tickPeriod => c.tickPeriod
  | .tAgree => c.tAgree
  | .tPropose => c.tPropose
  | .vmax => c.vmax
  | .amax => c.amax
  | .vtrackMax => c.vtrackMax
  | .softLo => c.softLo
  | .softHi => c.softHi
  | .modular => c.modular
  | .settleWindow => c.settleWindow
  | .settleCount => c.settleCount
  | .settleAllow => c.settleAllow
  | .feTrip => c.feTrip
  | .feTripCount => c.feTripCount
  | .lagLimit => c.lagLimit
  | .offsetMax => c.offsetMax
  | .offsetStep => c.offsetStep
  | .guideEnable => c.guideEnable
  | .guideMaxStep => c.guideMaxStep
  | .guidePendingMax => c.guidePendingMax
  | .guideTotalMax => c.guideTotalMax
  | .guideStep => c.guideStep
  | .holdDecel => c.holdDecel
  | .brakeDelay => c.brakeDelay
  | .maxSlew => c.maxSlew
  | .intakeTimeout => c.intakeTimeout
  | .holdRepeat => c.holdRepeat
  | .coastMax => c.coastMax
  | .lockWindow => c.lockWindow
  | .eventMask => c.eventMask

/-- A value is a received duration brought to a tick (R174): the smallest multiple of the period at or above it, or,
where that is above the maximum, the greatest multiple within the maximum. -/
def TickFormed (period max received value : Nat) : Prop :=
  period ∣ value ∧ value ≤ max ∧
    ((received ≤ value ∧ value < received + period) ∨ (max < received + period ∧ max < value + period))

/-- Every item lies in its range and at its step, SETTLE_ALLOW and BRAKE_DELAY are ticks formed from their received
values, and L is R77's. -/
structure State.Configured (s : State) : Prop where
  ranges : ∀ i, i.lo ≤ s.items.read i ∧ s.items.read i ≤ i.hi
  step : 250 ∣ s.items.tickPeriod
  settle : TickFormed s.items.tickPeriod 10000000 s.conf.receivedSettle s.items.settleAllow
  brake : TickFormed s.items.tickPeriod 2000000 s.conf.receivedBrake s.items.brakeDelay
  rate : s.traj.stepL = max 1 (s.items.vtrackMax * s.items.tickPeriod / 1000000)

/-! ### Headers and segments (R46, R50) -/

/-- The checks of R50 on a decoded header while no intake is open. -/
structure State.AdmitsHeader (s : State) (h : Header) : Prop where
  counts : ∀ r, h.counts.get r ≤ 6
  run : s.conf.life = .run
  estop : s.hold.causes.estop = false
  closed : s.store.intake = none
  unselected : h.kind = .excursion → ∀ r e q, roundOf s = some r → s.store.excursion = some e → r.selected = some q →
    e.seq ≠ q
  order : h.kind = .planned → s.store.lastAppended < h.seq
  fresh : h.seq ∉ s.store.heldSeqs
  seq : h.seq ≠ 0
  dwell : 1000000 ≤ h.dwell ∧ h.dwell ≤ 3600000000
  window : h.windowOpen ≤ h.windowClose
  roster : ∀ r, s.items.addr.get r ≠ 15 → h.counts.get r ≠ 0
  room : h.kind = .planned → s.store.queue.length < 32
  pool : ∀ r, s.ownRole = some r →
    h.counts.get r ≤ s.store.free + (if h.kind = .excursion then PlanStore.slotSize s.store.excursion else 0)

/-- The conditions of order, contiguity and coverage of R46 on the segments of a record. -/
def SegmentsFit (h : Header) (l : List Segment) : Prop :=
  l.IsChain (fun a b => a.tStart < b.tStart ∧ b.tStart = a.tStart + a.span) ∧
    (∀ f, l.head? = some f → f.tStart ≤ h.windowOpen) ∧
    ∀ g, l.getLast? = some g → h.windowClose + h.dwell ≤ g.tStart + g.span

/-! ### Real values (R67, R68) -/

/-- The real number that an exact number stands for. -/
noncomputable def Exact.value (x : Exact) : ℝ := ((x.p : ℝ) + (x.q : ℝ) * Real.sqrt (x.n : ℝ)) / (x.den : ℝ)

/-- A result that is a position or a velocity: the real value of its formula rounded to the nearest integer, half-way
values toward +∞, then saturated (R68). -/
noncomputable def resultOf (x : ℝ) : Int := sat32 ⌊x + 1 / 2⌋

/-- A position and a velocity are those of a track at a real mount time (R70, R71): inside a segment the cubic in the
seconds since its start and the derivative, before coverage the first segment's start and after it the last segment's
end, with velocity 0, each rounded and saturated once. -/
def IsTrackAt (tr : Track) (time : ℝ) (pos vel : Int) : Prop :=
  (time < tr.first.tStart → pos = resultOf tr.first.c0 ∧ vel = 0) ∧
  (tr.first.tStart ≤ time → (∀ g ∈ tr.segments, (g.finish : ℝ) ≤ time) → vel = 0 ∧
    pos = (let u : ℝ := tr.last.span / 1000000
      resultOf (tr.last.c0 + tr.last.c1 * u + tr.last.c2 / 65536 * u ^ 2 + tr.last.c3 / 4294967296 * u ^ 3))) ∧
  ∀ (before : List Segment) (g : Segment) (rest : List Segment), tr.segments = before ++ g :: rest →
    tr.first.tStart ≤ time → (∀ x ∈ before, (x.finish : ℝ) ≤ time) → time < g.finish →
    let u : ℝ := (time - g.tStart) / 1000000
    pos = resultOf (g.c0 + g.c1 * u + g.c2 / 65536 * u ^ 2 + g.c3 / 4294967296 * u ^ 3) ∧
      vel = resultOf (g.c1 + 2 * (g.c2 / 65536) * u + 3 * (g.c3 / 4294967296) * u ^ 2)

/-! ### The wrap and the predicted position (R73, R74, R81) -/

/-- A position clamped to the soft limits. -/
def State.withinLimits (s : State) (x : Int) : Int := max s.items.softLo (min x s.items.softHi)

/-- `x` is the clamped position of a profile at an instant, or after its motion end that of the current record's track
(the second row of R81, log 37). -/
def State.OnProfile (s : State) (p : SlewProfile) (time : Nat) (x : Int) : Prop :=
  (time < p.finish → x = s.withinLimits (p.posAt (time - p.motionStart))) ∧
    (p.finish ≤ time → ∀ rec, s.store.current = some rec →
      x = s.withinLimits (sat32 (rec.track.pos time + s.traj.wrapOffset * 1327104000)))

/-- A candidate is admissible for a track (R73): at both ends of every segment the segment's own position plus the turns
lies within the soft limits. -/
def AdmissibleWrap (c : Items) (tr : Track) (k : Int) : Prop :=
  (k = 0 ∨ (c.modular = 1 ∧ (k = -1 ∨ k = 1))) ∧
    ∀ g ∈ tr.segments, ∀ u : ℝ, u = 0 ∨ u = g.span / 1000000 →
      let x := resultOf (g.c0 + g.c1 * u + g.c2 / 65536 * u ^ 2 + g.c3 / 4294967296 * u ^ 3) + k * 1327104000
      c.softLo ≤ x ∧ x ≤ c.softHi

/-- A wrap is the choice of R74: admissible, at the least distance from the predicted position, and the lowest of those
at that distance. -/
def IsWrapChoice (c : Items) (tr : Track) (slewStart : Nat) (pS k : Int) : Prop :=
  let distance : Int → Int := fun k => |tr.pos slewStart + k * 1327104000 - pS|
  AdmissibleWrap c tr k ∧
    ∀ k', AdmissibleWrap c tr k' → distance k < distance k' ∨ (distance k = distance k' ∧ k ≤ k')

/-- `x` is the position that R81 predicts for S, row by row, clamped to the soft limits. The motion end of a profile is
taken as S_m + T (log 37). -/
structure IsPredicted (s : State) (slewStart : Nat) (x : Int) : Prop where
  tracking : s.traj.motion = .settling ∨ s.traj.motion = .tracking → ∀ rec, s.store.current = some rec →
    x = s.withinLimits (sat32
      (rec.track.pos slewStart + s.traj.wrapOffset * 1327104000 + s.traj.appliedOffset + s.traj.guideApplied))
  empty : s.traj.motion = .settling ∨ s.traj.motion = .tracking → s.store.current = none →
    ∀ y, s.axis.lastSetpoint = some y → x = s.withinLimits y
  slewing : ∀ p, s.traj.motion = .slewing p → s.OnProfile p slewStart x
  held : ∀ r, s.traj.motion = .releasing r → slewStart ≤ r.motionStart → x = s.withinLimits r.p0
  released : ∀ r rec, s.traj.motion = .releasing r → r.motionStart < slewStart → s.store.current = some rec →
    (∀ p late, fixProfile s.items rec.track s.traj.wrapOffset r = .moving p late → s.OnProfile p slewStart x) ∧
      ∀ g, fixProfile s.items rec.track s.traj.wrapOffset r = .still g →
        x = s.withinLimits (sat32 (rec.track.pos slewStart + s.traj.wrapOffset * 1327104000))
  stopping : ∀ p, s.traj.motion = .stopping p → 0 < p.stopTime.den → 0 < s.items.holdDecel →
    let u : ℝ := ((slewStart : ℝ) - p.t0) / 1000000
    let a : ℝ := s.items.holdDecel
    (u < p.stopTime.value →
      x = s.withinLimits (resultOf (p.sp0 + p.v0 * u - SignType.sign p.v0 * a * u ^ 2 / 2))) ∧
    (p.stopTime.value ≤ u →
      x = s.withinLimits (resultOf (p.sp0 + SignType.sign p.v0 * p.v0 ^ 2 / (2 * a))))
  resting : (∃ h, s.traj.motion = .standing h) ∨ s.traj.motion = .braked →
    ∀ y, s.axis.lastSetpoint = some y → x = s.withinLimits y

/-! ### Rounds (R96 to R102) -/

/-- The record a round of a kind selects first (R99). -/
def PlanStore.choice (p : PlanStore) : RoundKind → Option Record
  | .breakRound => p.excursion
  | .returnRound => p.ret <|> p.queue.head?
  | .ordinary => (p.current.filter fun r => !r.dwellDone) <|> p.ret <|> p.queue.head?

/-- The first choice of a round passes the window test of R100 for a slew start at an instant. -/
def PlanStore.Open (p : PlanStore) (k : RoundKind) (slewStart : Nat) : Prop :=
  ∀ r, p.choice k = some r → slewStart ≤ r.header.windowClose

/-- The round engine's own NOT_READY conditions hold (R102). -/
def State.Barred (s : State) : Prop :=
  s.port.linkState = .poor ∨ s.hold.causes.any = true ∨ s.time.timeState = .lost

/-- A record is skipped (R61, R101): it leaves its place and the pool, and when it was current the axis stands, the
settle record is emptied and so is the dwell record that names it. The event is the skip's, and no part of this. The
lag is kept to the next tick (log 40). -/
structure SkippedFrom (q : Nat) (s t : State) : Prop where
  queue : t.store.queue = s.store.queue.filter fun r => decide (r.seq ≠ q)
  current : t.store.current = s.store.current.filter fun r => decide (r.seq ≠ q)
  ret : t.store.ret = s.store.ret.filter fun r => decide (r.seq ≠ q)
  excursion : t.store.excursion = s.store.excursion.filter fun r => decide (r.seq ≠ q)
  pool : t.store.owned + t.store.free = s.store.owned + s.store.free
  intake : t.store.intake = s.store.intake
  appended : t.store.lastAppended = s.store.lastAppended ∧ t.store.lastCommitted = s.store.lastCommitted
  away : (∀ r, s.store.current = some r → r.seq ≠ q) → t = { s with store := t.store }
  stands : (∃ r, s.store.current = some r ∧ r.seq = q) →
    (motionCode s.traj.motion ≤ 2 ∨ motionCode s.traj.motion = 6) →
    ∃ h, t.traj.motion = .standing h ∧ ∀ x, s.axis.lastSetpoint = some x → h = x
  outputs : (∃ r, s.store.current = some r ∧ r.seq = q) →
    (motionCode s.traj.motion ≤ 2 ∨ motionCode s.traj.motion = 6) → t.OutputsSafe
  stays : motionCode s.traj.motion ∈ [3, 4, 5] → t.traj.motion = s.traj.motion
  settle : (∃ r, s.store.current = some r ∧ r.seq = q) → t.axis.settle = none
  dwell : (∃ r, s.store.current = some r ∧ r.seq = q) →
    t.round = { s.round with dwell := s.round.dwell.filter fun d => decide (d.seq ≠ q) }
  rest : t.time = s.time ∧ t.port = s.port ∧ t.hold = s.hold ∧ t.conf = s.conf ∧ t.pins = s.pins ∧
    t.traj = { s.traj with motion := t.traj.motion } ∧
    t.axis =
      { s.axis with
        settle := t.axis.settle, driveEnable := t.axis.driveEnable, brakeApplied := t.axis.brakeApplied
        link := t.axis.link }

/-- The window skips of a round start (R100, R101), from `s` to `u`: while the choice of the kind has a window that a
slew start at this instant passes, its record, whose seq is listed, is skipped and the selection repeated, after the
excursion of a BREAK round as an ordinary round and else with its kind. -/
inductive WindowSkips (slewStart : Nat) : RoundKind → State → List Nat → RoundKind → State → Prop where
  | ended (k : RoundKind) (s : State) : s.store.Open k slewStart → WindowSkips slewStart k s [] k s
  | again (k k' : RoundKind) (rec : Record) (s s' u : State) (gone : List Nat) :
    s.store.choice k = some rec → rec.header.windowClose < slewStart → SkippedFrom rec.seq s s' →
    WindowSkips slewStart (if k = .breakRound then .ordinary else k) s' gone k' u →
    WindowSkips slewStart k s (rec.seq :: gone) k' u

/-- A round that starts at an epoch (R98, R99, R102), from `s` with its window skips made in `u`, selects, forms its own
verdict and proposes, and leaves `t` with the round record `r`; its frames are queued where the queue has `room`. -/
structure RoundProposed (epoch : Nat) (room : Prop) (s u t : State) (r : RoundRecord) : Prop where
  plan : t.round.plan = some (.inRound r)
  starts : r.epoch = epoch
  fresh : r = freshRound r.number r.epoch r.kind r.selected ⟨r.verdict, r.ownD, none⟩
  abandon : t.round.abandon = none ∧ t.round.abandonSent = s.round.abandonSent
  trigger : t.round.trigger = s.round.trigger
  peer : t.hold = if s.round.plan = some .held then { s.hold with peerHold := false } else s.hold
  rest : t.time = s.time ∧ t.conf = s.conf ∧ t.pins = s.pins
  kept : t.traj = u.traj ∧ t.axis = u.axis ∧ t.round.dwell = u.round.dwell
  nothing : u.store.choice r.kind = none → r.selected = none ∧ r.verdict = .noTarget ∧ r.ownD = 0 ∧ t.store = u.store
  selects : ∀ rec, u.store.choice r.kind = some rec → r.selected = some rec.seq
  notReady : ∀ rec, u.store.choice r.kind = some rec → u.Barred →
    r.verdict = .notReady ∧ r.ownD = 0 ∧ t.store = u.store
  computed : ∀ rec, u.store.choice r.kind = some rec → ¬u.Barred →
    let p := computeProposal u rec epoch
    r.verdict = p.verdict ∧ r.ownD = p.d ∧
      t.store =
        match p.wrap with
        | some w => u.store.setWrap rec.seq w
        | none => u.store
  proposes : s.conf.life ≠ .strapFault → room → s.now < epoch + s.items.tPropose →
    Queued t
      ⟨.propose, s.conf.straps.address, 0x3E,
        callPayload ⟨epoch, r.selected.getD 0, verdictCode r.verdict, if r.verdict = .go then r.ownD else 0⟩⟩
      (epoch + s.items.tPropose)
  empty : Enabled s .planEmpty → room → r.kind = .ordinary → u.store.choice .ordinary = none →
    Queued t (eventFrame s .planEmpty 0 0) (s.now + 1000000)

/-- A round of a kind starts from `s` at an epoch (R98 to R102) and leaves `t` with the round record `r`, having skipped
the seqs in `gone`, each with its event. -/
def RoundBegun (k : RoundKind) (epoch : Nat) (s t : State) (r : RoundRecord) (gone : List Nat) : Prop :=
  let room : Prop := Room s (gone.length + 3)
  ∃ u, WindowSkips (epoch + s.items.tAgree) k s gone r.kind u ∧ RoundProposed epoch room s u t r ∧
    ∀ q ∈ gone, Enabled s .skipped → room → Queued t (eventFrame s .skipped q 0) (s.now + 1000000)

/-! ### Ticks (R117, R158) -/

/-- The modes that work on the record in the current slot. -/
def onRecord (m : Motion) : Bool :=
  match m with
  | .slewing _ => true
  | .settling => true
  | .tracking => true
  | .releasing _ => true
  | .stopping _ => false
  | .standing _ => false
  | .braked => false

/-- The code of the motion mode in force at step 4 of the tick taken next (R89, R117, R138, R139). -/
def State.modeAtTick (s : State) : Nat :=
  match s.traj.motion with
  | .slewing p => if s.time.nextTick < p.finish then 0 else if s.time.nextTick < p.arrival then 1 else 2
  | .settling => if s.traj.arrival ≤ s.time.nextTick then 2 else 1
  | .tracking => 2
  | .stopping p => if p.runsAt s.time.nextTick then 3 else 4
  | .standing _ => 4
  | .braked => 5
  | .releasing _ => 6

/-- The work of a tick in SETTLING or TRACKING on a record, which starts from the trajectory unit's items `j` (R76 to
R78, R118, R120, R121, R124, R127, R128): the track setpoint moves by at most L, offset and guide value by at most
their steps, the setpoint sent is the clamped sum and the feedforward the clamped velocity of the track. -/
def TrackWork (j : Trajectory) (rec : Record) (s t : State) : Prop :=
  let c := s.items
  let demand := max (-2147483648) (min (rec.track.pos s.time.nextTick + j.wrapOffset * 1327104000) 2147483647)
  let pos := j.trackSetpoint + max (-(j.stepL : Int)) (min (demand - j.trackSetpoint) j.stepL)
  let offset := j.appliedOffset + max (-(c.offsetStep : Int)) (min (j.commandedOffset - j.appliedOffset) c.offsetStep)
  let g := max (-(c.guideStep : Int)) (min j.pendingGuide c.guideStep)
  let guide := max (-(c.guideTotalMax : Int)) (min (j.guideApplied + g) c.guideTotalMax)
  let sum := pos + offset + guide
  let sp := max c.softLo (min sum c.softHi)
  let v := rec.track.vel s.time.nextTick
  t.traj =
    { j with
      motion := t.traj.motion, trackSetpoint := pos, lag := max (-2147483648) (min (demand - pos) 2147483647)
      appliedOffset := offset, pendingGuide := j.pendingGuide - g, guideApplied := guide
      saturated := t.traj.saturated
      lastFeedforward := if sp = sum then max (-(c.vtrackMax : Int)) (min v c.vtrackMax) else 0
      lastTick := s.time.nextTick } ∧
  |t.traj.trackSetpoint - j.trackSetpoint| ≤ j.stepL ∧
  t.axis.lastSetpoint = some sp ∧
  (t.traj.saturated = true ↔ j.saturated = true ∨ guide ≠ j.guideApplied + g) ∧
  (j.saturated = false → guide ≠ j.guideApplied + g → Enabled s .guideSaturated → Room s 8 →
    Queued t (eventFrame s .guideSaturated rec.seq (BitVec.ofInt 32 (max (-2147483648) (min guide 2147483647))))
      (s.now + 1000000))

/-- The setpoint of a tick in SETTLING or TRACKING is the sum of R120 unclamped. -/
def SentUnclamped (t : State) : Prop :=
  t.axis.lastSetpoint = some (t.traj.trackSetpoint + t.traj.appliedOffset + t.traj.guideApplied)

/-- What a tick in SETTLING or TRACKING on a record tells the round engine (R113, R119, R120): a lag beyond LAG_LIMIT or
a clamped setpoint sends one ABANDON while the plan is `observed` in a phase that allows it, with dwell_done and the
abandon-sent mark clear and no abandon pending. Any other report is dropped: no ABANDON joins the queue or leaves it.
The epoch field of an epoch past the top of mount time is free (log 42). -/
def LossesReported (observed : Prop) (rec : Record) (s t : State) : Prop :=
  let lost : Prop := (s.items.lagLimit : Int) < |t.traj.lag|
  let sends : Prop := (lost ∨ ¬SentUnclamped t) ∧ observed ∧ rec.dwellDone = false ∧ s.round.abandon = none ∧
    s.round.abandonSent = false
  (sends → 0 < s.items.tickPeriod → t.round.abandonSent = true ∧
    ∃ epoch field cause,
      (s.items.tickPeriod ∣ epoch ∧ s.now + 20000 ≤ epoch ∧ epoch < s.now + 20000 + s.items.tickPeriod) ∧
      (epoch < 2 ^ 48 → field = epoch) ∧ (lost → cause = 0) ∧ (¬lost → cause = 1) ∧
      let frame : Frame := ⟨.abandon, s.conf.straps.address, 0x3E, abandonPayload ⟨rec.seq, field, cause⟩⟩
      (Room s 6 → Queued t frame epoch) ∧
      ∀ e ∈ t.port.queue, e.frame.cls = .abandon → e ∈ s.port.queue ∨ (e.frame = frame ∧ e.deadline = epoch)) ∧
  (¬sends → t.round.abandonSent = s.round.abandonSent ∧
    (∀ e ∈ t.port.queue, e.frame.cls = .abandon → e ∈ s.port.queue) ∧
    (Room s 6 → ∀ e ∈ s.port.queue, e.frame.cls = .abandon → e ∈ t.port.queue))

/-- A tick is taken now in CONFIG or RUN, with the record that its mode works on (R118, R158). -/
structure State.TickNow (s : State) : Prop where
  live : s.conf.life ≠ .strapFault
  due : s.time.nextTick ≤ s.now
  current : onRecord s.traj.motion = true → s.store.current ≠ none

/-! ### Records where they are needed (R60, R118) -/

/-- The record a mode works on is in the current slot, and the record a round selected is held. -/
structure State.Placed (s : State) : Prop where
  current : onRecord s.traj.motion = true → s.store.current ≠ none
  selected : ∀ r q, roundOf s = some r → r.selected = some q → s.store.find q ≠ none

/-- The invariant under which every step answers a next state. -/
structure State.Sound (s : State) : Prop where
  pooled : s.Pooled
  agreeing : s.Agreeing
  placed : s.Placed

/-! ### Outside RUN (R63, R93 to R95, R130, R133) -/

/-- No plan exists, the store is empty, the axis rests on its brake with no offset or guide value, and no timer of a
plan runs. -/
structure State.AtRest (s : State) : Prop where
  plan : s.round.plan = none
  trigger : s.round.trigger = none
  abandon : s.round.abandon = none
  dwell : s.round.dwell = none
  abandonSent : s.round.abandonSent = false
  store : s.store = .afterReset
  motion : s.traj.motion = .braked
  wrapOffset : s.traj.wrapOffset = 0
  lag : s.traj.lag = 0
  trackSetpoint : s.traj.trackSetpoint = 0
  commanded : s.traj.commandedOffset = 0
  applied : s.traj.appliedOffset = 0
  pendingGuide : s.traj.pendingGuide = 0
  guideApplied : s.traj.guideApplied = 0
  saturated : s.traj.saturated = false
  brakeTimer : s.axis.brakeTimer = none
  settle : s.axis.settle = none
  peerHold : s.hold.peerHold = false
  repeatTimer : s.hold.repeatTimer = none

/-- Outside RUN the controller is at rest. -/
def State.Dormant (s : State) : Prop := s.conf.life ≠ .run → s.AtRest

/-- The offsets and guide values keep their ranges (R128, R130). -/
structure State.Bounded (s : State) : Prop where
  dormant : s.Dormant
  guideApplied : |s.traj.guideApplied| ≤ s.items.guideTotalMax
  pendingGuide : |s.traj.pendingGuide| ≤ s.items.guidePendingMax
  applied : |s.traj.appliedOffset| ≤ s.items.offsetMax
  commanded : |s.traj.commandedOffset| ≤ s.items.offsetMax

/-! ### Time (R1, R4, R12) -/

/-- Mount time keeps its range, and in RUN nothing can step it. -/
structure State.Timed (s : State) : Prop where
  range : s.time.mountTime ≤ Config.timeMax
  noStep : s.conf.life = .run → s.time.timeState ≠ .free ∧ s.time.pendingSet = none

/-! ### STRAP_FAULT (R34, R133, R158, R172) -/

/-- The blocks keep their hard-reset values; the drive link carries nothing but zeros. -/
structure State.Silent (s : State) : Prop where
  life : s.conf.life = .strapFault
  port : s.port = .afterReset
  store : s.store = .afterReset
  round : s.round = .afterReset
  traj : s.traj = .afterReset
  axis : s.axis = .afterReset ∨ s.axis = { AxisInterface.afterReset with link := some ⟨false, 0, 0⟩ }
  peerHold : s.hold.peerHold = false
  repeatTimer : s.hold.repeatTimer = none

/-! ### The trace ring (R168) -/

/-- The ring holds at most 256 entries and the post-trigger count is at most 64. -/
structure AxisInterface.TraceBounded (a : AxisInterface) : Prop where
  ring : a.ring.length ≤ 256
  count : ∀ n, a.phase = .postTrigger n → n ≤ 64

/-! ### Commands in front -/

/-- Whether a host command is the hard reset, the one command that starts the controller anew. -/
def isHardReset (c : Instr) : Bool :=
  match c with
  | .hardReset _ _ => true
  | _ => false

/-- Whether a host command is START. -/
def isStart (c : Instr) : Bool :=
  match c with
  | .start _ _ => true
  | _ => false

/-- The command in front of the queue, if one waits. -/
def frontIs (p : Instr → Bool) (s : State) : Bool :=
  match s.pending with
  | c :: _ => p c
  | [] => false

end Sys2Proof.Machine
end

