-- ==== Sys2Proof/Certificates/Slice0/Obligations.lean ====
section
/-! DEFINITION. The statements about the controller, each a proposition that the numbered rules of spec/ back; what
rests on a choice of the model names its log entry. -/

section

open Sys2Proof Sys2Proof.Machine

/-! ### Reset, the queue of commands, the invariants -/

/-- R172 with the hard-reset columns of R2, R34, R63, R93 to R95, R130, R131, R157 and R173: HARD_RESET always
completes, and every block holds its hard-reset values; the lines and the waiting commands are outside the part. MODULAR
of the unusable roles 0, 6 and 7, for which R175 gives no default, is the model's choice (log 38). -/
def Obligations.HardResetGivesResetValues : Prop :=
  ∀ (a : BitVec 4) (r : BitVec 3) (s : State), ∃ t, exec (.hardReset a r) s = .next t ∧
    (t.now = 0 ∧ t.time.timeState = .free ∧ t.time.lastCapture = none ∧ t.time.qualifying = 0 ∧ t.time.misses = 0 ∧
      t.time.coastSeconds = 0 ∧ t.time.regainSecond = none ∧ t.time.residue = 0 ∧ t.time.correction = none ∧
      t.time.pendingSet = none ∧ t.time.setTaken = false) ∧
    (t.port.queue = [] ∧ t.port.attempt = none ∧ t.port.reception = none ∧ t.port.damaged = 0 ∧
      t.port.txExpired = 0 ∧ t.port.txDropped = 0 ∧ t.port.linkState = .clear ∧ t.port.erroredRun = 0 ∧
      t.port.cleanRun = 0 ∧ t.port.erroredMark = false) ∧
    (t.store.queue = [] ∧ t.store.current = none ∧ t.store.ret = none ∧ t.store.excursion = none ∧
      t.store.free = 128 ∧ t.store.intake = none ∧ t.store.lastAppended = 0 ∧ t.store.lastCommitted = 0) ∧
    (t.round.plan = none ∧ t.round.trigger = none ∧ t.round.abandon = none ∧ t.round.dwell = none ∧
      t.round.abandonSent = false) ∧
    (t.traj.motion = .braked ∧ t.traj.wrapOffset = 0 ∧ t.traj.stepL = 5529 ∧ t.traj.lag = 0 ∧
      t.traj.trackSetpoint = 0 ∧ t.traj.commandedOffset = 0 ∧ t.traj.appliedOffset = 0 ∧ t.traj.pendingGuide = 0 ∧
      t.traj.guideApplied = 0 ∧ t.traj.saturated = false) ∧
    (t.hold.causes = ⟨false, false, s.pins.driveFault, s.pins.estop, false⟩ ∧ t.hold.peerHold = false ∧
      t.hold.repeatTimer = none) ∧
    (t.axis.driveEnable = false ∧ t.axis.brakeApplied = true ∧ t.axis.brakeTimer = none ∧
      t.axis.lastSetpoint = none ∧ t.axis.lastEncoder = 0 ∧ t.axis.fe = 0 ∧ t.axis.failureCount = 0 ∧
      t.axis.goodRun = 0 ∧ t.axis.tripCount = 0 ∧ t.axis.settle = none ∧ t.axis.ring = [] ∧
      t.axis.setting = ⟨.off, 0, 0, .isMatch⟩ ∧ t.axis.phase = .idle) ∧
    (t.conf.straps = ⟨a, r⟩ ∧ t.conf.items = Items.defaults r ∧ t.conf.receivedSettle = 1500000 ∧
      t.conf.receivedBrake = 250000 ∧ t.conf.lastRefusal = 0) ∧
    (t.conf.life = .strapFault ↔ a = 15 ∨ r = 0 ∨ 6 ≤ r.toNat) ∧ (t.conf.life = .config ∨ t.conf.life = .strapFault) ∧
    t.pins = s.pins ∧ t.pending = s.pending

/-- The state after reset meets every invariant stated below. -/
def Obligations.ResetMeetsTheInvariants : Prop :=
  State.reset.Sound ∧ State.reset.port.Ordered ∧ State.reset.store.Ordered ∧ State.reset.OutputsSafe ∧
    State.reset.Bounded ∧ State.reset.Timed ∧ State.reset.axis.TraceBounded ∧ State.reset.Configured ∧
    State.reset.Dormant

/-- A step takes the command in front of the queue and runs it on the state with the queue's rest. With no command
waiting it takes the event that is due, a tick with the free encoder reply that its draw numbers, and with none due one
microsecond passes (R1; the empty queue is the model's choice, log 1, and so is the order of due events, log 10). -/
def Obligations.StepRunsTheFrontCommand : Prop :=
  (∀ (c : Instr) (s : State) (rest : List Instr), s.pending = c :: rest → step s = exec c (s.withPending rest)) ∧
  (∀ (s : State) (c : Instr), s.pending = [] → due s = some c → (∀ reply, c ≠ .servoTick reply) → step s = exec c s) ∧
  (∀ (s : State) (reply : EncoderReply), s.pending = [] → due s = some (.servoTick reply) →
    step s = exec (.servoTick reply) { s with freeDraws := s.freeDraws + 1 } ∧
      reply = (Config.encoderSample s.freeDraws).elim .noReply .position) ∧
  ∀ s : State, s.pending = [] → due s = none →
    step s = .next { s with time := { s.time with mountTime := min (s.now + 1) 281474976710655 } }

/-- No command's effect reaches the queue of the commands that wait (the model's form of a block, log 1). -/
def Obligations.CommandsLeaveTheQueueAlone : Prop :=
  ∀ (c : Instr) (s t : State), exec c s = .next t → t.pending = s.pending

/-- From every sound state every step answers a next state, which is sound again: the controller never stops, the
record each mode works on is always held (R60, R118), and so is the record a round selected. -/
def Obligations.EveryStepAnswersAndStaysSound : Prop :=
  ∀ s : State, s.Sound → ∃ t, step s = .next t ∧ t.Sound

/-- R34, R133, R158, R172: in STRAP_FAULT every block but the time base keeps its hard-reset values, whatever comes,
until the next hard reset; nothing is queued, no slot is driven, the drive link carries zeros. -/
def Obligations.StrapFaultStaysSilent : Prop :=
  ∀ s t : State, s.Silent → frontIs isHardReset s = false → step s = .next t →
    t.Silent ∧ t.hold = s.hold ∧ t.conf = s.conf

/-- R93 to R95, R130, R133: outside RUN no plan state exists, no timer of a plan runs, and the axis stays on its
brake without offsets or guide values. -/
def Obligations.ControllerRestsOutsideRun : Prop :=
  ∀ s t : State, s.Dormant → step s = .next t → t.Dormant

/-- R63: a hard reset empties the plan store, it stays empty through every step that does not end in RUN, and START
leaves every item as it is. -/
def Obligations.PlanStoreFillsOnlyInRun : Prop :=
  (∀ (a : BitVec 4) (r : BitVec 3) (s t : State), exec (.hardReset a r) s = .next t →
    t.store.queue = [] ∧ t.store.current = none ∧ t.store.ret = none ∧ t.store.excursion = none ∧
      t.store.free = 128 ∧ t.store.intake = none ∧ t.store.lastAppended = 0 ∧ t.store.lastCommitted = 0) ∧
    (∀ s t : State, (s.conf.life ≠ .run → s.store = .afterReset) → step s = .next t →
      t.conf.life ≠ .run → t.store = .afterReset) ∧
    ∀ (o : Origin) (args : List Byte) (s t : State), exec (.start o args) s = .next t → t.store = s.store

/-- 12.1, R172, R177: the life state and the straps change only by HARD_RESET, but for CONFIG to RUN by START; in RUN
the configuration items are fixed. -/
def Obligations.LifeStateChangesOnlyByStartAndReset : Prop :=
  ∀ s t : State, frontIs isHardReset s = false → step s = .next t →
    t.conf.straps = s.conf.straps ∧
      (s.conf.life = .run → t.conf.life = .run ∧ t.conf.items = s.conf.items) ∧
      (s.conf.life = .strapFault → t.conf.life = .strapFault) ∧
      (s.conf.life = .config → t.conf.life = .config ∨ (t.conf.life = .run ∧ frontIs isStart s = true))

/-- R1: mount time keeps its 48-bit range, and in RUN it never decreases but by a hard reset, nor advances by more
than the two counts of a unit correction in one step. -/
def Obligations.MountTimeNeverDecreasesInRun : Prop :=
  ∀ s t : State, s.Timed → step s = .next t →
    t.Timed ∧
      (s.conf.life = .run → frontIs isHardReset s = false → s.now ≤ t.now ∧ t.now ≤ s.now + 2)

/-- R49: owned + free = 128 after every step, and an open intake owns exactly the own count of its header. -/
def Obligations.SegmentPoolIsConserved : Prop :=
  ∀ s t : State, s.Pooled → step s = .next t → t.Pooled

/-- R21, R28 to R32: the transmit queue keeps its order of rank, its room and its single STATUS and PROPOSE, the numbers
that tell its entries apart stay distinct (log 4), and the counters and runs keep their ranges. -/
def Obligations.TransmitQueueKeepsItsOrder : Prop :=
  ∀ s t : State, s.port.Ordered → step s = .next t → t.port.Ordered

/-- R47, R48: the pending queue stays short and strictly ordered, no seq is held twice, and each place holds its
kind. -/
def Obligations.PlanKeepsItsOrder : Prop :=
  ∀ s t : State, s.store.Ordered → step s = .next t → t.store.Ordered

/-- R160: after every step the drive enable and the brake are those of the motion mode and the line causes. -/
def Obligations.OutputsFollowModeAndLines : Prop :=
  ∀ s t : State, s.OutputsSafe → step s = .next t → t.OutputsSafe

/-- R105 to R107, R109: in any one round the controller asserts its slot in GO rolls or in SKIP rolls, never in both,
and every complete GO roll it records is one it asserted, at its own D_i or above. -/
def Obligations.RollAssertionsStayHonest : Prop :=
  ∀ s t : State, s.Agreeing → step s = .next t → t.Agreeing

/-- R128: |guide_applied| never exceeds GUIDE_TOTAL_MAX and |applied_offset| never exceeds OFFSET_MAX. -/
def Obligations.OffsetsAndGuideStayBounded : Prop :=
  ∀ s t : State, s.Bounded → step s = .next t → t.Bounded

/-- R168: the ring never holds more than 256 entries nor the post-trigger count more than 64. -/
def Obligations.TraceStaysBounded : Prop :=
  ∀ s t : State, s.axis.TraceBounded → step s = .next t → t.axis.TraceBounded

/-- R23: a frame heard by a port that is not silent, which fails a test, leaves everything but the reception as it
was, whatever its class: not taken, no slot, no event, no counter. -/
def Obligations.FramesThatFailTheTestsChangeNothing : Prop :=
  ∀ (c : Instr) (f : Frame) (s : State), c.frame? = some f → s.conf.life ≠ .strapFault →
    passesTests s f.cls ⟨f.sender, f.dest⟩ = false →
    exec c s = .next (s.receiving (some ⟨f, false, false, none⟩))

/-! ### Frames as bytes -/

/-- R35 and 3.3: reading a payload of each class gives back the fields it was written from, for every value that the
fields' sizes allow, and every payload has the fixed length of its class. -/
def Obligations.PayloadsRoundTrip : Prop :=
  (∀ c : CallFields, c.epoch < 2 ^ 48 → c.seq < 2 ^ 16 → c.verdict < 2 ^ 8 → c.d < 2 ^ 32 →
    readCall (callPayload c) = some c ∧ (callPayload c).length = 13) ∧
  (∀ h : HoldFields, h.cause < 2 ^ 8 → h.seq < 2 ^ 16 → h.flags < 2 ^ 8 →
    readHold (holdPayload h) = some h ∧ (holdPayload h).length = 4) ∧
  (∀ a : AbandonFields, a.seq < 2 ^ 16 → a.epoch < 2 ^ 48 → a.cause < 2 ^ 8 →
    readAbandon (abandonPayload a) = some a ∧ (abandonPayload a).length = 9) ∧
  (∀ g : GuideFields, g.seq < 2 ^ 16 → (∀ x ∈ [g.dAz, g.dEl, g.dRot], -2 ^ 31 ≤ x ∧ x < 2 ^ 31) →
    readGuide (guidePayload g) = some g ∧ (guidePayload g).length = 15) ∧
  (∀ n : Nat, n < 2 ^ 32 → readTime (timePayload n) = some n ∧ (timePayload n).length = 4) ∧
  (∀ (n : Nat) (v : Int), n < 2 ^ 8 → -2 ^ 31 ≤ v → v < 2 ^ 31 →
    readConfig (configPayload n v) = some (n, v) ∧ (configPayload n v).length = 5) ∧
  (∀ h : HeadFields, h.seq < 2 ^ 16 → h.kind < 2 ^ 8 → h.windowOpen < 2 ^ 48 → h.windowClose < 2 ^ 48 →
    h.dwell < 2 ^ 32 → (∀ r, h.counts.get r < 2 ^ 8) →
    readHead (headPayload h) = some h ∧ (headPayload h).length = 24) ∧
  (∀ g : SegFields, g.seq < 2 ^ 16 → g.index < 2 ^ 8 → g.segment.tStart < 2 ^ 48 → g.segment.span < 2 ^ 32 →
    (∀ x ∈ [g.segment.c0, g.segment.c1, g.segment.c2, g.segment.c3], -2 ^ 31 ≤ x ∧ x < 2 ^ 31) →
    readSeg (segPayload g) = some g ∧ (segPayload g).length = 29)

/-- 3.3 and R19: on the medium a PROPOSE or ROLL of lower epoch wins over one of higher epoch, then lower seq, then
the lower verdict (GO before SKIP), then lower D. -/
def Obligations.LowerCallWinsArbitration : Prop :=
  ∀ a b : CallFields,
    a.epoch < 2 ^ 48 → a.seq < 2 ^ 16 → a.verdict < 2 ^ 8 → a.d < 2 ^ 32 →
    b.epoch < 2 ^ 48 → b.seq < 2 ^ 16 → b.verdict < 2 ^ 8 → b.d < 2 ^ 32 →
    ∀ (k : FrameClass) (sender : BitVec 4) (dest : BitVec 8),
    (winsOver ⟨k, sender, dest, callPayload a⟩ ⟨k, sender, dest, callPayload b⟩ = true ↔
      a.epoch < b.epoch ∨ (a.epoch = b.epoch ∧ (a.seq < b.seq ∨ (a.seq = b.seq ∧
        (a.verdict < b.verdict ∨ (a.verdict = b.verdict ∧ a.d < b.d))))))

/-! ### Exact arithmetic -/

/-- R67, R68: the nearest integer of an exact number is that of the real number it stands for, half-way values toward
+∞; sums, differences and products of numbers with one square root are exact. -/
def Obligations.RoundingIsExact : Prop :=
  (∀ x : Exact, 0 < x.den → x.nearest = ⌊x.value + 1 / 2⌋ ∧ x.round = resultOf x.value ∧ x.floor = ⌊x.value⌋ ∧
    x.ceil = ⌈x.value⌉) ∧
  (∀ x y : Exact, 0 < x.den → 0 < y.den → (x.q = 0 ∨ y.q = 0 ∨ x.n = y.n) →
    (x.add y).value = x.value + y.value ∧ (x.sub y).value = x.value - y.value ∧
      (x.mul y).value = x.value * y.value) ∧
  ∀ (x : Exact) (k : Int), 0 < x.den → ((x.ltInt k = true ↔ x.value < k) ∧ (x.gtInt k = true ↔ (k : ℝ) < x.value))

/-- R69 to R71: the position and the velocity of a track at a mount time, and at the exact time to which the second goal
of a proposal needs them, are those of the cubic of its segment. -/
def Obligations.TrackIsTheCubicOfItsSegment : Prop :=
  (∀ (tr : Track) (t : Nat), IsTrackAt tr t (tr.pos t) (tr.vel t)) ∧
    ∀ (tr : Track) (time : Exact), 0 < time.den → IsTrackAt tr time.value (tr.evalAt time).1 (tr.evalAt time).2

/-! ### The time base -/

/-- R3, R4, R13 to R15, R31, R169: an edge in FREE. Spaced edges are counted; the fourth steps mount time onto its whole
second `w` and locks, with the step's effects on the correction, the link second, the ticks, the trace and the transmit
entries it passes, and ends TIME. A `w` past the top of mount time leaves it at the top (log 41). -/
def Obligations.PpsEdgeInFree : Prop :=
  ∀ (s : State) (w : Int), s.time.timeState = .free → s.time.residue = 0 → s.EdgeAt w →
    let spaced : Prop := ∃ l, s.time.lastCapture = some l ∧ |(s.now : Int) - l - 1000000| ≤ s.items.lockWindow
    ∃ t, exec .ppsEdge s = .next t ∧
      (¬spaced → t = { s with time := { s.time with lastCapture := some s.now, qualifying := 1 } }) ∧
      (spaced → s.time.qualifying ≠ 3 →
        t = { s with time := { s.time with lastCapture := some s.now, qualifying := s.time.qualifying + 1 } }) ∧
      (spaced → s.time.qualifying = 3 →
        t.time =
          { s.time with
            mountTime := min w.toNat 281474976710655, timeState := .locked, lastCapture := some s.now, qualifying := 0
            misses := 0, residue := 0, correction := none, goodSeconds := [w], judgeSecond := w + 1000000
            nextSecond := t.time.nextSecond, nextTick := t.time.nextTick } ∧
        Stepped 2 s t ∧
        (s.conf.life ≠ .strapFault → t.hold = { s.hold with causes := { s.hold.causes with time := false } }) ∧
        (Enabled s .timeLocked → (s.leftAt (max s.now t.now)).length + 2 ≤ 8 →
          Queued t (eventFrame s .timeLocked 0 (BitVec.ofInt 32 (s.edgeError w))) (t.now + 1000000)) ∧
        t.store = s.store ∧ t.round = s.round ∧ t.traj = s.traj ∧ t.conf = s.conf ∧ t.pins = s.pins)

/-- R3, R5, R10, R12, R13, R31, R169: an edge in LOCKED. A first good edge for its whole second `w` clears the misses
and either applies the pending set, with the effects of a step, or begins the correction of the whole error; every
other edge changes the last capture only. The good seconds that are kept are log 44. -/
def Obligations.PpsEdgeInLocked : Prop :=
  ∀ (s : State) (w : Int), s.time.timeState = .locked → s.EdgeAt w →
    ∃ t, exec .ppsEdge s = .next t ∧
      ((s.items.lockWindow : Int) < |s.edgeError w| ∨ w ∈ s.time.goodSeconds →
        t = { s with time := { s.time with lastCapture := some s.now } }) ∧
      (|s.edgeError w| ≤ s.items.lockWindow → w ∉ s.time.goodSeconds →
        (s.time.pendingSet = none →
          t =
            { s with
              time :=
                { s.time with
                  lastCapture := some s.now, misses := 0, residue := w - s.now
                  goodSeconds := w :: s.time.goodSeconds.filter fun g => decide (s.time.judgeSecond ≤ g)
                  correction := correctionFrom s.now (w - s.now) } }) ∧
        ∀ n, s.time.pendingSet = some n →
          t.time =
            { s.time with
              mountTime := min (n * 1000000) 281474976710655, lastCapture := some s.now, misses := 0, residue := 0
              correction := none, pendingSet := none, setTaken := true
              goodSeconds := [((n * 1000000 : Nat) : Int)], judgeSecond := ((n * 1000000 : Nat) : Int) + 1000000
              nextSecond := t.time.nextSecond, nextTick := t.time.nextTick } ∧
          Stepped 1 s t ∧
          t = { s with
                time := t.time, port := t.port, axis := { s.axis with ring := [], phase := t.axis.phase } })

/-- R3, R8, R9, R10: an edge in COAST or LOST. Regain edges of consecutive whole seconds are counted; the fourth locks
without a step, leaves the whole error to the slewed correction and ends TIME. The seconds expected from then on are
those after its whole second (log 44). -/
def Obligations.PpsEdgeInCoastOrLost : Prop :=
  ∀ (s : State) (w : Int), s.time.timeState = .coast ∨ s.time.timeState = .lost → s.EdgeAt w →
    let count := if s.time.regainSecond = some (w - 1000000) then s.time.qualifying + 1 else 1
    ∃ t, exec .ppsEdge s = .next t ∧
      (2000 < |s.edgeError w| ∨ s.time.regainSecond = some w →
        t = { s with time := { s.time with lastCapture := some s.now } }) ∧
      (|s.edgeError w| ≤ 2000 → s.time.regainSecond ≠ some w →
        (count ≠ 4 →
          t = { s with
                time := { s.time with lastCapture := some s.now, qualifying := count, regainSecond := some w } }) ∧
        (count = 4 →
          t.time =
            { s.time with
              timeState := .locked, lastCapture := some s.now, qualifying := 0, misses := 0, coastSeconds := 0
              regainSecond := none, residue := w - s.now, correction := correctionFrom s.now (w - s.now)
              goodSeconds := [w], judgeSecond := max s.time.judgeSecond (w + 1000000) } ∧
          (s.conf.life ≠ .strapFault → t.hold = { s.hold with causes := { s.hold.causes with time := false } }) ∧
          (Enabled s .timeLocked → Room s 1 →
            Queued t (eventFrame s .timeLocked 0 (BitVec.ofInt 32 (s.edgeError w))) (s.now + 1000000)) ∧
          t.store = s.store ∧ t.round = s.round ∧ t.traj = s.traj ∧ t.conf = s.conf ∧ t.pins = s.pins))

/-- R6, R8, R10: UNIT_CORRECTION, CORRECTION_SECOND_END, EXPECTED_SECOND_JUDGEMENT and REGAIN_RUN_MISS at the instants
that the time base holds for them. The first two instants of a correction second rest on log 20, the miss count after
the judgement of a second with its good edge on log 44. -/
def Obligations.SecondsAreCorrectedAndJudged : Prop :=
  (∀ (s : State) (c : Correction), s.time.correction = some c → c.done < c.q.natAbs →
    c.start + (c.done + 1) * (1000000 / c.q.natAbs) ≤ s.now →
    ∃ t residue, exec .unitCorrection s = .next t ∧
      (0 < s.time.residue → residue = s.time.residue - 1) ∧ (s.time.residue < 0 → residue = s.time.residue + 1) ∧
      (s.time.residue = 0 → residue = 0) ∧
      t = { s with
            time :=
              { s.time with
                mountTime := min (s.now + (if 0 < c.q then 2 else 0)) 281474976710655, residue := residue
                correction := some { c with done := c.done + 1 } } }) ∧
  (∀ (s : State) (c : Correction), s.time.correction = some c → c.q.natAbs ≤ c.done → c.start + 1000000 ≤ s.now →
    exec .correctionSecondEnd s =
      .next { s with time := { s.time with correction := correctionFrom (c.start + 1000000) s.time.residue } }) ∧
  (∀ s : State, s.time.timeState = .locked → s.time.judgeSecond + 500000 ≤ s.now →
    let w := s.time.judgeSecond
    ∃ t, exec .expectedSecondJudgement s = .next t ∧
      (w ∈ s.time.goodSeconds → t = { s with time := { s.time with judgeSecond := w + 1000000, misses := 0 } }) ∧
      (w ∉ s.time.goodSeconds → s.time.misses ≠ 2 →
        t = { s with time := { s.time with judgeSecond := w + 1000000, misses := s.time.misses + 1 } }) ∧
      (w ∉ s.time.goodSeconds → s.time.misses = 2 →
        t = { s with
              time :=
                { s.time with
                  judgeSecond := w + 1000000, timeState := .coast, coastSeconds := 0, regainSecond := none
                  misses := 0 }
              port := t.port } ∧
        (Enabled s .timeCoast → Room s 1 → Queued t (eventFrame s .timeCoast 0 3) (s.now + 1000000)))) ∧
  ∀ s : State, s.time.timeState = .coast ∨ s.time.timeState = .lost → s.time.judgeSecond + 500000 ≤ s.now →
    let w := s.time.judgeSecond
    ∃ t, exec .regainRunMiss s = .next t ∧
      (∀ r, s.time.regainSecond = some r → r < w →
        t = { s with
              time := { s.time with judgeSecond := w + 1000000, qualifying := 0, regainSecond := none } }) ∧
      ((∀ r, s.time.regainSecond = some r → w ≤ r) →
        t = { s with time := { s.time with judgeSecond := w + 1000000 } })

/-- R7, R9, R15, R32, R33, R134, R140: a link second closes. The monitor grades it outside STRAP_FAULT, and in COAST the
coast seconds advance, to LOST and the cause TIME when they reach COAST_MAX; raised in RUN it takes a hold, sends its
HOLD and starts the repeat timer. -/
def Obligations.LinkSecondCloses : Prop :=
  ∀ s : State, s.time.nextSecond ≤ s.now →
    ∃ t, exec .linkSecondClose s = .next t ∧
      t.time.nextSecond = s.time.nextSecond + 1000000 ∧
      (s.conf.life = .strapFault → t.port = s.port) ∧
      (s.conf.life ≠ .strapFault → LinkGraded (Room s 3) s t) ∧
      (s.time.timeState ≠ .coast →
        t = { s with time := { s.time with nextSecond := s.time.nextSecond + 1000000 }, port := t.port }) ∧
      (s.time.timeState = .coast → s.time.coastSeconds + 1 < s.items.coastMax →
        t = { s with
              time :=
                { s.time with
                  nextSecond := s.time.nextSecond + 1000000, coastSeconds := s.time.coastSeconds + 1 }
              port := t.port }) ∧
      (s.time.timeState = .coast → s.items.coastMax ≤ s.time.coastSeconds + 1 →
        t.time =
          { s.time with
            nextSecond := s.time.nextSecond + 1000000, coastSeconds := s.time.coastSeconds + 1
            timeState := .lost } ∧
        (s.conf.life ≠ .strapFault → t.hold.causes = { s.hold.causes with time := true }) ∧
        (s.conf.life = .run → s.hold.causes.time = false →
          HoldTaken false s t ∧ t.hold.repeatTimer = some (s.now + s.items.holdRepeat) ∧
            (Room s 3 → HoldQueued .time s t)) ∧
        (Enabled s .timeLost → Room s 3 →
          Queued t (eventFrame s .timeLost 0 (BitVec.ofNat 32 s.items.coastMax)) (s.now + 1000000)))

/-- R11, R35, R42, R144: a TIME frame that passes the tests is taken in CONFIG when its second is in range, and refused
otherwise: LOCKED in RUN, STATE while ESTOP persists, RANGE outside 0 to 281,474,976. -/
def Obligations.TimeSetIsHeldPending : Prop :=
  ∀ (o : Origin) (n : Nat) (s : State), n < 2 ^ 32 → Passes (.timeSet o (timePayload n)) s →
    let c := Instr.timeSet o (timePayload n)
    ∃ t, exec c s = .next t ∧
      if s.conf.life = .run then Refuses c s t .locked .commandRefused 0 5 255
      else if s.hold.causes.estop = true then Refuses c s t .state .commandRefused 0 5 255
      else if 281474976 < n then Refuses c s t .range .commandRefused 0 5 255
      else
        t = State.receiving { s with time := { s.time with pendingSet := some n } } (heardAs c true s)

/-! ### Configuration, START, RESTART -/

/-- R77, R174, R175: every item keeps its range and its step, SETTLE_ALLOW and BRAKE_DELAY stay ticks formed from their
received values, and L stays the step of VTRACK_MAX, through every step. -/
def Obligations.ConfigurationKeepsItsRanges : Prop :=
  ∀ s t : State, s.Configured → step s = .next t → t.Configured

/-- R14, R42, R77, R144, R174: a CONFIG frame that passes the tests. A taken item holds its value clamped to its range,
TICK_PERIOD stepped down to 250; no other item changes but the two durations that a new tick forms anew. -/
def Obligations.ConfigItemIsAdmitted : Prop :=
  ∀ (o : Origin) (n : Nat) (v : Int) (s : State), n < 2 ^ 8 → -2 ^ 31 ≤ v → v < 2 ^ 31 → s.Configured →
    Passes (.configItem o (configPayload n v)) s →
    let c := Instr.configItem o (configPayload n v)
    ∃ t, exec c s = .next t ∧
      if s.conf.life = .run then Refuses c s t .locked .commandRefused 0 7 n
      else if s.hold.causes.estop = true then Refuses c s t .state .commandRefused 0 7 n
      else
        (n = 0 ∨ 37 < n → Refuses c s t .unknown .commandRefused 0 7 n) ∧
        (1 ≤ n → n ≤ 37 → ∃ i, itemOfNumber n = some i) ∧
        ∀ i, itemOfNumber n = some i →
          let a := max i.lo (min v i.hi)
          t.Configured ∧
          (i ≠ .tickPeriod → i ≠ .settleAllow → i ≠ .brakeDelay → t.items.read i = a) ∧
          (i = .tickPeriod → (t.items.tickPeriod : Int) ≤ a ∧ a < t.items.tickPeriod + 250) ∧
          t.conf.receivedSettle = (if i = .settleAllow then a.toNat else s.conf.receivedSettle) ∧
          t.conf.receivedBrake = (if i = .brakeDelay then a.toNat else s.conf.receivedBrake) ∧
          (∀ j, j ≠ i → (i = .tickPeriod → j ≠ .settleAllow ∧ j ≠ .brakeDelay) → t.items.read j = s.items.read j) ∧
          (t.items.tickPeriod = s.items.tickPeriod → t.time = s.time) ∧
          (t.items.tickPeriod ≠ s.items.tickPeriod →
            t.time = { s.time with nextTick := t.time.nextTick } ∧ t.items.tickPeriod ∣ t.time.nextTick ∧
              s.now < t.time.nextTick ∧ t.time.nextTick ≤ s.now + t.items.tickPeriod) ∧
          t.port = { s.port with reception := heardAs c true s } ∧
          t.conf =
            { s.conf with
              items := t.items, receivedSettle := t.conf.receivedSettle, receivedBrake := t.conf.receivedBrake } ∧
          t.traj = { s.traj with stepL := t.traj.stepL } ∧
          t = { s with time := t.time, port := t.port, conf := t.conf, traj := t.traj }

/-- R42, R133, R140, R144, R177: START is refused by the first check that fails, and otherwise enters RUN with the plan
READY; the causes in the set are then taken as raised, each with its HOLD. -/
def Obligations.StartEntersRun : Prop :=
  ∀ (o : Origin) (s : State), Passes (.start o []) s →
    let c := Instr.start o []
    ∃ t, exec c s = .next t ∧
      if s.hold.causes.estop = true then RefusesCommand c s t .state 1
      else if s.conf.life = .run then RefusesCommand c s t .state 1
      else if s.ownRole.map s.items.addr.get ≠ some s.ownAddress then RefusesCommand c s t .range 1
      else if s.items.addrControl = 15 then RefusesCommand c s t .range 1
      else if s.items.softHi ≤ s.items.softLo then RefusesCommand c s t .range 1
      else if s.items.tAgree < s.items.tPropose + 5000 then RefusesCommand c s t .range 1
      else if s.time.timeState ≠ .locked ∨ s.time.setTaken = false then RefusesCommand c s t .state 1
      else
        t.port.reception = heardAs c true s ∧ t.conf = { s.conf with life := .run } ∧
        t.time = { s.time with pendingSet := none } ∧ t.store = s.store ∧ t.pins = s.pins ∧
        t.round.trigger = none ∧ t.round.abandon = none ∧ t.round.dwell = none ∧ t.round.abandonSent = false ∧
        t.hold.causes = s.hold.causes ∧ t.hold.peerHold = s.hold.peerHold ∧
        (s.traj.motion = .braked → t.traj = s.traj) ∧
        (s.hold.causes.any = false → t.round.plan = some .ready ∧ t.hold = s.hold ∧ t.axis = s.axis ∧
          t.port.queue = s.port.queue) ∧
        (s.hold.causes.any = true → t.round.plan = some .held ∧
          t.hold.repeatTimer = some (s.now + s.items.holdRepeat) ∧
          ∀ x, s.hold.causes.has x = true → Room s 5 → HoldQueued x s t)

/-- R42, R64, R79, R95, R130, R131, R133, R140, R144, R145, R157, R178: RESTART, taken in RUN while the axis stands or
is braked, empties the plan and every record, puts the axis on its brake and keeps time, configuration and trace;
DRIVE and TIME, where they persist, are then taken as raised, each with its HOLD for the emptied current slot. -/
def Obligations.RestartClearsThePlan : Prop :=
  ∀ (o : Origin) (s : State), Passes (.restart o []) s →
    let c := Instr.restart o []
    ∃ t, exec c s = .next t ∧
      if s.hold.causes.estop = true then RefusesCommand c s t .state 7
      else if s.conf.life ≠ .run ∨ motionCode s.traj.motion ∉ [4, 5] then RefusesCommand c s t .state 7
      else
        t.port.reception = heardAs c true s ∧ t.time = s.time ∧ t.conf = s.conf ∧ t.pins = s.pins ∧
        (t.store.queue = [] ∧ t.store.current = none ∧ t.store.ret = none ∧ t.store.excursion = none ∧
          t.store.free = 128 ∧ t.store.intake = none ∧ t.store.lastAppended = 0 ∧ t.store.lastCommitted = 0) ∧
        (t.round.trigger = none ∧ t.round.abandon = none ∧ t.round.dwell = none ∧ t.round.abandonSent = false) ∧
        t.traj =
          { s.traj with
            motion := .braked, wrapOffset := 0, lag := 0, trackSetpoint := 0, commandedOffset := 0, appliedOffset := 0
            pendingGuide := 0, guideApplied := 0, saturated := false } ∧
        t.axis =
          { s.axis with
            driveEnable := false, brakeApplied := true, brakeTimer := none, failureCount := 0, goodRun := 0
            tripCount := 0, settle := none, link := t.axis.link } ∧
        (∀ x, s.axis.driveEnable = true → s.axis.lastSetpoint = some x → t.axis.link = some ⟨false, x, 0⟩) ∧
        t.hold.causes = { s.hold.causes with following := false, encoder := false } ∧ t.hold.peerHold = false ∧
        (s.hold.causes.drive = false → s.hold.causes.time = false →
          t.round.plan = some .ready ∧ t.hold.repeatTimer = none ∧ t.port.queue = s.port.queue) ∧
        (s.hold.causes.drive = true ∨ s.hold.causes.time = true →
          t.round.plan = some .held ∧ t.hold.repeatTimer = some (s.now + s.items.holdRepeat) ∧
          ∀ x, t.hold.causes.has x = true → Room s 2 →
            Queued t
              ⟨.hold, s.conf.straps.address, 0x3E, holdPayload ⟨causeCode x, 0, causeBits t.hold.causes⟩⟩
              (s.now + 50000))

/-! ### Ticks -/

/-- R14, R157 to R164: at a tick the encoder is sampled, the following error formed, the counters advanced, a setpoint
sent, and ENCODER and FOLLOWING raised or ended, a raised one in RUN with its hold and its HOLD, ENCODER before
FOLLOWING (log 10). A trip counter above a count that CONFIG has lowered is cut to it (log 43). In STRAP_FAULT the
transfer carries zeros. -/
def Obligations.TickSamplesAndCounts : Prop :=
  (∀ (reply : EncoderReply) (s : State), s.conf.life = .strapFault → s.time.nextTick ≤ s.now →
    exec (.servoTick reply) s =
      .next { s with
              time := { s.time with nextTick := s.time.nextTick + s.items.tickPeriod }
              axis := { s.axis with link := some ⟨false, 0, 0⟩ } }) ∧
  ∀ (reply : EncoderReply) (s : State), s.TickNow →
    let e := (goodPosition reply).getD s.axis.lastEncoder
    let good := (goodPosition reply).isSome
    ∃ t, exec (.servoTick reply) s = .next t ∧
      (t.time = { s.time with nextTick := s.time.nextTick + s.items.tickPeriod } ∧ t.store = s.store ∧
        t.conf = s.conf ∧ t.pins = s.pins ∧ t.traj.lastTick = s.time.nextTick) ∧
      t.axis.lastEncoder = e ∧
      (s.axis.lastSetpoint = none → t.axis.fe = 0) ∧
      (∀ p, s.axis.lastSetpoint = some p → t.axis.fe = max (-2147483648) (min (p - e) 2147483647)) ∧
      t.axis.failureCount = (if good then 0 else min (s.axis.failureCount + 1) 3) ∧
      t.axis.goodRun =
        (if !good then 0
          else if !s.hold.causes.encoder then s.axis.goodRun
          else if s.axis.goodRun = 2 then 0
          else s.axis.goodRun + 1) ∧
      t.axis.tripCount =
        (if (s.items.feTrip : Int) < |t.axis.fe| then min (s.axis.tripCount + 1) s.items.feTripCount else 0) ∧
      (t.hold.causes.encoder = true ↔ (good = false ∧ 2 ≤ s.axis.failureCount) ∨
        (s.hold.causes.encoder = true ∧ ¬(good = true ∧ s.axis.goodRun = 2))) ∧
      (let tripped : Prop := (s.items.feTrip : Int) < |t.axis.fe|
       t.hold.causes.following = true ↔ (tripped ∧ s.items.feTripCount ≤ s.axis.tripCount + 1) ∨
         (s.hold.causes.following = true ∧ (tripped ∨ s.modeAtTick ≠ 4))) ∧
      t.hold.causes =
        { s.hold.causes with encoder := t.hold.causes.encoder, following := t.hold.causes.following } ∧
      (s.conf.life = .run →
        (t.hold.causes.encoder = true ∧ s.hold.causes.encoder = false) ∨
          (t.hold.causes.following = true ∧ s.hold.causes.following = false) →
        t.round.plan = some .held ∧ t.axis.settle = none ∧
          t.hold.repeatTimer = some (s.now + s.items.holdRepeat)) ∧
      (s.conf.life = .run → Room s 8 →
        (t.hold.causes.encoder = true → s.hold.causes.encoder = false →
          Queued t
            ⟨.hold, s.conf.straps.address, 0x3E,
              holdPayload ⟨causeCode .encoder, s.currentSeq, causeBits { s.hold.causes with encoder := true }⟩⟩
            (s.now + 50000)) ∧
        (t.hold.causes.following = true → s.hold.causes.following = false → HoldQueued .following s t)) ∧
      ∃ sp, t.axis.lastSetpoint = some sp ∧
        (t.hold.causes = s.hold.causes →
          t.axis.link = some ⟨t.axis.driveEnable, sp, t.traj.lastFeedforward⟩)

/-- R78, R123, R138, R139, R159: the setpoint and the feedforward of a tick in BRAKED, STANDING, RELEASING and STOPPING,
the clamp to the soft limits, and the end of a stop. -/
def Obligations.TicksWithoutATrack : Prop :=
  ∀ (reply : EncoderReply) (s : State), s.TickNow → s.items.softLo ≤ s.items.softHi →
    let clamp : Int → Int := fun x => max s.items.softLo (min x s.items.softHi)
    3 ≤ motionCode s.traj.motion →
    ∃ t, exec (.servoTick reply) s = .next t ∧
      t.traj =
        { s.traj with
          motion := t.traj.motion, lag := 0, lastFeedforward := t.traj.lastFeedforward
          lastTick := s.time.nextTick } ∧
      (s.traj.motion = .braked → t.traj.motion = .braked ∧ t.traj.lastFeedforward = 0 ∧
        t.axis.lastSetpoint = some (clamp t.axis.lastEncoder)) ∧
      (∀ h, s.traj.motion = .standing h → t.traj.motion = .standing h ∧ t.traj.lastFeedforward = 0 ∧
        t.axis.lastSetpoint = some h) ∧
      (∀ r, s.traj.motion = .releasing r → t.traj.lastFeedforward = 0 ∧ t.axis.lastSetpoint = some r.p0 ∧
        (t.hold.causes = s.hold.causes → t.traj.motion = .releasing r)) ∧
      ∀ p, s.traj.motion = .stopping p → 0 < p.stopTime.den → 0 < s.items.holdDecel →
        let u : ℝ := ((s.time.nextTick : ℝ) - p.t0) / 1000000
        let a : ℝ := s.items.holdDecel
        let pos := resultOf (p.sp0 + p.v0 * u - SignType.sign p.v0 * a * u ^ 2 / 2)
        let ff := resultOf (p.v0 - SignType.sign p.v0 * a * u)
        let rest := resultOf (p.sp0 + SignType.sign p.v0 * p.v0 ^ 2 / (2 * a))
        (u < p.stopTime.value → t.traj.motion = .stopping p ∧ t.axis.lastSetpoint = some (clamp pos) ∧
          t.traj.lastFeedforward = if clamp pos = pos then ff else 0) ∧
        (p.stopTime.value ≤ u → t.traj.motion = .standing (clamp rest) ∧ t.traj.lastFeedforward = 0 ∧
          t.axis.lastSetpoint = some (clamp rest))

/-- R76 to R78, R113, R117 to R121, R124, R127, R128: a tick in SETTLING or TRACKING. The track setpoint moves by at
most L, the offset and the guide value by at most their steps, the setpoint stays within the soft limits, and a lag or
a clamp beyond the limits leads to one ABANDON. -/
def Obligations.TrackingTick : Prop :=
  ∀ (reply : EncoderReply) (s : State) (rec : Record), s.TickNow → s.store.current = some rec →
    s.traj.motion = .settling ∨ s.traj.motion = .tracking → s.items.softLo ≤ s.items.softHi →
    ∃ t, exec (.servoTick reply) s = .next t ∧ TrackWork s.traj rec s t ∧
      LossesReported (inAbandonPhase s = true) rec s t ∧
      (t.hold.causes = s.hold.causes → motionCode t.traj.motion = s.modeAtTick)

/-- R89, R90, R111, R113, R117, R118: a tick in SLEWING sends the profile's position within the soft limits; at or
after the motion end it does the whole work of a tick of the new mode, whose track setpoint starts from the goal, and
the round engine is told. DWELL is the phase once T_d has been taken, also for a tick taken after it (log 30). -/
def Obligations.SlewingTick : Prop :=
  ∀ (reply : EncoderReply) (s : State) (p : SlewProfile), s.TickNow → s.traj.motion = .slewing p →
    s.items.softLo ≤ s.items.softHi →
    let clamp : Int → Int := fun x => max s.items.softLo (min x s.items.softHi)
    let u := s.time.nextTick - p.motionStart
    ∃ t, exec (.servoTick reply) s = .next t ∧
      (s.time.nextTick < p.finish →
        t.traj =
          { s.traj with
            motion := t.traj.motion, lag := 0, lastTick := s.time.nextTick
            lastFeedforward := if clamp (p.posAt u) = p.posAt u then p.feedforwardAt u else 0 } ∧
        t.axis.lastSetpoint = some (clamp (p.posAt u)) ∧
        (t.hold.causes = s.hold.causes → t.traj.motion = .slewing p ∧ t.round = s.round)) ∧
      (p.finish ≤ s.time.nextTick → ∀ rec, s.store.current = some rec →
        TrackWork { s.traj with trackSetpoint := p.goal } rec s t ∧
        LossesReported
          (inAbandonPhase s = true ∨ (s.round.plan = some (.observing .slew) ∧ s.round.dwell ≠ none)) rec s t ∧
        (t.hold.causes = s.hold.causes →
          t.traj.motion = (if s.time.nextTick < p.arrival then .settling else .tracking) ∧
          ∀ d, s.round.dwell = some d →
            t.round.dwell = some { d with motionEnded := true } ∧
            (s.round.plan = some (.observing .slew) →
              t.round.plan =
                some (.observing
                  (if d.started then .dwell
                    else if s.time.nextTick < d.arrival then .settle
                    else if s.time.nextTick < d.dwellStart then .dwellWait
                    else .dwell)))))

/-- R78, R120, R127, R167 to R169: the entry of a tick with its flags and what the trace ring does with it by its
phase, with TRACE TRIGGERED and STOPPED. -/
def Obligations.TickRecordsTheTrace : Prop :=
  ∀ (reply : EncoderReply) (s : State), s.TickNow → s.axis.TraceBounded →
    ∃ t e, exec (.servoTick reply) s = .next t ∧ t.axis.setting = s.axis.setting ∧
      (e.tickTime = BitVec.ofNat 32 s.time.nextTick ∧ t.axis.lastSetpoint = some e.setpoint ∧
        e.encoder = t.axis.lastEncoder ∧ e.fe = t.axis.fe ∧ e.mode = s.modeAtTick) ∧
      ((e.flags.getLsbD 0 = true ↔ e.mode = 0 ∨ e.mode = 6) ∧ (e.flags.getLsbD 1 = true ↔ e.mode = 1) ∧
        (e.flags.getLsbD 2 = true ↔ e.mode = 2) ∧ (e.flags.getLsbD 3 = true ↔ e.mode = 3) ∧
        (e.flags.getLsbD 4 = true ↔ e.mode = 5) ∧
        (e.flags.getLsbD 5 = true ↔ ∃ r, s.axis.settle = some r ∧ (r.settled = true ∨
          ((e.mode = 1 ∨ e.mode = 2) ∧ (goodPosition reply).isSome = true ∧ |e.fe| ≤ (s.items.settleWindow : Int) ∧
            s.items.settleCount ≤ r.counter + 1))) ∧
        (e.flags.getLsbD 6 = true ↔ t.traj.lag ≠ 0) ∧
        (let clamped : Prop := e.flags.getLsbD 7 = true
         (e.mode = 1 ∨ e.mode = 2 → (clamped ↔ ¬SentUnclamped t)) ∧
         (∀ p, s.traj.motion = .slewing p → e.mode = 0 →
           (clamped ↔ e.setpoint ≠ p.posAt (s.time.nextTick - p.motionStart))) ∧
         (∀ p, s.traj.motion = .stopping p →
           (clamped ↔ e.setpoint ≠
             if p.runsAt s.time.nextTick then p.posAt s.items.holdDecel (p.elapsed s.time.nextTick)
             else p.restPos s.items.holdDecel)) ∧
         (s.traj.motion = .braked → (clamped ↔ e.setpoint ≠ e.encoder)) ∧
         (motionCode s.traj.motion = 4 ∨ motionCode s.traj.motion = 6 → ¬clamped)) ∧
        (e.flags.getLsbD 8 = true ↔ t.traj.guideApplied ≠ s.traj.guideApplied) ∧
        (e.flags.getLsbD 9 = true ↔ (s.items.settleWindow : Int) < |e.fe|) ∧
        (e.flags.getLsbD 10 = true ↔ s.round.plan = some .held) ∧
        (e.flags.getLsbD 11 = true ↔ s.time.timeState = .coast ∨ s.time.timeState = .lost) ∧
        ∀ n, 12 ≤ n → e.flags.getLsbD n = false) ∧
      (let holds : Prop := e.flags &&& s.axis.setting.mask = s.axis.setting.pattern ↔ s.axis.setting.sense = .isMatch
       let pushed := (s.axis.ring ++ [e]).drop (s.axis.ring.length + 1 - 256)
       let triggered : Prop := Enabled s .traceTriggered → Room s 8 →
         Queued t (eventFrame s .traceTriggered 0 (BitVec.ofNat 32 s.time.nextTick)) (s.now + 1000000)
       let stopped : Prop := t.axis.phase = .stopped ∧ (Enabled s .traceStopped → Room s 8 →
         Queued t (eventFrame s .traceStopped 0 (BitVec.ofNat 32 t.axis.ring.length)) (s.now + 1000000))
       (s.axis.phase = .idle ∨ s.axis.phase = .stopped → t.axis.ring = s.axis.ring ∧ t.axis.phase = s.axis.phase) ∧
       (s.axis.phase = .armed →
         (holds → t.axis.ring = pushed ∧ t.axis.phase = .recordingToFull ∧ triggered) ∧
         (¬holds → t.axis.ring = s.axis.ring ∧ t.axis.phase = .armed)) ∧
       (s.axis.phase = .recording → t.axis.ring = pushed ∧
         (holds → s.axis.setting.mode = .stopOn → t.axis.phase = .postTrigger 64 ∧ triggered) ∧
         (¬(holds ∧ s.axis.setting.mode = .stopOn) → t.axis.phase = .recording)) ∧
       (s.axis.phase = .recordingToFull → t.axis.ring = pushed ∧
         (pushed.length = 256 → stopped) ∧ (pushed.length ≠ 256 → t.axis.phase = .recordingToFull)) ∧
       ∀ n, s.axis.phase = .postTrigger n → t.axis.ring = pushed ∧
         (n ≤ 1 → stopped) ∧ (2 ≤ n → t.axis.phase = .postTrigger (n - 1)))

/-- R165, R166: the settle counter, the settled mark and the judgement of the arrival at a tick, with SETTLED and
SETTLE_LATE. -/
def Obligations.SettlingAndArrivalAreFound : Prop :=
  ∀ (reply : EncoderReply) (s : State) (r : SettleRecord), s.TickNow → s.axis.settle = some r →
    ∃ t r', exec (.servoTick reply) s = .next t ∧ r'.seq = r.seq ∧ r'.arrival = r.arrival ∧
      (t.hold.causes = s.hold.causes → t.axis.settle = some r') ∧
      (let counts : Prop := (s.modeAtTick = 1 ∨ s.modeAtTick = 2) ∧ r.settled = false
       let near : Prop := (goodPosition reply).isSome = true ∧ |t.axis.fe| ≤ s.items.settleWindow
       (counts → near → r'.counter = r.counter + 1 ∧ (r'.settled = true ↔ s.items.settleCount ≤ r.counter + 1)) ∧
       (counts → ¬near → r'.counter = 0 ∧ r'.settled = false) ∧
       (¬counts → r'.counter = r.counter ∧ r'.settled = r.settled)) ∧
      (r'.judged = true ↔ r.judged = true ∨ r.arrival ≤ s.time.nextTick) ∧
      (r'.settled = true → r.settled = false → Enabled s .settled → Room s 8 →
        Queued t (eventFrame s .settled r.seq (BitVec.ofNat 32 s.time.nextTick)) (s.now + 1000000)) ∧
      (r'.settled = false → r.judged = false → r.arrival ≤ s.time.nextTick → Enabled s .settleLate → Room s 8 →
        Queued t (eventFrame s .settleLate r.seq (BitVec.ofInt 32 t.axis.fe)) (s.now + 1000000))

/-- R73, R74, R80 to R83, R86 to R88: the wrap choice, the predicted position, the verdict and the duration of a
proposal, the minimum motion time, and the motion profile that a distance and a budget fix, as the formulas of
chapters 5 and 6. That a prediction takes S_m + T for the motion end is log 37. -/
def Obligations.SlewsFollowTheirFormulas : Prop :=
  (∀ (c : Items) (d : Nat), 0 < c.vmax → 0 < c.amax →
    (minMotion c d).value =
      1000000 * (if d * c.amax ≤ c.vmax * c.vmax then 2 * √((d : ℝ) / c.amax)
        else (d : ℝ) / c.vmax + (c.vmax : ℝ) / c.amax)) ∧
  (∀ (c : Items) (tr : Track) (start : Nat) (pS : Int),
    (chooseWrap c tr start pS = none ↔ ∀ k, ¬AdmissibleWrap c tr k) ∧
    ∀ k, chooseWrap c tr start pS = some k ↔ IsWrapChoice c tr start pS k) ∧
  (∀ (s : State) (start : Nat), s.items.softLo ≤ s.items.softHi → IsPredicted s start (predict s start)) ∧
  (∀ (s : State) (rec : Record) (epoch : Nat),
    let start := epoch + s.items.tAgree
    let pS := predict s start
    let p := computeProposal s rec epoch
    ((∃ x, s.traj.motion = .stopping x) → p = ⟨.notReady, 0, none⟩) ∧
    ((∀ x, s.traj.motion ≠ .stopping x) →
      (chooseWrap s.items rec.track start pS = none → p = ⟨.unreachable, 0, none⟩) ∧
      ∀ k, chooseWrap s.items rec.track start pS = some k → p = proposeWith s rec.track start pS k)) ∧
  (∀ (s : State) (tr : Track) (start : Nat) (pS k : Int), 0 < s.items.vmax → 0 < s.items.amax →
    0 < s.items.tickPeriod →
    let c := s.items
    let goal : Int → Int := fun x => max (-2147483648) (min (x + k * 1327104000) 2147483647)
    let m0 := minMotion c (goal (tr.pos start) - pS).natAbs
    let m1 := minMotion c (goal (tr.evalAt (secondGoalTime c start m0)).1 - pS).natAbs
    let longest : ℝ := max m0.value m1.value
    let r := proposeWith s tr start pS k
    (0 < (secondGoalTime c start m0).den ∧ (secondGoalTime c start m0).value = start + m0.value + c.settleAllow) ∧
    r.wrap = some k ∧
    ((c.maxSlew : ℝ) < longest → r.verdict = .unreachable) ∧
    (longest ≤ c.maxSlew → r.verdict = .go ∧
      ∃ n : Nat, c.tickPeriod ∣ n ∧ longest ≤ n ∧ (n : ℝ) < longest + c.tickPeriod ∧
        r.d = n + c.settleAllow + (if 5 ≤ motionCode s.traj.motion then c.brakeDelay else 0))) ∧
  ∀ (c : Items) (tr : Track) (wrap : Int) (r : Release), 0 < c.vmax → 0 < c.amax → 0 < c.tickPeriod →
    let goal := max (-2147483648) (min (tr.pos (r.motionStart + r.budget) + wrap * 1327104000) 2147483647)
    let need : ℝ := (minMotion c (goal - r.p0).natAbs).value
    (goal = r.p0 → fixProfile c tr wrap r = .still goal) ∧
    (goal ≠ r.p0 → ∃ p late, fixProfile c tr wrap r = .moving p late ∧
      (p.seq = r.seq ∧ p.slewStart = r.slewStart ∧ p.motionStart = r.motionStart ∧ p.arrival = r.arrival ∧
        p.p0 = r.p0 ∧ p.goal = goal ∧ p.delta = goal - r.p0) ∧
      (need ≤ r.budget → late = none ∧ p.duration = r.budget) ∧
      ((r.budget : ℝ) < need → late = some (p.duration - r.budget) ∧ c.tickPeriod ∣ p.duration ∧
        need ≤ p.duration ∧ (p.duration : ℝ) < need + c.tickPeriod) ∧
      ∀ u : Nat,
        let δ : ℝ := (goal - r.p0 : Int)
        let T : ℝ := p.duration / 1000000
        let x : ℝ := u / 1000000
        let ρ : ℝ := (T - √(T ^ 2 - 4 * |δ| / c.amax)) / 2
        (p.duration ≤ u → p.posAt u = goal ∧ p.feedforwardAt u = 0) ∧
        (u < p.duration → x < ρ →
          p.posAt u = resultOf (r.p0 + δ * x ^ 2 / (2 * ρ * (T - ρ))) ∧
          p.feedforwardAt u = resultOf (δ * x / (ρ * (T - ρ)))) ∧
        (u < p.duration → ρ ≤ x → x ≤ T - ρ →
          p.posAt u = resultOf (r.p0 + δ * (x - ρ / 2) / (T - ρ)) ∧ p.feedforwardAt u = resultOf (δ / (T - ρ))) ∧
        (u < p.duration → T - ρ < x →
          p.posAt u = resultOf (r.p0 + δ * (1 - (T - x) ^ 2 / (2 * ρ * (T - ρ)))) ∧
          p.feedforwardAt u = resultOf (δ * (T - x) / (ρ * (T - ρ)))))

/-! ### Holds -/

/-- R131 to R135, R140, R144, R160: the two lines. Asserted, a line raises its cause, brakes the axis at once and in RUN
takes the hold and sends HOLD; deasserted, it ends the cause and releases neither the hold nor the brake. -/
def Obligations.LinesRaiseAndEndTheirCauses : Prop :=
  (∀ (s : State) (x : Cause) (c : Instr) (pins : Pins),
    (x = .drive ∧ c = .driveFaultAsserted ∧ pins = { s.pins with driveFault := true }) ∨
      (x = .estop ∧ c = .emergencyStopAsserted ∧ pins = { s.pins with estop := true }) →
    ∃ t, exec c s = .next t ∧ t.pins = pins ∧
      (s.conf.life = .strapFault ∨ s.hold.causes.has x = true → t = { s with pins := pins }) ∧
      (s.conf.life ≠ .strapFault → s.hold.causes.has x = false →
        (∀ y, t.hold.causes.has y = (decide (y = x) || s.hold.causes.has y)) ∧
        t.axis.driveEnable = false ∧ t.axis.brakeApplied = true ∧
        (∀ p, s.axis.driveEnable = true → s.axis.lastSetpoint = some p → t.axis.link = some ⟨false, p, 0⟩) ∧
        (s.conf.life = .config →
          t = { s with
                pins := pins, hold := { s.hold with causes := t.hold.causes }
                axis := { s.axis with driveEnable := false, brakeApplied := true, link := t.axis.link } }) ∧
        (s.conf.life = .run → HoldTaken true s t ∧
          t.hold = { s.hold with
                     causes := t.hold.causes, repeatTimer := some (s.now + s.items.holdRepeat) } ∧
          (Room s 1 → HoldQueued x s t) ∧ t.time = s.time ∧ t.conf = s.conf))) ∧
  ∀ (s : State) (x : Cause) (c : Instr) (pins : Pins),
    (x = .drive ∧ c = .driveFaultDeasserted ∧ pins = { s.pins with driveFault := false }) ∨
      (x = .estop ∧ c = .emergencyStopDeasserted ∧ pins = { s.pins with estop := false }) →
    ∃ t, exec c s = .next t ∧
      (s.conf.life = .strapFault → t = { s with pins := pins }) ∧
      (s.conf.life ≠ .strapFault →
        (∀ y, t.hold.causes.has y = (!decide (y = x) && s.hold.causes.has y)) ∧ t.OutputsSafe ∧
        t = { s with
              pins := pins, hold := { s.hold with causes := t.hold.causes }
              axis :=
                { s.axis with
                  driveEnable := t.axis.driveEnable, brakeApplied := t.axis.brakeApplied, link := t.axis.link } })

/-- R36, R38, R134, R136, R137, R140: a HOLD of another station taken in RUN holds the axis and sets the peer-hold mark,
the own HOLD changes nothing, and outside RUN none is taken; at its expiry the repeat timer sends HOLD for the
persisting cause of lowest code or stops. -/
def Obligations.HoldsAreTakenAndRepeated : Prop :=
  (∀ (o : Origin) (p : List Byte) (s : State), Passes (.hold o p) s → p.length = 4 →
    let c := Instr.hold o p
    ∃ t, exec c s = .next t ∧
      (s.conf.life ≠ .run → t = s.receiving (heardAs c false s)) ∧
      (s.conf.life = .run → o.sender = s.conf.straps.address → t = s.receiving (heardAs c true s)) ∧
      (s.conf.life = .run → o.sender ≠ s.conf.straps.address →
        HoldTaken false s t ∧ t.hold = { s.hold with peerHold := true } ∧
        t.port = { s.port with reception := heardAs c true s } ∧ t.time = s.time ∧ t.conf = s.conf ∧
        t.pins = s.pins)) ∧
  ∀ (s : State) (expiry : Nat), s.hold.repeatTimer = some expiry → expiry ≤ s.now →
    ∃ t, exec .holdRepeat s = .next t ∧
      ((∀ x, s.hold.causes.has x = false) → t = { s with hold := { s.hold with repeatTimer := none } }) ∧
      ∀ x, s.hold.causes.has x = true → (∀ y, causeCode y < causeCode x → s.hold.causes.has y = false) →
        t = { s with
              port := t.port
              hold := { s.hold with repeatTimer := some (s.now + s.items.holdRepeat) } } ∧
        (s.conf.life ≠ .strapFault → Room s 1 → HoldQueued x s t)

/-! ### The Span port -/

/-- R19 to R22, R26, R29 to R32, R34: ATTEMPT_START copies the head of the entries whose deadlines lie ahead;
ATTEMPT_END removes the entry when its own frame was carried, otherwise keeps it unless its deadline was reached at
any instant of the attempt, and settles nothing for an entry that has left the queue; TX_DEADLINE removes the entries
that no attempt copies; DAMAGED_FRAME counts and marks its second, after a closing of the same instant (log 19). -/
def Obligations.AttemptsDeadlinesAndDamage : Prop :=
  (∀ s : State, s.conf.life ≠ .strapFault →
    (s.port.attempt ≠ none → exec .attemptStart s = .next s) ∧
    (s.port.attempt = none →
      let ahead := s.port.queue.filter fun e => decide (s.now < e.deadline)
      exec .attemptStart s =
        .next { s with
                port :=
                  { s.port with
                    queue := ahead
                    txExpired := min (s.port.txExpired + (s.port.queue.length - ahead.length)) 65535
                    attempt := ahead.head?.map fun e => ⟨e.id, e.frame, checkWord e.frame, false, false⟩ } })) ∧
  (∀ (s : State) (result : MediumResult), s.conf.life ≠ .strapFault →
    let ended := { s.port with attempt := none }
    (s.port.attempt = none → exec (.attemptEnd result) s = .next s) ∧
    ∀ a, s.port.attempt = some a →
      ((∀ x ∈ s.port.queue, x.id ≠ a.entry) → exec (.attemptEnd result) s = .next { s with port := ended }) ∧
      ∀ e ∈ s.port.queue, (∀ x ∈ s.port.queue, x.id = a.entry ↔ x = e) →
        let carried : Prop := result = .heard a.frame ∧ a.replaced = false
        let missed : Prop := a.reached = true ∨ e.deadline ≤ s.now
        (carried →
          exec (.attemptEnd result) s = .next { s with port := { ended with queue := s.port.queue.erase e } }) ∧
        (¬carried → ¬missed → exec (.attemptEnd result) s = .next { s with port := ended }) ∧
        (¬carried → missed →
          exec (.attemptEnd result) s =
            .next { s with
                    port :=
                      { ended with
                        queue := s.port.queue.erase e, txExpired := min (s.port.txExpired + 1) 65535 } })) ∧
  (∀ s : State,
    exec .txDeadline s =
      .next { s with
              port :=
                { s.port with
                  queue := s.leftAt s.now, attempt := s.attemptBy s.now
                  txExpired := min (s.port.txExpired + (s.port.queue.length - (s.leftAt s.now).length)) 65535 } }) ∧
  ∀ (s : State) (afterCheckWord : Bool), s.conf.life ≠ .strapFault →
    ∃ t, exec (.damagedFrame afterCheckWord) s = .next t ∧
      t.port.damaged = min (s.port.damaged + 1) 65535 ∧ t.port.erroredMark = true ∧ t.port.reception = none ∧
      (s.now < s.time.nextSecond →
        t = { s with
              port := { s.port with
                        damaged := min (s.port.damaged + 1) 65535, erroredMark := true, reception := none } }) ∧
      (s.time.nextSecond ≤ s.now → t.time.nextSecond = s.time.nextSecond + 1000000 ∧
        (s.port.erroredMark = false → t.port.erroredRun = 0))

/-- R21, R28 to R30: an offered frame with a deadline ahead joins as the newest of its rank; a STATUS or PROPOSE replaces
the one queued, which the attempt that copies it learns (log 15), and takes over its number (log 4); a full queue gives
up its newest entry of lowest rank to a higher one, or drops the frame. -/
def Obligations.OffersFollowTheQueueRules : Prop :=
  ∀ (p : SpanPort) (f : Frame) (now deadline : Nat), p.Ordered →
    let q := p.offer f now deadline
    let joins : List Entry → Nat → Prop := fun others number => ∃ before e after, q.queue = before ++ e :: after ∧
      before ++ after = others ∧ e.id = number ∧ e.frame = f ∧ e.joined = now ∧ e.deadline = deadline ∧
      (∀ x ∈ before, rankOf x.frame ≤ rankOf f) ∧ ∀ x ∈ after, rankOf f < rankOf x.frame
    let same : Option Entry := if f.cls = .status ∨ f.cls = .propose then
      p.queue.find? (fun e => decide (e.frame.cls = f.cls)) else none
    (deadline ≤ now → q = { p with txExpired := min (p.txExpired + 1) 65535 }) ∧
    (now < deadline →
      (∀ old, same = some old →
        joins (p.queue.erase old) old.id ∧ q.txDropped = p.txDropped ∧ q.txExpired = p.txExpired ∧
          q.nextEntry = p.nextEntry ∧
          q.attempt = p.attempt.map fun a =>
            if a.entry = old.id then { a with replaced := true, reached := false } else a) ∧
      (same = none → q.attempt = p.attempt ∧ p.nextEntry ≤ q.nextEntry) ∧
      (same = none → p.queue.length < 8 →
        joins p.queue p.nextEntry ∧ p.nextEntry < q.nextEntry ∧ q.txDropped = p.txDropped ∧
          q.txExpired = p.txExpired) ∧
      (same = none → ∀ low, p.queue.length = 8 → p.queue.getLast? = some low →
        q.txExpired = p.txExpired ∧ q.txDropped = min (p.txDropped + 1) 65535 ∧
        (rankOf f < rankOf low.frame → joins p.queue.dropLast p.nextEntry ∧ p.nextEntry < q.nextEntry) ∧
        (rankOf low.frame ≤ rankOf f → q.queue = p.queue)))

/-- R18, R23, R34 to R36, R41, R42: a port in CONFIG or RUN ignores every frame of an unknown class and every report
frame; a malformed frame that passes the tests is ignored, or refused RANGE in the classes TIME, CONFIG, PLAN_HEAD and
COMMAND; a command without a known code is refused UNKNOWN; in STRAP_FAULT nothing is heard. The third byte of the
refusal of a malformed CONFIG is the model's choice (log 21), the seq of that of a malformed PLAN_HEAD is free (log
7). -/
def Obligations.UnknownAndMalformedFrames : Prop :=
  (∀ (k : UnknownClass) (o : Origin) (p : List Byte) (s : State), s.conf.life ≠ .strapFault → ∃ f,
    exec (.unknownClassFrame k o p) s = .next (s.receiving (some ⟨f, false, false, none⟩))) ∧
  (∀ (k : ReportClass) (o : Origin) (p : List Byte) (s : State), s.conf.life ≠ .strapFault → ∃ f,
    exec (.reportFrameHeard k o p) s = .next (s.receiving (some ⟨f, false, false, none⟩))) ∧
  (∀ (c : Instr) (f : Frame) (s : State), c.frame? = some f → s.conf.life = .strapFault → exec c s = .next s) ∧
  (∀ (c : Instr) (o : Origin) (p : List Byte) (s : State), Passes c s →
    (c = .hold o p ∧ p.length ≠ 4) ∨ (c = .goRoll o p ∧ p.length ≠ 13) ∨ (c = .skipRoll o p ∧ p.length ≠ 13) ∨
      (c = .propose o p ∧ p.length ≠ 13) ∨ (c = .abandon o p ∧ p.length ≠ 9) ∨ (c = .guide o p ∧ p.length ≠ 15) ∨
      (c = .planSeg o p ∧ p.length ≠ 29) →
    exec c s = .next (s.receiving (heardAs c false s))) ∧
  (∀ (o : Origin) (p : List Byte) (s : State), p.length ≠ 4 → Passes (.timeSet o p) s → ∃ t,
    exec (.timeSet o p) s = .next t ∧ Refuses (.timeSet o p) s t .range .commandRefused 0 5 255) ∧
  (∀ (o : Origin) (b : Byte) (p : List Byte) (s : State), p.length ≠ 4 → Passes (.configItem o (b :: p)) s → ∃ t,
    exec (.configItem o (b :: p)) s = .next t ∧
      Refuses (.configItem o (b :: p)) s t .range .commandRefused 0 7 b.toNat) ∧
  (∀ (o : Origin) (s : State), Passes (.configItem o []) s → ∃ t,
    exec (.configItem o []) s = .next t ∧ Refuses (.configItem o []) s t .range .commandRefused 0 7 255) ∧
  (∀ (o : Origin) (p : List Byte) (s : State), p.length ≠ 24 → Passes (.planHead o p) s → ∃ t,
    exec (.planHead o p) s = .next t ∧
      ∃ seq : BitVec 16, Refuses (.planHead o p) s t .range .planRefused seq.toNat 8 255) ∧
  (∀ (c : Instr) (o : Origin) (a : List Byte) (code len : Nat) (s : State), Passes c s → a.length + 1 ≠ len →
    (c, code, len) ∈
      [(.start o a, 1, 1), (.go o a, 2, 7), (.breakIn o a, 3, 7), (.returnTo o a, 4, 7), (.offset o a, 5, 6),
        (.planClear o a, 6, 1), (.restart o a, 7, 1), (.statusReq o a, 8, 2), (.traceSet o a, 9, 7),
        (.traceRead o a, 10, 3)] →
    ∃ t, exec c s = .next t ∧ RefusesCommand c s t .range code) ∧
  ∀ (o : Origin) (code : Option UnknownCode) (a : List Byte) (s : State), Passes (.commandUnknownCode o code a) s →
    ∃ t, exec (.commandUnknownCode o code a) s = .next t ∧
      RefusesCommand (.commandUnknownCode o code a) s t .unknown (code.elim 255 fun x => x.val.toNat)

/-! ### Rounds -/

/-- R25, R26, R107: a taken ROLL of the round in progress completes exactly when its response field shows the slot of
every roster axis address, driven by another station or, for the own address, by the controller that took it: a GO
roll raises the largest complete D and makes the plan SCHEDULED, a SKIP roll sets its mark. -/
def Obligations.ResponseFieldCompletesARoll : Prop :=
  ∀ (s : State) (slots : BitVec 15) (x : Reception), s.port.reception = some x →
    let asserted : Prop := ∀ r, s.items.addr.get r ≠ 15 →
      slots.getLsbD (s.items.addr.get r) = true ∨ s.items.addr.get r = s.conf.straps.address.toNat
    ∃ t, exec (.responseFieldReport slots) s = .next t ∧ t.port = { s.port with reception := none } ∧
      (¬(x.frame.cls = .roll ∧ x.taken = true ∧ x.round ≠ none ∧ x.round = roundNumber s ∧
          asserted) →
        t = { s with port := t.port }) ∧
      (x.frame.cls = .roll → x.taken = true → asserted →
        ∀ (f : CallFields) (r : RoundRecord) (w : RoundRecord → PlanState),
          readCall x.frame.payload = some f → w = .inRound ∨ w = .scheduled → s.round.plan = some (w r) →
          x.round = some r.number →
          t = { s with
                port := t.port
                round :=
                  { s.round with
                    plan := some
                      (if f.verdict = 0 then
                        .scheduled { r with completeGo := some (max f.d (r.completeGo.getD 0)) }
                        else w { r with completeSkip := true }) } })

/-- R36, R37, R105, R106: a ROLL of the round in progress heard before S is asserted: a GO roll while the own verdict is
GO, no SKIP stands against it and its D is at least D_i; a SKIP roll while no GO roll was asserted. Any other ROLL is
ignored. -/
def Obligations.RollsAreAsserted : Prop :=
  ∀ (o : Origin) (f : CallFields) (s : State) (c : Instr), f.epoch < 2 ^ 48 → f.seq < 2 ^ 16 → f.verdict < 2 ^ 8 →
    f.d < 2 ^ 32 → c = .goRoll o (callPayload f) ∨ c = .skipRoll o (callPayload f) → Passes c s →
    ∃ t, exec c s = .next t ∧
      (roundOf s = none → t = s.receiving (heardAs c false s)) ∧
      ∀ (r : RoundRecord) (w : RoundRecord → PlanState), w = .inRound ∨ w = .scheduled → s.round.plan = some (w r) →
        let own : Prop := f.epoch = r.epoch ∧ r.selected = some f.seq ∧ f.seq ≠ 0 ∧ s.now < r.epoch + s.items.tAgree
        let go : Prop := f.verdict = 0 ∧ own ∧ r.verdict = .go ∧ r.skipAsserted = false ∧
          r.unreachableHeard = false ∧ r.ownD ≤ f.d
        let skip : Prop := f.verdict = 1 ∧ own ∧ r.goAsserted = false
        (go → t =
          State.receiving { s with round := { s.round with plan := some (w { r with goAsserted := true }) } }
            (heardAs c true s)) ∧
        (skip → t =
          State.receiving { s with round := { s.round with plan := some (w { r with skipAsserted := true }) } }
            (heardAs c true s)) ∧
        (¬go → ¬skip → t = s.receiving (heardAs c false s))

/-- R35 to R37, R103, R114: a PROPOSE of the round in progress heard in time fills the entries of its sender's roles; an
ABANDON of the current target becomes the pending abandon or replaces a later one; any other is ignored. -/
def Obligations.ProposesAndAbandonsAreTaken : Prop :=
  (∀ (o : Origin) (f : CallFields) (s : State), f.epoch < 2 ^ 48 → f.seq < 2 ^ 16 → f.verdict < 2 ^ 8 →
    f.d < 2 ^ 32 → Passes (.propose o (callPayload f)) s →
    let c := Instr.propose o (callPayload f)
    ∃ t, exec c s = .next t ∧
      (roundOf s = none ∨ 4 ≤ f.verdict → t = s.receiving (heardAs c false s)) ∧
      ∀ (r : RoundRecord) (w : RoundRecord → PlanState) (v : Verdict), w = .inRound ∨ w = .scheduled →
        s.round.plan = some (w r) → f.verdict = verdictCode v →
        let counted : Prop := f.epoch = r.epoch ∧ s.now ≤ r.epoch + s.items.tPropose ∧ r.outcome = none
        (¬counted → t = s.receiving (heardAs c false s)) ∧
        (counted → ∃ r', t =
            State.receiving { s with round := { s.round with plan := some (w r') } } (heardAs c true s) ∧
          r' = { r with heard := r'.heard, unreachableHeard := r'.unreachableHeard } ∧
          (∀ x, s.items.addr.get x ≠ 15 → s.items.addr.get x = o.sender.toNat →
            r'.heard.get x = some ⟨f.seq, v, if v = .go then f.d else 0⟩) ∧
          (∀ x, s.items.addr.get x = 15 ∨ s.items.addr.get x ≠ o.sender.toNat → r'.heard.get x = r.heard.get x) ∧
          (r'.unreachableHeard = true ↔
            r.unreachableHeard = true ∨ (v = .unreachable ∧ r.selected = some f.seq)))) ∧
  ∀ (o : Origin) (f : AbandonFields) (s : State), f.seq < 2 ^ 16 → f.epoch < 2 ^ 48 → f.cause < 2 ^ 8 →
    Passes (.abandon o (abandonPayload f)) s →
    let c := Instr.abandon o (abandonPayload f)
    ∃ t, exec c s = .next t ∧
      let fits : Prop := inAbandonPhase s = true ∧ s.now < f.epoch ∧ f.cause ≤ 1 ∧
        ∃ rec, s.store.current = some rec ∧ rec.seq = f.seq ∧ rec.dwellDone = false
      (¬fits → t = s.receiving (heardAs c false s)) ∧
      (fits → ∃ a : PendingAbandon,
        t = State.receiving { s with round := { s.round with abandon := some a } } (heardAs c true s) ∧
        (s.round.abandon = none ∨ (∃ b, s.round.abandon = some b ∧ f.epoch < b.epoch) →
          a.seq = f.seq ∧ a.epoch = f.epoch ∧ abandonCode a.cause = f.cause) ∧
        ∀ b, s.round.abandon = some b → b.epoch ≤ f.epoch → a = b)

/-! ### Guide and offset -/

/-- R39, R124 to R126: a GUIDE whose role set names the own role is accumulated between its two clamps under the four
conditions, with CLIPPED when the first clamp changes it; an OFFSET of the own role becomes the commanded offset. -/
def Obligations.GuideAndOffsetAreTaken : Prop :=
  (∀ (o : Origin) (g : GuideFields) (s : State), g.seq < 2 ^ 16 →
    (∀ x ∈ [g.dAz, g.dEl, g.dRot], -2 ^ 31 ≤ x ∧ x < 2 ^ 31) → Passes (.guide o (guidePayload g)) s →
    let c := Instr.guide o (guidePayload g)
    let fits : Prop := (∃ rec, s.store.current = some rec ∧ rec.seq = g.seq) ∧
      (∃ ph, s.round.plan = some (.observing ph)) ∧ motionCode s.traj.motion ∈ [1, 2] ∧ s.items.guideEnable = 1
    let own : Int → Prop := fun Δ => (s.ownRole = some .az ∧ g.roles.getLsbD 1 = true ∧ Δ = g.dAz) ∨
      (s.ownRole = some .el ∧ g.roles.getLsbD 2 = true ∧ Δ = g.dEl) ∨
      (s.ownRole = some .rot ∧ g.roles.getLsbD 3 = true ∧ Δ = g.dRot)
    ∃ t, exec c s = .next t ∧
      (¬fits ∨ (∀ Δ, ¬own Δ) → t = s.receiving (heardAs c false s)) ∧
      (fits → ∀ Δ, own Δ →
        let Δ' := max (-(s.items.guideMaxStep : Int)) (min Δ s.items.guideMaxStep)
        let pending := max (-(s.items.guidePendingMax : Int)) (min (s.traj.pendingGuide + Δ') s.items.guidePendingMax)
        t = { s with port := t.port, traj := { s.traj with pendingGuide := pending } } ∧
        t.port.reception = heardAs c true s ∧
        (Δ' = Δ → t.port.queue = s.port.queue) ∧
        (Δ' ≠ Δ → Enabled s .guideClipped → Room s 1 →
          Queued t (eventFrame s .guideClipped g.seq (BitVec.ofInt 32 Δ)) (s.now + 1000000)))) ∧
  ∀ (o : Origin) (b : Byte) (v : Int) (s : State), -2 ^ 31 ≤ v → v < 2 ^ 31 →
    Passes (.offset o (b :: bytesOfInt 4 v)) s →
    let c := Instr.offset o (b :: bytesOfInt 4 v)
    ∃ t, exec c s = .next t ∧
      if b.toNat = 0 ∨ 5 < b.toNat then RefusesCommand c s t .range 5
      else if s.ownRole.map roleCode ≠ some b.toNat then t = s.receiving (heardAs c false s)
      else if s.hold.causes.estop = true ∨ s.conf.life ≠ .run ∨ planCode s.round.plan ≠ 3 then
        RefusesCommand c s t .state 5
      else
        t = State.receiving
          { s with
            traj :=
              { s.traj with
                commandedOffset := max (-(s.items.offsetMax : Int)) (min v s.items.offsetMax) } }
          (heardAs c true s)

/-! ### The night plan -/

/-- R51: a header that passes the checks of R50 is taken, its slot driven; the intake record is opened with the header's
fields, the own role's count of entries reserved, next expected 0, last taken none and start now; no event is sent. A
loaded excursion leaves for an EXCURSION header (R52). -/
def Obligations.HeaderOpensAnIntake : Prop :=
  ∀ (o : Origin) (h : HeadFields) (k : RecordKind) (role : Role) (s : State),
    h.seq < 2 ^ 16 → h.windowOpen < 2 ^ 48 → h.windowClose < 2 ^ 48 → h.dwell < 2 ^ 32 →
    kindOfCode h.kind = some k → s.AdmitsHeader (headerOf h k) → s.ownRole = some role →
    Passes (.planHead o (headPayload h)) s →
    let c := Instr.planHead o (headPayload h)
    let loaded := if k = .excursion then PlanStore.slotSize s.store.excursion else 0
    ∃ t, exec c s = .next t ∧
      t =
        State.receiving
          { s with
            store :=
              { s.store with
                excursion := if k = .excursion then none else s.store.excursion
                free := t.store.free
                intake := some
                  { header := headerOf h k, reserved := h.counts.get role, segments := [], nextExpected := 0
                    lastTaken := none, start := s.now } } }
          (heardAs c true s) ∧
      t.store.free + h.counts.get role = s.store.free + loaded

/-- R53: while an intake is open, a header that passes the first two checks of R50 is a repeat when its seq and all its
fields equal the intake's: taken again, with nothing changed and no event; any other header is refused BUSY, and the
intake stays as it was. -/
def Obligations.HeaderWhileAnIntakeIsOpen : Prop :=
  ∀ (o : Origin) (h : HeadFields) (k : RecordKind) (i : Intake) (s : State),
    h.seq < 2 ^ 16 → h.windowOpen < 2 ^ 48 → h.windowClose < 2 ^ 48 → h.dwell < 2 ^ 32 →
    kindOfCode h.kind = some k → (∀ r, h.counts.get r ≤ 6) →
    s.conf.life = .run → s.hold.causes.estop = false → s.store.intake = some i →
    Passes (.planHead o (headPayload h)) s →
    let c := Instr.planHead o (headPayload h)
    (i.header = headerOf h k → exec c s = .next (s.receiving (heardAs c true s))) ∧
    (i.header ≠ headerOf h k →
      ∃ t, exec c s = .next t ∧ Refuses c s t .busy .planRefused h.seq 8 255 ∧ t.store.intake = some i)

/-- R35, R36, R40, R42, R50: a header is refused by the first check that fails: the codes and counts, the life state,
the ESTOP cause, and with no intake open the selected excursion, order, duplicate, ranges, the queue's room and the
pool's. -/
def Obligations.HeadersAreCheckedInOrder : Prop :=
  ∀ (o : Origin) (h : HeadFields) (s : State), h.seq < 2 ^ 16 → h.kind < 2 ^ 8 → h.windowOpen < 2 ^ 48 →
    h.windowClose < 2 ^ 48 → h.dwell < 2 ^ 32 → (∀ r, h.counts.get r < 2 ^ 8) →
    Passes (.planHead o (headPayload h)) s →
    let c := Instr.planHead o (headPayload h)
    let p := s.store
    ∃ t, exec c s = .next t ∧
      let refused : Reason → Prop := fun r => Refuses c s t r .planRefused h.seq 8 255
      if 1 < h.kind then refused .range
      else if allRoles.any (fun r => decide (6 < h.counts.get r)) then refused .range
      else if s.conf.life ≠ .run then refused .state
      else if s.hold.causes.estop = true then refused .state
      else
        p.intake = none →
        if h.kind = 1 ∧ p.excursion ≠ none ∧ (roundOf s).bind RoundRecord.selected = p.excursion.map Record.seq then
          refused .state
        else if h.kind = 0 ∧ h.seq ≤ p.lastAppended then refused .order
        else if h.seq ∈ p.heldSeqs then refused .duplicate
        else if h.seq = 0 ∨ h.dwell < 1000000 ∨ 3600000000 < h.dwell ∨ h.windowClose < h.windowOpen ∨
            allRoles.any (fun r => decide (s.items.addr.get r ≠ 15) && decide (h.counts.get r = 0)) then
          refused .range
        else if h.kind = 0 ∧ 32 ≤ p.queue.length then refused .full
        else
          ∀ role, s.ownRole = some role →
            p.free + (if h.kind = 1 then PlanStore.slotSize p.excursion else 0) < h.counts.get role → refused .full

/-- R42, R54 to R57, R144: the expected segment is stored; the last one commits its record at the tail of the queue or
in the excursion slot, with PLAN TAKEN, or is refused COVERAGE and ends the intake; a repeat is taken again without
effect; any other segment is ignored. -/
def Obligations.SegmentsBuildTheRecord : Prop :=
  ∀ (o : Origin) (g : SegFields) (s : State), g.seq < 2 ^ 16 → g.index < 2 ^ 8 → g.segment.tStart < 2 ^ 48 →
    g.segment.span < 2 ^ 32 →
    (∀ x ∈ [g.segment.c0, g.segment.c1, g.segment.c2, g.segment.c3], -2 ^ 31 ≤ x ∧ x < 2 ^ 31) →
    Passes (.planSeg o (segPayload g)) s →
    let c := Instr.planSeg o (segPayload g)
    let p := s.store
    ∃ t, exec c s = .next t ∧
      (s.hold.causes.estop = true → t = s.receiving (heardAs c false s)) ∧
      (s.hold.causes.estop = false → ∀ i, p.intake = some i →
        let expected : Prop := g.seq = i.header.seq ∧ g.index = i.nextExpected ∧ 1 ≤ g.segment.span ∧
          g.segment.span ≤ 1073741824
        let repeated : Prop := g.seq = i.header.seq ∧ i.lastTaken = some g.index ∧
          i.segments.getLast? = some g.segment
        (expected → i.nextExpected + 1 < i.reserved →
          t = State.receiving
            { s with
              store :=
                { p with
                  intake := some
                    { i with
                      segments := i.segments ++ [g.segment], nextExpected := i.nextExpected + 1
                      lastTaken := some g.index } } }
            (heardAs c true s)) ∧
        (expected → i.reserved ≤ i.nextExpected + 1 → SegmentsFit i.header (i.segments ++ [g.segment]) →
          ∃ rec : Record, rec.header = i.header ∧ rec.track.segments = i.segments ++ [g.segment] ∧
            rec.dwellDone = false ∧ rec.wrapK = none ∧
            t = { s with
                  port := t.port
                  store :=
                    { p with
                      queue := if i.header.kind = .planned then p.queue ++ [rec] else p.queue
                      lastAppended := if i.header.kind = .planned then g.seq else p.lastAppended
                      excursion := if i.header.kind = .excursion then some rec else p.excursion
                      lastCommitted := g.seq, intake := none } } ∧
            t.port.reception = heardAs c true s ∧
            (Enabled s .planTaken → Room s 1 →
              Queued t (eventFrame s .planTaken g.seq (BitVec.ofNat 32 p.free)) (s.now + 1000000))) ∧
        (expected → i.reserved ≤ i.nextExpected + 1 → ¬SegmentsFit i.header (i.segments ++ [g.segment]) →
          t = { s with
                port := t.port, conf := { s.conf with lastRefusal := 7 }
                store := { p with intake := none, free := p.free + i.reserved } } ∧
          t.port.reception = heardAs c false s ∧
          (Enabled s .planRefused → Room s 1 →
            Queued t (eventFrame s .planRefused g.seq (BitVec.ofNat 32 (7 + 256 * 9 + 65536 * g.index)))
              (s.now + 1000000))) ∧
        (¬expected → repeated → t = s.receiving (heardAs c true s)) ∧
        (¬expected → ¬repeated → t = s.receiving (heardAs c false s))) ∧
      (s.hold.causes.estop = false → p.intake = none → p.Ordered →
        let repeated : Prop := g.seq = p.lastCommitted ∧ ∃ rec : Record, (rec ∈ p.queue ∨ p.excursion = some rec) ∧
          rec.seq = g.seq ∧ rec.track.segments.length = g.index + 1 ∧
          rec.track.segments.getLast? = some g.segment
        (repeated → t = s.receiving (heardAs c true s)) ∧
        (¬repeated → t = s.receiving (heardAs c false s)))

/-- R42, R58, R59, R144: PLAN_CLEAR empties the pending queue, the excursion slot and the intake and leaves the other
slots; an intake expires at its start + INTAKE_TIMEOUT, with its event and its entries back in the pool. -/
def Obligations.PlansAreClearedAndIntakesExpire : Prop :=
  (∀ (o : Origin) (s : State), Passes (.planClear o []) s →
    let c := Instr.planClear o []
    let p := s.store
    ∃ t, exec c s = .next t ∧
      if s.hold.causes.estop = true ∨ s.conf.life ≠ .run ∨ planCode s.round.plan ∉ [0, 3, 4, 5] then
        RefusesCommand c s t .state 6
      else
        t.port.reception = heardAs c true s ∧
        t = { s with
              port := t.port
              store :=
                { queue := [], current := p.current, ret := p.ret, excursion := none, free := t.store.free
                  intake := none, lastAppended := 0, lastCommitted := 0 } } ∧
        t.store.owned + t.store.free = p.owned + p.free ∧
        (Enabled s .planCleared → Room s 1 →
          Queued t
            (eventFrame s .planCleared 0 (BitVec.ofNat 32 (p.queue.length + p.excursion.toList.length)))
            (s.now + 1000000))) ∧
  ∀ (s : State) (i : Intake), s.store.intake = some i → i.start + s.items.intakeTimeout ≤ s.now →
    ∃ t, exec .intakeTimeout s = .next t ∧
      t = { s with
            port := t.port, store := { s.store with intake := none, free := s.store.free + i.reserved } } ∧
      (Enabled s .intakeTimeout → Room s 1 →
        Queued t (eventFrame s .intakeTimeout i.header.seq (BitVec.ofNat 32 i.nextExpected)) (s.now + 1000000))

/-! ### Commands of the control station -/

/-- R41, R42, R97, R143, R144, R146, R150: GO, BREAK and RETURN. An epoch at or before now is refused LATE; otherwise
the command becomes the pending trigger at its epoch rounded up to a tick where the life, plan and motion states and
the plan store allow it, and is refused STATE elsewhere. -/
def Obligations.TriggerCommandsAreTaken : Prop :=
  ∀ (o : Origin) (epoch : Nat) (s : State) (c : Instr) (code : Nat) (k : TriggerKind), epoch < 2 ^ 48 →
    (c, code, k) ∈
      [(.go o (bytesOfNat 6 epoch), 2, .go), (.breakIn o (bytesOfNat 6 epoch), 3, .breakIn),
        (.returnTo o (bytesOfNat 6 epoch), 4, .returnTo)] →
    Passes c s → 0 < s.items.tickPeriod →
    let free : Prop := s.hold.causes.any = false ∧ motionCode s.traj.motion ∈ [4, 5]
    let admits : Prop := s.conf.life = .run ∧ s.hold.causes.estop = false ∧
      match k with
      | .go => planCode s.round.plan ∈ [0, 4] ∨ (s.round.plan = some .held ∧ free)
      | .breakIn => s.store.excursion ≠ none ∧
          (planCode s.round.plan ∈ [3, 4] ∨ (s.round.plan = some .held ∧ free))
      | .returnTo => planCode s.round.plan = 3 ∧ ∃ r, s.store.current = some r ∧ r.header.kind = .excursion
    ∃ t, exec c s = .next t ∧
      (epoch ≤ s.now → RefusesCommand c s t .late code) ∧
      (s.now < epoch → ¬admits → RefusesCommand c s t .state code) ∧
      (s.now < epoch → admits → ∃ e, s.items.tickPeriod ∣ e ∧ epoch ≤ e ∧ e < epoch + s.items.tickPeriod ∧
        t = State.receiving { s with round := { s.round with trigger := some ⟨k, e⟩ } } (heardAs c true s))

/-- R41, R42, R44, R144, R170, R171, R179: STATUS_REQ sends the page it names, TRACE_SET empties the ring and sets the
trace, TRACE_READ sends the entries that lie below the fill; other arguments are refused RANGE. The setpoint of page 0
while none has been sent is the model's free value (log 6). -/
def Obligations.ReportsAnswerTheirRequests : Prop :=
  (∀ (o : Origin) (b : Byte) (s : State), Passes (.statusReq o [b]) s →
    let c := Instr.statusReq o [b]
    ∃ t, exec c s = .next t ∧
      (2 ≤ b.toNat → RefusesCommand c s t .range 8) ∧
      (b.toNat ≤ 1 → t.port.reception = heardAs c true s ∧
        t = { s with port := t.port, freeDraws := t.freeDraws } ∧
        (Room s 1 → ∃ p, Queued t ⟨.status, s.conf.straps.address, 0, p⟩ (s.now + 100000) ∧
          (b.toNat = 0 →
            p.length = 32 ∧ fieldU p 0 1 = lifeCode s.conf.life ∧
            fieldU p 1 1 = 16 * planCode s.round.plan + motionCode s.traj.motion ∧
            fieldU p 2 1 = causeBits s.hold.causes + (if s.hold.peerHold then 32 else 0) ∧
            fieldU p 3 2 = s.currentSeq % 65536 ∧ fieldU p 5 6 = s.now % 281474976710656 ∧
            (∀ x, s.axis.lastSetpoint = some x → -2 ^ 31 ≤ x → x < 2 ^ 31 → fieldS p 11 4 = x) ∧
            (-2 ^ 31 ≤ s.axis.lastEncoder → s.axis.lastEncoder < 2 ^ 31 → fieldS p 15 4 = s.axis.lastEncoder) ∧
            fieldS p 19 3 = max (-8388607) (min s.axis.fe 8388607) ∧
            fieldS p 22 3 = max (-8388607) (min s.traj.lag 8388607) ∧
            fieldS p 25 3 = max (-8388607) (min s.traj.guideApplied 8388607) ∧
            (-2 ^ 31 ≤ s.traj.appliedOffset → s.traj.appliedOffset < 2 ^ 31 →
              fieldS p 28 4 = s.traj.appliedOffset)) ∧
          (b.toNat = 1 →
            p.length = 20 ∧ fieldU p 0 1 = 16 + lifeCode s.conf.life ∧
            fieldU p 1 1 = s.store.queue.length % 256 ∧
            fieldU p 2 2 = (s.store.queue.head?.elim 0 Record.seq) % 65536 ∧
            fieldU p 4 2 = (s.store.queue.getLast?.elim 0 Record.seq) % 65536 ∧
            fieldU p 6 1 = s.store.free % 256 ∧
            fieldU p 7 2 = (s.store.excursion.elim 0 Record.seq) % 65536 ∧
            fieldU p 9 2 = (s.store.ret.elim 0 Record.seq) % 65536 ∧
            fieldU p 11 1 = 16 * timeStateCode s.time.timeState + linkCode s.port.linkState ∧
            fieldU p 12 2 = s.port.damaged % 65536 ∧ fieldU p 14 2 = s.port.txExpired % 65536 ∧
            fieldU p 16 2 = s.port.txDropped % 65536 ∧ fieldU p 18 1 = s.conf.lastRefusal % 256 ∧
            fieldU p 19 1 = phaseCode s.round.plan)))) ∧
  (∀ (o : Origin) (mode sense : Byte) (mask pattern : BitVec 16) (s : State),
    let a := mode :: (bytesOfNat 2 mask.toNat ++ bytesOfNat 2 pattern.toNat ++ [sense])
    Passes (.traceSet o a) s →
    let c := Instr.traceSet o a
    ∃ t, exec c s = .next t ∧
      if 3 < mode.toNat ∨ 1 < sense.toNat then RefusesCommand c s t .range 9
      else if s.hold.causes.estop = true then RefusesCommand c s t .state 9
      else ∃ m e, traceModeOfCode mode.toNat = some m ∧ traceSenseOfCode sense.toNat = some e ∧
        t = State.receiving
          { s with
            axis :=
              { s.axis with
                ring := []
                setting := { mode := m, mask := mask &&& 0x0FFF, pattern := pattern &&& 0x0FFF, sense := e }
                phase := match m with
                  | .off => .idle
                  | .free => .recording
                  | .startOn => .armed
                  | .stopOn => .recording } }
          (heardAs c true s)) ∧
  ∀ (o : Origin) (first count : Byte) (s : State), Passes (.traceRead o [first, count]) s →
    let c := Instr.traceRead o [first, count]
    ∃ t, exec c s = .next t ∧
      (count = 0 ∨ 4 < count.toNat ∨ s.axis.ring.length ≤ first.toNat → RefusesCommand c s t .range 10) ∧
      (1 ≤ count.toNat → count.toNat ≤ 4 → first.toNat < s.axis.ring.length →
        t.port.reception = heardAs c true s ∧ t = { s with port := t.port } ∧
        (Room s 4 → ∀ n e, first.toNat ≤ n → n < first.toNat + count.toNat → s.axis.ring[n]? = some e →
          Queued t ⟨.traceData, s.conf.straps.address, 0, tracePayload n e⟩ (s.now + 100000)))

/-! ### The instants of a round -/

/-- R75, R96 to R102, R112, R115, R147, R151: a round starts at the epoch of the pending trigger, at a dwell end in
OBSERVING and at the epoch of the pending abandon; it selects, judges and proposes as chapter 7 lays down, with the
verdict, the duration and the wrap of the proposal computation, which `SlewsFollowTheirFormulas` states. Targets whose
windows a slew start would pass are skipped first, with the lag of a removed current record kept (log 40). -/
def Obligations.RoundsStartAtTheirEpochs : Prop :=
  (∀ (s : State) (g : Trigger), s.round.trigger = some g → g.epoch ≤ s.now →
    ∃ t r gone, exec .pendingTriggerEpoch s = .next t ∧
      RoundBegun (match g.kind with | .go => .ordinary | .breakIn => .breakRound | .returnTo => .returnRound)
        g.epoch { s with round := { s.round with trigger := none } } t r gone) ∧
  (∀ (s : State) (d : DwellRecord), s.round.dwell = some d → d.dwellEnd ≤ s.now →
    let ended : State :=
      { s with
        round := { s.round with dwell := none }
        store :=
          { s.store with
            current := s.store.current.map fun r => if r.seq = d.seq then { r with dwellDone := true } else r } }
    ∃ t gone, exec .dwellEnd s = .next t ∧ t.round.dwell = none ∧
      ((∀ ph, s.round.plan ≠ some (.observing ph)) → gone = [] ∧ t = { ended with port := t.port }) ∧
      (∀ ph, s.round.plan = some (.observing ph) → ∃ r, RoundBegun .ordinary d.dwellEnd ended t r gone) ∧
      (Enabled s .dwellEnd → Room s (gone.length + 3) →
        Queued t (eventFrame s .dwellEnd d.seq (BitVec.ofNat 32 d.dwellEnd)) (s.now + 1000000))) ∧
  ∀ (s : State) (a : PendingAbandon), s.round.abandon = some a → a.epoch ≤ s.now →
    let ended : State :=
      { s with
        round := { s.round with dwell := none, abandon := none }
        store := { s.store with current := s.store.current.map fun r => { r with dwellDone := true } } }
    ∃ t r gone, exec .abandonEpoch s = .next t ∧ RoundBegun .ordinary a.epoch ended t r gone ∧
      (Enabled s .abandoned → Room s (gone.length + 3) →
        Queued t (eventFrame s .abandoned a.seq (BitVec.ofNat 32 (abandonCode a.cause))) (s.now + 1000000))

/-- R37, R104: at E + T_PROPOSE the own outcome is SKIP when the own or a heard proposal for the target is UNREACHABLE,
GO with the largest D when every roster axis role has proposed GO for it, and otherwise none; SKIP and GO send their
ROLL with the deadline S. -/
def Obligations.OutcomeIsFormed : Prop :=
  ∀ (s : State) (r : RoundRecord) (w : RoundRecord → PlanState), w = .inRound ∨ w = .scheduled →
    s.round.plan = some (w r) → r.outcome = none → r.epoch + s.items.tPropose ≤ s.now →
    let all : Prop := ∃ q, r.selected = some q ∧ ∀ x, s.items.addr.get x ≠ 15 →
      ∃ d, r.heard.get x = some ⟨q, .go, d⟩
    let skip : Prop := r.verdict = .unreachable ∨ r.unreachableHeard = true
    let roll : Nat → Nat → State → Prop := fun verdict d t =>
      s.conf.life ≠ .strapFault → Room s 1 → s.now < r.epoch + s.items.tAgree →
        Queued t ⟨.roll, 15, 0x3E, callPayload ⟨r.epoch, r.selected.getD 0, verdict, d⟩⟩ (r.epoch + s.items.tAgree)
    ∃ t outcome, exec .ownOutcome s = .next t ∧
      t = { s with
            port := t.port, round := { s.round with plan := some (w { r with outcome := some outcome }) } } ∧
      (skip → outcome = .skip ∧ roll 1 0 t) ∧
      (¬skip → all → ∃ d, outcome = .go d ∧ roll 0 d t ∧
        (∀ x h, r.heard.get x = some h → h.d ≤ d) ∧ (d = 0 ∨ ∃ x h, r.heard.get x = some h ∧ h.d = d)) ∧
      (¬skip → ¬all → outcome = .nothing ∧ t.port = s.port)

/-- R62, R84, R108 to R110, R152, R161, R165: the round result at S. A complete SKIP roll, or a window that A passes,
skips the target and starts a re-round; no complete GO roll stalls; otherwise the slew starts with the largest complete
D. A stall reason that no row of R110 gives is the model's free value (log 9); a record without a wrap_k keeps the wrap
offset (log 28); with BRAKE_DELAY 0 a start from the brake fixes its profile at S (log 18), and a start from another mode
keeps the timer (log 22). A motion end at S leaves SLEW by R90 and R111, with TRACKING for D = 0 (log 39); the lag is
kept to the next tick (log 40). -/
def Obligations.RoundResultIsTaken : Prop :=
  ∀ (s : State) (r : RoundRecord) (w : RoundRecord → PlanState), w = .inRound ∨ w = .scheduled →
    s.round.plan = some (w r) → r.epoch + s.items.tAgree ≤ s.now → s.store.Ordered →
    let S := r.epoch + s.items.tAgree
    let k : RoundKind := if r.kind = .returnRound then .returnRound else .ordinary
    let skips : Nat → Nat → Prop := fun q value => ∃ t s' r' gone, exec .roundResult s = .next t ∧ SkippedFrom q s s' ∧
      RoundBegun k S s' t r' gone ∧
      (Enabled s .skipped → Room s (gone.length + 3) →
        Queued t (eventFrame s .skipped q (BitVec.ofNat 32 value)) (s.now + 1000000))
    (r.completeSkip = true → skips (r.selected.getD 0) 1) ∧
    (r.completeSkip = false → r.completeGo = none →
      ∃ t reason, exec .roundResult s = .next t ∧
        t = { s with
              port := t.port, round := { s.round with plan := some .waiting }, freeDraws := t.freeDraws } ∧
        (Enabled s .stall → Room s 1 → Queued t (eventFrame s .stall (r.selected.getD 0) reason) (s.now + 1000000)) ∧
        let notReady : Prop := r.verdict = .notReady ∨ ∃ x h, r.heard.get x = some h ∧ h.verdict = .notReady
        let mismatch : Prop := ∃ x h, r.heard.get x = some h ∧ r.selected ≠ some h.seq
        let missing : Prop := ∃ x, s.items.addr.get x ≠ 15 ∧ r.heard.get x = none
        (r.selected = none → reason = 0) ∧
        (r.selected ≠ none → notReady → reason = 1) ∧
        (r.selected ≠ none → ¬notReady → mismatch → reason = 2) ∧
        (r.selected ≠ none → ¬notReady → ¬mismatch → missing → reason = 3) ∧
        (r.selected ≠ none → ¬notReady → ¬mismatch → ¬missing →
          (r.outcome = some .skip ∨ ∃ d, r.outcome = some (.go d)) → reason = 4)) ∧
    ∀ d q rec, r.completeSkip = false → r.completeGo = some d → r.selected = some q → s.store.find q = some rec →
      (rec.header.windowClose < S + d → skips q 0) ∧
      (S + d ≤ rec.header.windowClose → ∃ t, exec .roundResult s = .next t ∧
        let p := s.store
        (t.time = s.time ∧ t.hold = s.hold ∧ t.conf = s.conf ∧ t.pins = s.pins ∧ t.store.current = some rec) ∧
        (p.current = some rec → t.store = p) ∧
        (p.ret = some rec → t.store = { p with
          current := some rec, ret := none, free := p.free + PlanStore.slotSize p.current }) ∧
        (rec ∈ p.queue → t.store = { p with
          current := some rec, queue := p.queue.erase rec, free := p.free + PlanStore.slotSize p.current }) ∧
        (p.excursion = some rec →
          (∀ x, p.current = some x → x.header.kind = .planned → x.dwellDone = false → p.ret = none →
            t.store = { p with current := some rec, excursion := none, ret := some x }) ∧
          ((∀ x, p.current = some x → x.header.kind = .excursion ∨ x.dwellDone = true ∨ p.ret ≠ none) →
            t.store = { p with
              current := some rec, excursion := none, free := p.free + PlanStore.slotSize p.current })) ∧
        (∃ ended, t.round.dwell = some ⟨q, S + d, max (S + d) rec.header.windowOpen,
            max (S + d) rec.header.windowOpen + rec.header.dwell, ended, false⟩ ∧
          (ended = true ↔ motionCode t.traj.motion ∈ [1, 2]) ∧
          t.round.plan =
            some (.observing
              (if ended = false then .slew
                else if 0 < d then .settle
                else if S + d < max (S + d) rec.header.windowOpen then .dwellWait
                else .dwell))) ∧
        t.round.abandonSent = false ∧ t.round.abandon = s.round.abandon ∧
        t.round.trigger =
          s.round.trigger.filter (fun g => !(decide (g.kind = .returnTo) && decide (rec.header.kind = .planned))) ∧
        t.traj =
          { s.traj with
            motion := t.traj.motion, trackSetpoint := t.traj.trackSetpoint
            wrapOffset := rec.wrapK.getD s.traj.wrapOffset, commandedOffset := 0, appliedOffset := 0
            pendingGuide := 0, guideApplied := 0, saturated := false, arrival := S + d } ∧
        t.axis.settle = some ⟨q, S + d, 0, false, false⟩ ∧ t.OutputsSafe ∧
        (Enabled s .agreed → Room s 2 →
          Queued t (eventFrame s .agreed q (BitVec.ofNat 32 d)) (s.now + 1000000)) ∧
        ∀ x, s.axis.lastSetpoint = some x →
          (5 ≤ motionCode s.traj.motion → 0 < s.items.brakeDelay →
            t.axis.brakeTimer = some (S + s.items.brakeDelay) ∧
            t.traj.motion = .releasing ⟨q, S, S + s.items.brakeDelay, S + d,
              d - s.items.settleAllow - s.items.brakeDelay, x⟩) ∧
          (5 ≤ motionCode s.traj.motion → s.items.brakeDelay = 0 → t.axis.brakeTimer = none) ∧
          (motionCode s.traj.motion ≤ 4 → t.axis.brakeTimer = s.axis.brakeTimer) ∧
          (motionCode s.traj.motion ≤ 4 ∨ s.items.brakeDelay = 0 → ∀ f,
            f = fixProfile s.items rec.track t.traj.wrapOffset ⟨q, S, S, S + d, d - s.items.settleAllow, x⟩ →
            (∀ m late, f = .moving m late → t.traj.motion = .slewing m) ∧
            (∀ g, f = .still g → t.traj.trackSetpoint = g ∧
              t.traj.motion = if S < S + d then .settling else .tracking)))

/-- R85, R86, R88, R90, R111, R161: when the brake timer expires in RELEASING the profile is fixed for the current
record: a motion with its ARRIVAL_LATE, or none when the distance is 0, which ends the phase SLEW. A value of
ARRIVAL_LATE past 32 bits is free (log 36), the mode of a motion end at A or later without distance is log 39. -/
def Obligations.BrakeExpiryFixesTheProfile : Prop :=
  ∀ (s : State) (expiry : Nat), s.axis.brakeTimer = some expiry → expiry ≤ s.now →
    ((∀ r, s.traj.motion ≠ .releasing r) →
      exec .brakeTimerExpiry s = .next { s with axis := { s.axis with brakeTimer := none } }) ∧
    ∀ r rec, s.traj.motion = .releasing r → s.store.current = some rec →
      ∃ t, exec .brakeTimerExpiry s = .next t ∧ t.axis.brakeTimer = none ∧ t.OutputsSafe ∧
        (t.time = s.time ∧ t.store = s.store ∧ t.hold = s.hold ∧ t.conf = s.conf ∧ t.pins = s.pins) ∧
        (∀ p late, fixProfile s.items rec.track s.traj.wrapOffset r = .moving p late →
          t.traj = { s.traj with motion := .slewing p } ∧ t.round = s.round ∧
          (late = none → t.port = s.port) ∧
          ∀ x, late = some x → x < 2 ^ 32 → Enabled s .arrivalLate → Room s 1 →
            Queued t (eventFrame s .arrivalLate r.seq (BitVec.ofNat 32 x)) (s.now + 1000000)) ∧
        (∀ g, fixProfile s.items rec.track s.traj.wrapOffset r = .still g →
          t.port = s.port ∧
          t.traj =
            { s.traj with
              trackSetpoint := g, motion := if r.motionStart < r.arrival then .settling else .tracking } ∧
          (s.round.dwell = none → t.round = s.round) ∧
          ∀ d, s.round.dwell = some d →
            t.round = { s.round with dwell := some { d with motionEnded := true }, plan := t.round.plan } ∧
            (s.round.plan ≠ some (.observing .slew) → t.round.plan = s.round.plan) ∧
            (s.round.plan = some (.observing .slew) →
              t.round.plan =
                some (.observing
                  (if d.started then .dwell
                    else if r.motionStart < d.arrival then .settle
                    else if r.motionStart < d.dwellStart then .dwellWait
                    else .dwell))))

/-- R111: at A the phase SETTLE passes to DWELL_WAIT, or to DWELL when T_d is A; at T_d DWELL_START is composed whatever
the motion does, and OBSERVING passes to DWELL when the motion has ended. -/
def Obligations.DwellInstantsMoveThePhase : Prop :=
  (∀ (s : State) (d : DwellRecord), s.round.dwell = some d → s.round.plan = some (.observing .settle) →
    d.arrival ≤ s.now →
    exec .arrival s =
      .next { s with
              round :=
                { s.round with
                  plan := some (.observing (if d.dwellStart ≤ d.arrival then .dwell else .dwellWait)) } }) ∧
  ∀ (s : State) (d : DwellRecord), s.round.dwell = some d → d.started = false → d.dwellStart ≤ s.now →
    ∃ t, exec .dwellStart s = .next t ∧
      t = { s with
            port := t.port
            round := { s.round with dwell := some { d with started := true }, plan := t.round.plan } } ∧
      (∀ ph, s.round.plan = some (.observing ph) →
        t.round.plan = some (.observing (if d.motionEnded then .dwell else ph))) ∧
      ((∀ ph, s.round.plan ≠ some (.observing ph)) → t.round.plan = s.round.plan) ∧
      (Enabled s .dwellStart → Room s 1 →
        Queued t (eventFrame s .dwellStart d.seq (BitVec.ofNat 32 d.dwellStart)) (s.now + 1000000))

end
end

