-- ==== Sys2Proof/Laws/State.lean ====
section
/-! SUPPORT. One lemma per field per update of `State`: a proof rewrites with them and unfolds no record update. -/

namespace Sys2Proof.Machine

variable (s : State)

@[simp] theorem State.withTime_time (x : TimeBase) : (s.withTime x).time = x := rfl
@[simp] theorem State.withTime_port (x : TimeBase) : (s.withTime x).port = s.port := rfl
@[simp] theorem State.withTime_store (x : TimeBase) : (s.withTime x).store = s.store := rfl
@[simp] theorem State.withTime_round (x : TimeBase) : (s.withTime x).round = s.round := rfl
@[simp] theorem State.withTime_traj (x : TimeBase) : (s.withTime x).traj = s.traj := rfl
@[simp] theorem State.withTime_hold (x : TimeBase) : (s.withTime x).hold = s.hold := rfl
@[simp] theorem State.withTime_axis (x : TimeBase) : (s.withTime x).axis = s.axis := rfl
@[simp] theorem State.withTime_conf (x : TimeBase) : (s.withTime x).conf = s.conf := rfl
@[simp] theorem State.withTime_pins (x : TimeBase) : (s.withTime x).pins = s.pins := rfl
@[simp] theorem State.withTime_freeDraws (x : TimeBase) : (s.withTime x).freeDraws = s.freeDraws := rfl
@[simp] theorem State.withTime_pending (x : TimeBase) : (s.withTime x).pending = s.pending := rfl
@[simp] theorem State.withTime_twice (x y : TimeBase) : (s.withTime x).withTime y = s.withTime y := rfl
@[simp] theorem State.withTime_same : s.withTime s.time = s := rfl

@[simp] theorem State.withPort_time (x : SpanPort) : (s.withPort x).time = s.time := rfl
@[simp] theorem State.withPort_port (x : SpanPort) : (s.withPort x).port = x := rfl
@[simp] theorem State.withPort_store (x : SpanPort) : (s.withPort x).store = s.store := rfl
@[simp] theorem State.withPort_round (x : SpanPort) : (s.withPort x).round = s.round := rfl
@[simp] theorem State.withPort_traj (x : SpanPort) : (s.withPort x).traj = s.traj := rfl
@[simp] theorem State.withPort_hold (x : SpanPort) : (s.withPort x).hold = s.hold := rfl
@[simp] theorem State.withPort_axis (x : SpanPort) : (s.withPort x).axis = s.axis := rfl
@[simp] theorem State.withPort_conf (x : SpanPort) : (s.withPort x).conf = s.conf := rfl
@[simp] theorem State.withPort_pins (x : SpanPort) : (s.withPort x).pins = s.pins := rfl
@[simp] theorem State.withPort_freeDraws (x : SpanPort) : (s.withPort x).freeDraws = s.freeDraws := rfl
@[simp] theorem State.withPort_pending (x : SpanPort) : (s.withPort x).pending = s.pending := rfl
@[simp] theorem State.withPort_twice (x y : SpanPort) : (s.withPort x).withPort y = s.withPort y := rfl
@[simp] theorem State.withPort_same : s.withPort s.port = s := rfl

@[simp] theorem State.withStore_time (x : PlanStore) : (s.withStore x).time = s.time := rfl
@[simp] theorem State.withStore_port (x : PlanStore) : (s.withStore x).port = s.port := rfl
@[simp] theorem State.withStore_store (x : PlanStore) : (s.withStore x).store = x := rfl
@[simp] theorem State.withStore_round (x : PlanStore) : (s.withStore x).round = s.round := rfl
@[simp] theorem State.withStore_traj (x : PlanStore) : (s.withStore x).traj = s.traj := rfl
@[simp] theorem State.withStore_hold (x : PlanStore) : (s.withStore x).hold = s.hold := rfl
@[simp] theorem State.withStore_axis (x : PlanStore) : (s.withStore x).axis = s.axis := rfl
@[simp] theorem State.withStore_conf (x : PlanStore) : (s.withStore x).conf = s.conf := rfl
@[simp] theorem State.withStore_pins (x : PlanStore) : (s.withStore x).pins = s.pins := rfl
@[simp] theorem State.withStore_freeDraws (x : PlanStore) : (s.withStore x).freeDraws = s.freeDraws := rfl
@[simp] theorem State.withStore_pending (x : PlanStore) : (s.withStore x).pending = s.pending := rfl
@[simp] theorem State.withStore_twice (x y : PlanStore) : (s.withStore x).withStore y = s.withStore y := rfl
@[simp] theorem State.withStore_same : s.withStore s.store = s := rfl

@[simp] theorem State.withRound_time (x : RoundEngine) : (s.withRound x).time = s.time := rfl
@[simp] theorem State.withRound_port (x : RoundEngine) : (s.withRound x).port = s.port := rfl
@[simp] theorem State.withRound_store (x : RoundEngine) : (s.withRound x).store = s.store := rfl
@[simp] theorem State.withRound_round (x : RoundEngine) : (s.withRound x).round = x := rfl
@[simp] theorem State.withRound_traj (x : RoundEngine) : (s.withRound x).traj = s.traj := rfl
@[simp] theorem State.withRound_hold (x : RoundEngine) : (s.withRound x).hold = s.hold := rfl
@[simp] theorem State.withRound_axis (x : RoundEngine) : (s.withRound x).axis = s.axis := rfl
@[simp] theorem State.withRound_conf (x : RoundEngine) : (s.withRound x).conf = s.conf := rfl
@[simp] theorem State.withRound_pins (x : RoundEngine) : (s.withRound x).pins = s.pins := rfl
@[simp] theorem State.withRound_freeDraws (x : RoundEngine) : (s.withRound x).freeDraws = s.freeDraws := rfl
@[simp] theorem State.withRound_pending (x : RoundEngine) : (s.withRound x).pending = s.pending := rfl
@[simp] theorem State.withRound_twice (x y : RoundEngine) : (s.withRound x).withRound y = s.withRound y := rfl
@[simp] theorem State.withRound_same : s.withRound s.round = s := rfl

@[simp] theorem State.withTraj_time (x : Trajectory) : (s.withTraj x).time = s.time := rfl
@[simp] theorem State.withTraj_port (x : Trajectory) : (s.withTraj x).port = s.port := rfl
@[simp] theorem State.withTraj_store (x : Trajectory) : (s.withTraj x).store = s.store := rfl
@[simp] theorem State.withTraj_round (x : Trajectory) : (s.withTraj x).round = s.round := rfl
@[simp] theorem State.withTraj_traj (x : Trajectory) : (s.withTraj x).traj = x := rfl
@[simp] theorem State.withTraj_hold (x : Trajectory) : (s.withTraj x).hold = s.hold := rfl
@[simp] theorem State.withTraj_axis (x : Trajectory) : (s.withTraj x).axis = s.axis := rfl
@[simp] theorem State.withTraj_conf (x : Trajectory) : (s.withTraj x).conf = s.conf := rfl
@[simp] theorem State.withTraj_pins (x : Trajectory) : (s.withTraj x).pins = s.pins := rfl
@[simp] theorem State.withTraj_freeDraws (x : Trajectory) : (s.withTraj x).freeDraws = s.freeDraws := rfl
@[simp] theorem State.withTraj_pending (x : Trajectory) : (s.withTraj x).pending = s.pending := rfl
@[simp] theorem State.withTraj_twice (x y : Trajectory) : (s.withTraj x).withTraj y = s.withTraj y := rfl
@[simp] theorem State.withTraj_same : s.withTraj s.traj = s := rfl

@[simp] theorem State.withHold_time (x : HoldLogic) : (s.withHold x).time = s.time := rfl
@[simp] theorem State.withHold_port (x : HoldLogic) : (s.withHold x).port = s.port := rfl
@[simp] theorem State.withHold_store (x : HoldLogic) : (s.withHold x).store = s.store := rfl
@[simp] theorem State.withHold_round (x : HoldLogic) : (s.withHold x).round = s.round := rfl
@[simp] theorem State.withHold_traj (x : HoldLogic) : (s.withHold x).traj = s.traj := rfl
@[simp] theorem State.withHold_hold (x : HoldLogic) : (s.withHold x).hold = x := rfl
@[simp] theorem State.withHold_axis (x : HoldLogic) : (s.withHold x).axis = s.axis := rfl
@[simp] theorem State.withHold_conf (x : HoldLogic) : (s.withHold x).conf = s.conf := rfl
@[simp] theorem State.withHold_pins (x : HoldLogic) : (s.withHold x).pins = s.pins := rfl
@[simp] theorem State.withHold_freeDraws (x : HoldLogic) : (s.withHold x).freeDraws = s.freeDraws := rfl
@[simp] theorem State.withHold_pending (x : HoldLogic) : (s.withHold x).pending = s.pending := rfl
@[simp] theorem State.withHold_twice (x y : HoldLogic) : (s.withHold x).withHold y = s.withHold y := rfl
@[simp] theorem State.withHold_same : s.withHold s.hold = s := rfl

@[simp] theorem State.withAxis_time (x : AxisInterface) : (s.withAxis x).time = s.time := rfl
@[simp] theorem State.withAxis_port (x : AxisInterface) : (s.withAxis x).port = s.port := rfl
@[simp] theorem State.withAxis_store (x : AxisInterface) : (s.withAxis x).store = s.store := rfl
@[simp] theorem State.withAxis_round (x : AxisInterface) : (s.withAxis x).round = s.round := rfl
@[simp] theorem State.withAxis_traj (x : AxisInterface) : (s.withAxis x).traj = s.traj := rfl
@[simp] theorem State.withAxis_hold (x : AxisInterface) : (s.withAxis x).hold = s.hold := rfl
@[simp] theorem State.withAxis_axis (x : AxisInterface) : (s.withAxis x).axis = x := rfl
@[simp] theorem State.withAxis_conf (x : AxisInterface) : (s.withAxis x).conf = s.conf := rfl
@[simp] theorem State.withAxis_pins (x : AxisInterface) : (s.withAxis x).pins = s.pins := rfl
@[simp] theorem State.withAxis_freeDraws (x : AxisInterface) : (s.withAxis x).freeDraws = s.freeDraws := rfl
@[simp] theorem State.withAxis_pending (x : AxisInterface) : (s.withAxis x).pending = s.pending := rfl
@[simp] theorem State.withAxis_twice (x y : AxisInterface) : (s.withAxis x).withAxis y = s.withAxis y := rfl
@[simp] theorem State.withAxis_same : s.withAxis s.axis = s := rfl

@[simp] theorem State.withConf_time (x : ConfigBlock) : (s.withConf x).time = s.time := rfl
@[simp] theorem State.withConf_port (x : ConfigBlock) : (s.withConf x).port = s.port := rfl
@[simp] theorem State.withConf_store (x : ConfigBlock) : (s.withConf x).store = s.store := rfl
@[simp] theorem State.withConf_round (x : ConfigBlock) : (s.withConf x).round = s.round := rfl
@[simp] theorem State.withConf_traj (x : ConfigBlock) : (s.withConf x).traj = s.traj := rfl
@[simp] theorem State.withConf_hold (x : ConfigBlock) : (s.withConf x).hold = s.hold := rfl
@[simp] theorem State.withConf_axis (x : ConfigBlock) : (s.withConf x).axis = s.axis := rfl
@[simp] theorem State.withConf_conf (x : ConfigBlock) : (s.withConf x).conf = x := rfl
@[simp] theorem State.withConf_pins (x : ConfigBlock) : (s.withConf x).pins = s.pins := rfl
@[simp] theorem State.withConf_freeDraws (x : ConfigBlock) : (s.withConf x).freeDraws = s.freeDraws := rfl
@[simp] theorem State.withConf_pending (x : ConfigBlock) : (s.withConf x).pending = s.pending := rfl
@[simp] theorem State.withConf_twice (x y : ConfigBlock) : (s.withConf x).withConf y = s.withConf y := rfl
@[simp] theorem State.withConf_same : s.withConf s.conf = s := rfl

@[simp] theorem State.withPins_time (x : Pins) : (s.withPins x).time = s.time := rfl
@[simp] theorem State.withPins_port (x : Pins) : (s.withPins x).port = s.port := rfl
@[simp] theorem State.withPins_store (x : Pins) : (s.withPins x).store = s.store := rfl
@[simp] theorem State.withPins_round (x : Pins) : (s.withPins x).round = s.round := rfl
@[simp] theorem State.withPins_traj (x : Pins) : (s.withPins x).traj = s.traj := rfl
@[simp] theorem State.withPins_hold (x : Pins) : (s.withPins x).hold = s.hold := rfl
@[simp] theorem State.withPins_axis (x : Pins) : (s.withPins x).axis = s.axis := rfl
@[simp] theorem State.withPins_conf (x : Pins) : (s.withPins x).conf = s.conf := rfl
@[simp] theorem State.withPins_pins (x : Pins) : (s.withPins x).pins = x := rfl
@[simp] theorem State.withPins_freeDraws (x : Pins) : (s.withPins x).freeDraws = s.freeDraws := rfl
@[simp] theorem State.withPins_pending (x : Pins) : (s.withPins x).pending = s.pending := rfl
@[simp] theorem State.withPins_twice (x y : Pins) : (s.withPins x).withPins y = s.withPins y := rfl
@[simp] theorem State.withPins_same : s.withPins s.pins = s := rfl

@[simp] theorem State.withFreeDraws_time (x : Nat) : (s.withFreeDraws x).time = s.time := rfl
@[simp] theorem State.withFreeDraws_port (x : Nat) : (s.withFreeDraws x).port = s.port := rfl
@[simp] theorem State.withFreeDraws_store (x : Nat) : (s.withFreeDraws x).store = s.store := rfl
@[simp] theorem State.withFreeDraws_round (x : Nat) : (s.withFreeDraws x).round = s.round := rfl
@[simp] theorem State.withFreeDraws_traj (x : Nat) : (s.withFreeDraws x).traj = s.traj := rfl
@[simp] theorem State.withFreeDraws_hold (x : Nat) : (s.withFreeDraws x).hold = s.hold := rfl
@[simp] theorem State.withFreeDraws_axis (x : Nat) : (s.withFreeDraws x).axis = s.axis := rfl
@[simp] theorem State.withFreeDraws_conf (x : Nat) : (s.withFreeDraws x).conf = s.conf := rfl
@[simp] theorem State.withFreeDraws_pins (x : Nat) : (s.withFreeDraws x).pins = s.pins := rfl
@[simp] theorem State.withFreeDraws_freeDraws (x : Nat) : (s.withFreeDraws x).freeDraws = x := rfl
@[simp] theorem State.withFreeDraws_pending (x : Nat) : (s.withFreeDraws x).pending = s.pending := rfl
@[simp] theorem State.withFreeDraws_twice (x y : Nat) : (s.withFreeDraws x).withFreeDraws y = s.withFreeDraws y := rfl
@[simp] theorem State.withFreeDraws_same : s.withFreeDraws s.freeDraws = s := rfl

@[simp] theorem State.withPending_time (x : List Instr) : (s.withPending x).time = s.time := rfl
@[simp] theorem State.withPending_port (x : List Instr) : (s.withPending x).port = s.port := rfl
@[simp] theorem State.withPending_store (x : List Instr) : (s.withPending x).store = s.store := rfl
@[simp] theorem State.withPending_round (x : List Instr) : (s.withPending x).round = s.round := rfl
@[simp] theorem State.withPending_traj (x : List Instr) : (s.withPending x).traj = s.traj := rfl
@[simp] theorem State.withPending_hold (x : List Instr) : (s.withPending x).hold = s.hold := rfl
@[simp] theorem State.withPending_axis (x : List Instr) : (s.withPending x).axis = s.axis := rfl
@[simp] theorem State.withPending_conf (x : List Instr) : (s.withPending x).conf = s.conf := rfl
@[simp] theorem State.withPending_pins (x : List Instr) : (s.withPending x).pins = s.pins := rfl
@[simp] theorem State.withPending_freeDraws (x : List Instr) : (s.withPending x).freeDraws = s.freeDraws := rfl
@[simp] theorem State.withPending_pending (x : List Instr) : (s.withPending x).pending = x := rfl
@[simp] theorem State.withPending_twice (x y : List Instr) : (s.withPending x).withPending y = s.withPending y := rfl
@[simp] theorem State.withPending_same : s.withPending s.pending = s := rfl

/-- Two states with the same fields are the same. -/
theorem State.eq_of_fields {s t : State} (h1 : s.time = t.time) (h2 : s.port = t.port) (h3 : s.store = t.store)
    (h4 : s.round = t.round) (h5 : s.traj = t.traj) (h6 : s.hold = t.hold) (h7 : s.axis = t.axis)
    (h8 : s.conf = t.conf) (h9 : s.pins = t.pins) (h10 : s.freeDraws = t.freeDraws) (h11 : s.pending = t.pending) :
    s = t := by
  cases s; cases t; simp_all

end Sys2Proof.Machine
end

