-- ==== Sys2Proof/Laws/Ops.lean ====
section
/-! SUPPORT. What each operation of Machine/Ops.lean leaves alone: one lemma per operation and block. -/

namespace Sys2Proof.Machine

@[simp] theorem drawSetpoint_time (s : State) : s.drawSetpoint.time = s.time := by
  simp only [State.drawSetpoint]; (repeat' split) <;> (first | rfl | simp)
@[simp] theorem drawSetpoint_port (s : State) : s.drawSetpoint.port = s.port := by
  simp only [State.drawSetpoint]; (repeat' split) <;> (first | rfl | simp)
@[simp] theorem drawSetpoint_store (s : State) : s.drawSetpoint.store = s.store := by
  simp only [State.drawSetpoint]; (repeat' split) <;> (first | rfl | simp)
@[simp] theorem drawSetpoint_round (s : State) : s.drawSetpoint.round = s.round := by
  simp only [State.drawSetpoint]; (repeat' split) <;> (first | rfl | simp)
@[simp] theorem drawSetpoint_traj (s : State) : s.drawSetpoint.traj = s.traj := by
  simp only [State.drawSetpoint]; (repeat' split) <;> (first | rfl | simp)
@[simp] theorem drawSetpoint_hold (s : State) : s.drawSetpoint.hold = s.hold := by
  simp only [State.drawSetpoint]; (repeat' split) <;> (first | rfl | simp)
@[simp] theorem drawSetpoint_axis (s : State) : s.drawSetpoint.axis = s.axis := by
  simp only [State.drawSetpoint]; (repeat' split) <;> (first | rfl | simp)
@[simp] theorem drawSetpoint_conf (s : State) : s.drawSetpoint.conf = s.conf := by
  simp only [State.drawSetpoint]; (repeat' split) <;> (first | rfl | simp)
@[simp] theorem drawSetpoint_pins (s : State) : s.drawSetpoint.pins = s.pins := by
  simp only [State.drawSetpoint]; (repeat' split) <;> (first | rfl | simp)
@[simp] theorem drawSetpoint_pending (s : State) : s.drawSetpoint.pending = s.pending := by
  simp only [State.drawSetpoint]; (repeat' split) <;> (first | rfl | simp)

@[simp] theorem offerFrame_time (c : FrameClass) (p : List Byte) (d : Nat) (s : State) : (offerFrame c p d s).time = s.time := by
  simp only [offerFrame]; (repeat' split) <;> (first | rfl | simp)
@[simp] theorem offerFrame_store (c : FrameClass) (p : List Byte) (d : Nat) (s : State) : (offerFrame c p d s).store = s.store := by
  simp only [offerFrame]; (repeat' split) <;> (first | rfl | simp)
@[simp] theorem offerFrame_round (c : FrameClass) (p : List Byte) (d : Nat) (s : State) : (offerFrame c p d s).round = s.round := by
  simp only [offerFrame]; (repeat' split) <;> (first | rfl | simp)
@[simp] theorem offerFrame_traj (c : FrameClass) (p : List Byte) (d : Nat) (s : State) : (offerFrame c p d s).traj = s.traj := by
  simp only [offerFrame]; (repeat' split) <;> (first | rfl | simp)
@[simp] theorem offerFrame_hold (c : FrameClass) (p : List Byte) (d : Nat) (s : State) : (offerFrame c p d s).hold = s.hold := by
  simp only [offerFrame]; (repeat' split) <;> (first | rfl | simp)
@[simp] theorem offerFrame_axis (c : FrameClass) (p : List Byte) (d : Nat) (s : State) : (offerFrame c p d s).axis = s.axis := by
  simp only [offerFrame]; (repeat' split) <;> (first | rfl | simp)
@[simp] theorem offerFrame_conf (c : FrameClass) (p : List Byte) (d : Nat) (s : State) : (offerFrame c p d s).conf = s.conf := by
  simp only [offerFrame]; (repeat' split) <;> (first | rfl | simp)
@[simp] theorem offerFrame_pins (c : FrameClass) (p : List Byte) (d : Nat) (s : State) : (offerFrame c p d s).pins = s.pins := by
  simp only [offerFrame]; (repeat' split) <;> (first | rfl | simp)
@[simp] theorem offerFrame_freeDraws (c : FrameClass) (p : List Byte) (d : Nat) (s : State) : (offerFrame c p d s).freeDraws = s.freeDraws := by
  simp only [offerFrame]; (repeat' split) <;> (first | rfl | simp)
@[simp] theorem offerFrame_pending (c : FrameClass) (p : List Byte) (d : Nat) (s : State) : (offerFrame c p d s).pending = s.pending := by
  simp only [offerFrame]; (repeat' split) <;> (first | rfl | simp)

@[simp] theorem report_time (e : EventKind) (q : Nat) (v : BitVec 32) (s : State) : (report e q v s).time = s.time := by
  simp only [report]; (repeat' split) <;> (first | rfl | simp)
@[simp] theorem report_store (e : EventKind) (q : Nat) (v : BitVec 32) (s : State) : (report e q v s).store = s.store := by
  simp only [report]; (repeat' split) <;> (first | rfl | simp)
@[simp] theorem report_round (e : EventKind) (q : Nat) (v : BitVec 32) (s : State) : (report e q v s).round = s.round := by
  simp only [report]; (repeat' split) <;> (first | rfl | simp)
@[simp] theorem report_traj (e : EventKind) (q : Nat) (v : BitVec 32) (s : State) : (report e q v s).traj = s.traj := by
  simp only [report]; (repeat' split) <;> (first | rfl | simp)
@[simp] theorem report_hold (e : EventKind) (q : Nat) (v : BitVec 32) (s : State) : (report e q v s).hold = s.hold := by
  simp only [report]; (repeat' split) <;> (first | rfl | simp)
@[simp] theorem report_axis (e : EventKind) (q : Nat) (v : BitVec 32) (s : State) : (report e q v s).axis = s.axis := by
  simp only [report]; (repeat' split) <;> (first | rfl | simp)
@[simp] theorem report_conf (e : EventKind) (q : Nat) (v : BitVec 32) (s : State) : (report e q v s).conf = s.conf := by
  simp only [report]; (repeat' split) <;> (first | rfl | simp)
@[simp] theorem report_pins (e : EventKind) (q : Nat) (v : BitVec 32) (s : State) : (report e q v s).pins = s.pins := by
  simp only [report]; (repeat' split) <;> (first | rfl | simp)
@[simp] theorem report_freeDraws (e : EventKind) (q : Nat) (v : BitVec 32) (s : State) : (report e q v s).freeDraws = s.freeDraws := by
  simp only [report]; (repeat' split) <;> (first | rfl | simp)
@[simp] theorem report_pending (e : EventKind) (q : Nat) (v : BitVec 32) (s : State) : (report e q v s).pending = s.pending := by
  simp only [report]; (repeat' split) <;> (first | rfl | simp)

@[simp] theorem refuse_time (r : Reason) (c : FrameClass) (th : Nat) (e : EventKind) (q : Nat) (s : State) : (refuse r c th e q s).time = s.time := by
  simp only [refuse]; (repeat' split) <;> (first | rfl | simp)
@[simp] theorem refuse_store (r : Reason) (c : FrameClass) (th : Nat) (e : EventKind) (q : Nat) (s : State) : (refuse r c th e q s).store = s.store := by
  simp only [refuse]; (repeat' split) <;> (first | rfl | simp)
@[simp] theorem refuse_round (r : Reason) (c : FrameClass) (th : Nat) (e : EventKind) (q : Nat) (s : State) : (refuse r c th e q s).round = s.round := by
  simp only [refuse]; (repeat' split) <;> (first | rfl | simp)
@[simp] theorem refuse_traj (r : Reason) (c : FrameClass) (th : Nat) (e : EventKind) (q : Nat) (s : State) : (refuse r c th e q s).traj = s.traj := by
  simp only [refuse]; (repeat' split) <;> (first | rfl | simp)
@[simp] theorem refuse_hold (r : Reason) (c : FrameClass) (th : Nat) (e : EventKind) (q : Nat) (s : State) : (refuse r c th e q s).hold = s.hold := by
  simp only [refuse]; (repeat' split) <;> (first | rfl | simp)
@[simp] theorem refuse_axis (r : Reason) (c : FrameClass) (th : Nat) (e : EventKind) (q : Nat) (s : State) : (refuse r c th e q s).axis = s.axis := by
  simp only [refuse]; (repeat' split) <;> (first | rfl | simp)
@[simp] theorem refuse_pins (r : Reason) (c : FrameClass) (th : Nat) (e : EventKind) (q : Nat) (s : State) : (refuse r c th e q s).pins = s.pins := by
  simp only [refuse]; (repeat' split) <;> (first | rfl | simp)
@[simp] theorem refuse_freeDraws (r : Reason) (c : FrameClass) (th : Nat) (e : EventKind) (q : Nat) (s : State) : (refuse r c th e q s).freeDraws = s.freeDraws := by
  simp only [refuse]; (repeat' split) <;> (first | rfl | simp)
@[simp] theorem refuse_pending (r : Reason) (c : FrameClass) (th : Nat) (e : EventKind) (q : Nat) (s : State) : (refuse r c th e q s).pending = s.pending := by
  simp only [refuse]; (repeat' split) <;> (first | rfl | simp)

@[simp] theorem refuseCommand_time (r : Reason) (c : FrameClass) (th : Nat) (s : State) : (refuseCommand r c th s).time = s.time := by
  simp only [refuseCommand]; (repeat' split) <;> (first | rfl | simp)
@[simp] theorem refuseCommand_store (r : Reason) (c : FrameClass) (th : Nat) (s : State) : (refuseCommand r c th s).store = s.store := by
  simp only [refuseCommand]; (repeat' split) <;> (first | rfl | simp)
@[simp] theorem refuseCommand_round (r : Reason) (c : FrameClass) (th : Nat) (s : State) : (refuseCommand r c th s).round = s.round := by
  simp only [refuseCommand]; (repeat' split) <;> (first | rfl | simp)
@[simp] theorem refuseCommand_traj (r : Reason) (c : FrameClass) (th : Nat) (s : State) : (refuseCommand r c th s).traj = s.traj := by
  simp only [refuseCommand]; (repeat' split) <;> (first | rfl | simp)
@[simp] theorem refuseCommand_hold (r : Reason) (c : FrameClass) (th : Nat) (s : State) : (refuseCommand r c th s).hold = s.hold := by
  simp only [refuseCommand]; (repeat' split) <;> (first | rfl | simp)
@[simp] theorem refuseCommand_axis (r : Reason) (c : FrameClass) (th : Nat) (s : State) : (refuseCommand r c th s).axis = s.axis := by
  simp only [refuseCommand]; (repeat' split) <;> (first | rfl | simp)
@[simp] theorem refuseCommand_pins (r : Reason) (c : FrameClass) (th : Nat) (s : State) : (refuseCommand r c th s).pins = s.pins := by
  simp only [refuseCommand]; (repeat' split) <;> (first | rfl | simp)
@[simp] theorem refuseCommand_freeDraws (r : Reason) (c : FrameClass) (th : Nat) (s : State) : (refuseCommand r c th s).freeDraws = s.freeDraws := by
  simp only [refuseCommand]; (repeat' split) <;> (first | rfl | simp)
@[simp] theorem refuseCommand_pending (r : Reason) (c : FrameClass) (th : Nat) (s : State) : (refuseCommand r c th s).pending = s.pending := by
  simp only [refuseCommand]; (repeat' split) <;> (first | rfl | simp)

@[simp] theorem settleOutputs_time (s : State) : (settleOutputs s).time = s.time := by
  simp only [settleOutputs]; (repeat' split) <;> (first | rfl | simp)
@[simp] theorem settleOutputs_port (s : State) : (settleOutputs s).port = s.port := by
  simp only [settleOutputs]; (repeat' split) <;> (first | rfl | simp)
@[simp] theorem settleOutputs_store (s : State) : (settleOutputs s).store = s.store := by
  simp only [settleOutputs]; (repeat' split) <;> (first | rfl | simp)
@[simp] theorem settleOutputs_round (s : State) : (settleOutputs s).round = s.round := by
  simp only [settleOutputs]; (repeat' split) <;> (first | rfl | simp)
@[simp] theorem settleOutputs_traj (s : State) : (settleOutputs s).traj = s.traj := by
  simp only [settleOutputs]; (repeat' split) <;> (first | rfl | simp)
@[simp] theorem settleOutputs_hold (s : State) : (settleOutputs s).hold = s.hold := by
  simp only [settleOutputs]; (repeat' split) <;> (first | rfl | simp)
@[simp] theorem settleOutputs_conf (s : State) : (settleOutputs s).conf = s.conf := by
  simp only [settleOutputs]; (repeat' split) <;> (first | rfl | simp)
@[simp] theorem settleOutputs_pins (s : State) : (settleOutputs s).pins = s.pins := by
  simp only [settleOutputs]; (repeat' split) <;> (first | rfl | simp)
@[simp] theorem settleOutputs_freeDraws (s : State) : (settleOutputs s).freeDraws = s.freeDraws := by
  simp only [settleOutputs]; (repeat' split) <;> (first | rfl | simp)
@[simp] theorem settleOutputs_pending (s : State) : (settleOutputs s).pending = s.pending := by
  simp only [settleOutputs]; (repeat' split) <;> (first | rfl | simp)

@[simp] theorem enterMotion_time (m : Motion) (s : State) : (enterMotion m s).time = s.time := by
  simp only [enterMotion]; (repeat' split) <;> (first | rfl | simp)
@[simp] theorem enterMotion_port (m : Motion) (s : State) : (enterMotion m s).port = s.port := by
  simp only [enterMotion]; (repeat' split) <;> (first | rfl | simp)
@[simp] theorem enterMotion_store (m : Motion) (s : State) : (enterMotion m s).store = s.store := by
  simp only [enterMotion]; (repeat' split) <;> (first | rfl | simp)
@[simp] theorem enterMotion_round (m : Motion) (s : State) : (enterMotion m s).round = s.round := by
  simp only [enterMotion]; (repeat' split) <;> (first | rfl | simp)
@[simp] theorem enterMotion_hold (m : Motion) (s : State) : (enterMotion m s).hold = s.hold := by
  simp only [enterMotion]; (repeat' split) <;> (first | rfl | simp)
@[simp] theorem enterMotion_conf (m : Motion) (s : State) : (enterMotion m s).conf = s.conf := by
  simp only [enterMotion]; (repeat' split) <;> (first | rfl | simp)
@[simp] theorem enterMotion_pins (m : Motion) (s : State) : (enterMotion m s).pins = s.pins := by
  simp only [enterMotion]; (repeat' split) <;> (first | rfl | simp)
@[simp] theorem enterMotion_freeDraws (m : Motion) (s : State) : (enterMotion m s).freeDraws = s.freeDraws := by
  simp only [enterMotion]; (repeat' split) <;> (first | rfl | simp)
@[simp] theorem enterMotion_pending (m : Motion) (s : State) : (enterMotion m s).pending = s.pending := by
  simp only [enterMotion]; (repeat' split) <;> (first | rfl | simp)

@[simp] theorem holdPlan_time (s : State) : (holdPlan s).time = s.time := by
  simp only [holdPlan]; (repeat' split) <;> (first | rfl | simp)
@[simp] theorem holdPlan_port (s : State) : (holdPlan s).port = s.port := by
  simp only [holdPlan]; (repeat' split) <;> (first | rfl | simp)
@[simp] theorem holdPlan_store (s : State) : (holdPlan s).store = s.store := by
  simp only [holdPlan]; (repeat' split) <;> (first | rfl | simp)
@[simp] theorem holdPlan_traj (s : State) : (holdPlan s).traj = s.traj := by
  simp only [holdPlan]; (repeat' split) <;> (first | rfl | simp)
@[simp] theorem holdPlan_hold (s : State) : (holdPlan s).hold = s.hold := by
  simp only [holdPlan]; (repeat' split) <;> (first | rfl | simp)
@[simp] theorem holdPlan_axis (s : State) : (holdPlan s).axis = s.axis := by
  simp only [holdPlan]; (repeat' split) <;> (first | rfl | simp)
@[simp] theorem holdPlan_conf (s : State) : (holdPlan s).conf = s.conf := by
  simp only [holdPlan]; (repeat' split) <;> (first | rfl | simp)
@[simp] theorem holdPlan_pins (s : State) : (holdPlan s).pins = s.pins := by
  simp only [holdPlan]; (repeat' split) <;> (first | rfl | simp)
@[simp] theorem holdPlan_freeDraws (s : State) : (holdPlan s).freeDraws = s.freeDraws := by
  simp only [holdPlan]; (repeat' split) <;> (first | rfl | simp)
@[simp] theorem holdPlan_pending (s : State) : (holdPlan s).pending = s.pending := by
  simp only [holdPlan]; (repeat' split) <;> (first | rfl | simp)

@[simp] theorem dropSettle_time (s : State) : (dropSettle s).time = s.time := by
  simp only [dropSettle]; (repeat' split) <;> (first | rfl | simp)
@[simp] theorem dropSettle_port (s : State) : (dropSettle s).port = s.port := by
  simp only [dropSettle]; (repeat' split) <;> (first | rfl | simp)
@[simp] theorem dropSettle_store (s : State) : (dropSettle s).store = s.store := by
  simp only [dropSettle]; (repeat' split) <;> (first | rfl | simp)
@[simp] theorem dropSettle_round (s : State) : (dropSettle s).round = s.round := by
  simp only [dropSettle]; (repeat' split) <;> (first | rfl | simp)
@[simp] theorem dropSettle_traj (s : State) : (dropSettle s).traj = s.traj := by
  simp only [dropSettle]; (repeat' split) <;> (first | rfl | simp)
@[simp] theorem dropSettle_hold (s : State) : (dropSettle s).hold = s.hold := by
  simp only [dropSettle]; (repeat' split) <;> (first | rfl | simp)
@[simp] theorem dropSettle_conf (s : State) : (dropSettle s).conf = s.conf := by
  simp only [dropSettle]; (repeat' split) <;> (first | rfl | simp)
@[simp] theorem dropSettle_pins (s : State) : (dropSettle s).pins = s.pins := by
  simp only [dropSettle]; (repeat' split) <;> (first | rfl | simp)
@[simp] theorem dropSettle_freeDraws (s : State) : (dropSettle s).freeDraws = s.freeDraws := by
  simp only [dropSettle]; (repeat' split) <;> (first | rfl | simp)
@[simp] theorem dropSettle_pending (s : State) : (dropSettle s).pending = s.pending := by
  simp only [dropSettle]; (repeat' split) <;> (first | rfl | simp)

@[simp] theorem stopBrakeTimer_time (s : State) : (stopBrakeTimer s).time = s.time := by
  simp only [stopBrakeTimer]; (repeat' split) <;> (first | rfl | simp)
@[simp] theorem stopBrakeTimer_port (s : State) : (stopBrakeTimer s).port = s.port := by
  simp only [stopBrakeTimer]; (repeat' split) <;> (first | rfl | simp)
@[simp] theorem stopBrakeTimer_store (s : State) : (stopBrakeTimer s).store = s.store := by
  simp only [stopBrakeTimer]; (repeat' split) <;> (first | rfl | simp)
@[simp] theorem stopBrakeTimer_round (s : State) : (stopBrakeTimer s).round = s.round := by
  simp only [stopBrakeTimer]; (repeat' split) <;> (first | rfl | simp)
@[simp] theorem stopBrakeTimer_traj (s : State) : (stopBrakeTimer s).traj = s.traj := by
  simp only [stopBrakeTimer]; (repeat' split) <;> (first | rfl | simp)
@[simp] theorem stopBrakeTimer_hold (s : State) : (stopBrakeTimer s).hold = s.hold := by
  simp only [stopBrakeTimer]; (repeat' split) <;> (first | rfl | simp)
@[simp] theorem stopBrakeTimer_conf (s : State) : (stopBrakeTimer s).conf = s.conf := by
  simp only [stopBrakeTimer]; (repeat' split) <;> (first | rfl | simp)
@[simp] theorem stopBrakeTimer_pins (s : State) : (stopBrakeTimer s).pins = s.pins := by
  simp only [stopBrakeTimer]; (repeat' split) <;> (first | rfl | simp)
@[simp] theorem stopBrakeTimer_freeDraws (s : State) : (stopBrakeTimer s).freeDraws = s.freeDraws := by
  simp only [stopBrakeTimer]; (repeat' split) <;> (first | rfl | simp)
@[simp] theorem stopBrakeTimer_pending (s : State) : (stopBrakeTimer s).pending = s.pending := by
  simp only [stopBrakeTimer]; (repeat' split) <;> (first | rfl | simp)

@[simp] theorem takeHold_time (l : Bool) (s : State) : (takeHold l s).time = s.time := by
  simp only [takeHold]; (repeat' split) <;> (first | rfl | simp)
@[simp] theorem takeHold_port (l : Bool) (s : State) : (takeHold l s).port = s.port := by
  simp only [takeHold]; (repeat' split) <;> (first | rfl | simp)
@[simp] theorem takeHold_store (l : Bool) (s : State) : (takeHold l s).store = s.store := by
  simp only [takeHold]; (repeat' split) <;> (first | rfl | simp)
@[simp] theorem takeHold_hold (l : Bool) (s : State) : (takeHold l s).hold = s.hold := by
  simp only [takeHold]; (repeat' split) <;> (first | rfl | simp)
@[simp] theorem takeHold_conf (l : Bool) (s : State) : (takeHold l s).conf = s.conf := by
  simp only [takeHold]; (repeat' split) <;> (first | rfl | simp)
@[simp] theorem takeHold_pins (l : Bool) (s : State) : (takeHold l s).pins = s.pins := by
  simp only [takeHold]; (repeat' split) <;> (first | rfl | simp)
@[simp] theorem takeHold_freeDraws (l : Bool) (s : State) : (takeHold l s).freeDraws = s.freeDraws := by
  simp only [takeHold]; (repeat' split) <;> (first | rfl | simp)
@[simp] theorem takeHold_pending (l : Bool) (s : State) : (takeHold l s).pending = s.pending := by
  simp only [takeHold]; (repeat' split) <;> (first | rfl | simp)

@[simp] theorem sendHold_time (c : Cause) (s : State) : (sendHold c s).time = s.time := by
  simp only [sendHold]; (repeat' split) <;> (first | rfl | simp)
@[simp] theorem sendHold_store (c : Cause) (s : State) : (sendHold c s).store = s.store := by
  simp only [sendHold]; (repeat' split) <;> (first | rfl | simp)
@[simp] theorem sendHold_round (c : Cause) (s : State) : (sendHold c s).round = s.round := by
  simp only [sendHold]; (repeat' split) <;> (first | rfl | simp)
@[simp] theorem sendHold_traj (c : Cause) (s : State) : (sendHold c s).traj = s.traj := by
  simp only [sendHold]; (repeat' split) <;> (first | rfl | simp)
@[simp] theorem sendHold_hold (c : Cause) (s : State) : (sendHold c s).hold = s.hold := by
  simp only [sendHold]; (repeat' split) <;> (first | rfl | simp)
@[simp] theorem sendHold_axis (c : Cause) (s : State) : (sendHold c s).axis = s.axis := by
  simp only [sendHold]; (repeat' split) <;> (first | rfl | simp)
@[simp] theorem sendHold_conf (c : Cause) (s : State) : (sendHold c s).conf = s.conf := by
  simp only [sendHold]; (repeat' split) <;> (first | rfl | simp)
@[simp] theorem sendHold_pins (c : Cause) (s : State) : (sendHold c s).pins = s.pins := by
  simp only [sendHold]; (repeat' split) <;> (first | rfl | simp)
@[simp] theorem sendHold_freeDraws (c : Cause) (s : State) : (sendHold c s).freeDraws = s.freeDraws := by
  simp only [sendHold]; (repeat' split) <;> (first | rfl | simp)
@[simp] theorem sendHold_pending (c : Cause) (s : State) : (sendHold c s).pending = s.pending := by
  simp only [sendHold]; (repeat' split) <;> (first | rfl | simp)

@[simp] theorem startRepeat_time (s : State) : (startRepeat s).time = s.time := by
  simp only [startRepeat]; (repeat' split) <;> (first | rfl | simp)
@[simp] theorem startRepeat_port (s : State) : (startRepeat s).port = s.port := by
  simp only [startRepeat]; (repeat' split) <;> (first | rfl | simp)
@[simp] theorem startRepeat_store (s : State) : (startRepeat s).store = s.store := by
  simp only [startRepeat]; (repeat' split) <;> (first | rfl | simp)
@[simp] theorem startRepeat_round (s : State) : (startRepeat s).round = s.round := by
  simp only [startRepeat]; (repeat' split) <;> (first | rfl | simp)
@[simp] theorem startRepeat_traj (s : State) : (startRepeat s).traj = s.traj := by
  simp only [startRepeat]; (repeat' split) <;> (first | rfl | simp)
@[simp] theorem startRepeat_axis (s : State) : (startRepeat s).axis = s.axis := by
  simp only [startRepeat]; (repeat' split) <;> (first | rfl | simp)
@[simp] theorem startRepeat_conf (s : State) : (startRepeat s).conf = s.conf := by
  simp only [startRepeat]; (repeat' split) <;> (first | rfl | simp)
@[simp] theorem startRepeat_pins (s : State) : (startRepeat s).pins = s.pins := by
  simp only [startRepeat]; (repeat' split) <;> (first | rfl | simp)
@[simp] theorem startRepeat_freeDraws (s : State) : (startRepeat s).freeDraws = s.freeDraws := by
  simp only [startRepeat]; (repeat' split) <;> (first | rfl | simp)
@[simp] theorem startRepeat_pending (s : State) : (startRepeat s).pending = s.pending := by
  simp only [startRepeat]; (repeat' split) <;> (first | rfl | simp)

@[simp] theorem addCause_time (c : Cause) (s : State) : (addCause c s).time = s.time := by
  simp only [addCause]; (repeat' split) <;> (first | rfl | simp)
@[simp] theorem addCause_port (c : Cause) (s : State) : (addCause c s).port = s.port := by
  simp only [addCause]; (repeat' split) <;> (first | rfl | simp)
@[simp] theorem addCause_store (c : Cause) (s : State) : (addCause c s).store = s.store := by
  simp only [addCause]; (repeat' split) <;> (first | rfl | simp)
@[simp] theorem addCause_round (c : Cause) (s : State) : (addCause c s).round = s.round := by
  simp only [addCause]; (repeat' split) <;> (first | rfl | simp)
@[simp] theorem addCause_traj (c : Cause) (s : State) : (addCause c s).traj = s.traj := by
  simp only [addCause]; (repeat' split) <;> (first | rfl | simp)
@[simp] theorem addCause_axis (c : Cause) (s : State) : (addCause c s).axis = s.axis := by
  simp only [addCause]; (repeat' split) <;> (first | rfl | simp)
@[simp] theorem addCause_conf (c : Cause) (s : State) : (addCause c s).conf = s.conf := by
  simp only [addCause]; (repeat' split) <;> (first | rfl | simp)
@[simp] theorem addCause_pins (c : Cause) (s : State) : (addCause c s).pins = s.pins := by
  simp only [addCause]; (repeat' split) <;> (first | rfl | simp)
@[simp] theorem addCause_freeDraws (c : Cause) (s : State) : (addCause c s).freeDraws = s.freeDraws := by
  simp only [addCause]; (repeat' split) <;> (first | rfl | simp)
@[simp] theorem addCause_pending (c : Cause) (s : State) : (addCause c s).pending = s.pending := by
  simp only [addCause]; (repeat' split) <;> (first | rfl | simp)

@[simp] theorem actOnCause_time (c : Cause) (s : State) : (actOnCause c s).time = s.time := by
  simp only [actOnCause]; (repeat' split) <;> (first | rfl | simp)
@[simp] theorem actOnCause_store (c : Cause) (s : State) : (actOnCause c s).store = s.store := by
  simp only [actOnCause]; (repeat' split) <;> (first | rfl | simp)
@[simp] theorem actOnCause_conf (c : Cause) (s : State) : (actOnCause c s).conf = s.conf := by
  simp only [actOnCause]; (repeat' split) <;> (first | rfl | simp)
@[simp] theorem actOnCause_pins (c : Cause) (s : State) : (actOnCause c s).pins = s.pins := by
  simp only [actOnCause]; (repeat' split) <;> (first | rfl | simp)
@[simp] theorem actOnCause_freeDraws (c : Cause) (s : State) : (actOnCause c s).freeDraws = s.freeDraws := by
  simp only [actOnCause]; (repeat' split) <;> (first | rfl | simp)
@[simp] theorem actOnCause_pending (c : Cause) (s : State) : (actOnCause c s).pending = s.pending := by
  simp only [actOnCause]; (repeat' split) <;> (first | rfl | simp)

@[simp] theorem raiseCause_time (c : Cause) (s : State) : (raiseCause c s).time = s.time := by
  simp only [raiseCause]; (repeat' split) <;> (first | rfl | simp)
@[simp] theorem raiseCause_store (c : Cause) (s : State) : (raiseCause c s).store = s.store := by
  simp only [raiseCause]; (repeat' split) <;> (first | rfl | simp)
@[simp] theorem raiseCause_conf (c : Cause) (s : State) : (raiseCause c s).conf = s.conf := by
  simp only [raiseCause]; (repeat' split) <;> (first | rfl | simp)
@[simp] theorem raiseCause_pins (c : Cause) (s : State) : (raiseCause c s).pins = s.pins := by
  simp only [raiseCause]; (repeat' split) <;> (first | rfl | simp)
@[simp] theorem raiseCause_freeDraws (c : Cause) (s : State) : (raiseCause c s).freeDraws = s.freeDraws := by
  simp only [raiseCause]; (repeat' split) <;> (first | rfl | simp)
@[simp] theorem raiseCause_pending (c : Cause) (s : State) : (raiseCause c s).pending = s.pending := by
  simp only [raiseCause]; (repeat' split) <;> (first | rfl | simp)

@[simp] theorem endCause_time (c : Cause) (s : State) : (endCause c s).time = s.time := by
  simp only [endCause]; (repeat' split) <;> (first | rfl | simp)
@[simp] theorem endCause_port (c : Cause) (s : State) : (endCause c s).port = s.port := by
  simp only [endCause]; (repeat' split) <;> (first | rfl | simp)
@[simp] theorem endCause_store (c : Cause) (s : State) : (endCause c s).store = s.store := by
  simp only [endCause]; (repeat' split) <;> (first | rfl | simp)
@[simp] theorem endCause_round (c : Cause) (s : State) : (endCause c s).round = s.round := by
  simp only [endCause]; (repeat' split) <;> (first | rfl | simp)
@[simp] theorem endCause_traj (c : Cause) (s : State) : (endCause c s).traj = s.traj := by
  simp only [endCause]; (repeat' split) <;> (first | rfl | simp)
@[simp] theorem endCause_conf (c : Cause) (s : State) : (endCause c s).conf = s.conf := by
  simp only [endCause]; (repeat' split) <;> (first | rfl | simp)
@[simp] theorem endCause_pins (c : Cause) (s : State) : (endCause c s).pins = s.pins := by
  simp only [endCause]; (repeat' split) <;> (first | rfl | simp)
@[simp] theorem endCause_freeDraws (c : Cause) (s : State) : (endCause c s).freeDraws = s.freeDraws := by
  simp only [endCause]; (repeat' split) <;> (first | rfl | simp)
@[simp] theorem endCause_pending (c : Cause) (s : State) : (endCause c s).pending = s.pending := by
  simp only [endCause]; (repeat' split) <;> (first | rfl | simp)

@[simp] theorem retakeCause_time (s : State) (c : Cause) : (retakeCause s c).time = s.time := by
  simp only [retakeCause]; (repeat' split) <;> (first | rfl | simp)
@[simp] theorem retakeCause_store (s : State) (c : Cause) : (retakeCause s c).store = s.store := by
  simp only [retakeCause]; (repeat' split) <;> (first | rfl | simp)
@[simp] theorem retakeCause_conf (s : State) (c : Cause) : (retakeCause s c).conf = s.conf := by
  simp only [retakeCause]; (repeat' split) <;> (first | rfl | simp)
@[simp] theorem retakeCause_pins (s : State) (c : Cause) : (retakeCause s c).pins = s.pins := by
  simp only [retakeCause]; (repeat' split) <;> (first | rfl | simp)
@[simp] theorem retakeCause_freeDraws (s : State) (c : Cause) : (retakeCause s c).freeDraws = s.freeDraws := by
  simp only [retakeCause]; (repeat' split) <;> (first | rfl | simp)
@[simp] theorem retakeCause_pending (s : State) (c : Cause) : (retakeCause s c).pending = s.pending := by
  simp only [retakeCause]; (repeat' split) <;> (first | rfl | simp)

@[simp] theorem retakeCauses_time (s : State) : (retakeCauses s).time = s.time := by
  simp only [retakeCauses]; (repeat' split) <;> (first | rfl | simp)
@[simp] theorem retakeCauses_store (s : State) : (retakeCauses s).store = s.store := by
  simp only [retakeCauses]; (repeat' split) <;> (first | rfl | simp)
@[simp] theorem retakeCauses_conf (s : State) : (retakeCauses s).conf = s.conf := by
  simp only [retakeCauses]; (repeat' split) <;> (first | rfl | simp)
@[simp] theorem retakeCauses_pins (s : State) : (retakeCauses s).pins = s.pins := by
  simp only [retakeCauses]; (repeat' split) <;> (first | rfl | simp)
@[simp] theorem retakeCauses_freeDraws (s : State) : (retakeCauses s).freeDraws = s.freeDraws := by
  simp only [retakeCauses]; (repeat' split) <;> (first | rfl | simp)
@[simp] theorem retakeCauses_pending (s : State) : (retakeCauses s).pending = s.pending := by
  simp only [retakeCauses]; (repeat' split) <;> (first | rfl | simp)

@[simp] theorem reportMotionEnd_time (t : Nat) (s : State) : (reportMotionEnd t s).time = s.time := by
  simp only [reportMotionEnd]; (repeat' split) <;> (first | rfl | simp)
@[simp] theorem reportMotionEnd_port (t : Nat) (s : State) : (reportMotionEnd t s).port = s.port := by
  simp only [reportMotionEnd]; (repeat' split) <;> (first | rfl | simp)
@[simp] theorem reportMotionEnd_store (t : Nat) (s : State) : (reportMotionEnd t s).store = s.store := by
  simp only [reportMotionEnd]; (repeat' split) <;> (first | rfl | simp)
@[simp] theorem reportMotionEnd_traj (t : Nat) (s : State) : (reportMotionEnd t s).traj = s.traj := by
  simp only [reportMotionEnd]; (repeat' split) <;> (first | rfl | simp)
@[simp] theorem reportMotionEnd_hold (t : Nat) (s : State) : (reportMotionEnd t s).hold = s.hold := by
  simp only [reportMotionEnd]; (repeat' split) <;> (first | rfl | simp)
@[simp] theorem reportMotionEnd_axis (t : Nat) (s : State) : (reportMotionEnd t s).axis = s.axis := by
  simp only [reportMotionEnd]; (repeat' split) <;> (first | rfl | simp)
@[simp] theorem reportMotionEnd_conf (t : Nat) (s : State) : (reportMotionEnd t s).conf = s.conf := by
  simp only [reportMotionEnd]; (repeat' split) <;> (first | rfl | simp)
@[simp] theorem reportMotionEnd_pins (t : Nat) (s : State) : (reportMotionEnd t s).pins = s.pins := by
  simp only [reportMotionEnd]; (repeat' split) <;> (first | rfl | simp)
@[simp] theorem reportMotionEnd_freeDraws (t : Nat) (s : State) : (reportMotionEnd t s).freeDraws = s.freeDraws := by
  simp only [reportMotionEnd]; (repeat' split) <;> (first | rfl | simp)
@[simp] theorem reportMotionEnd_pending (t : Nat) (s : State) : (reportMotionEnd t s).pending = s.pending := by
  simp only [reportMotionEnd]; (repeat' split) <;> (first | rfl | simp)

@[simp] theorem endMotion_time (g : Int) (a t : Nat) (s : State) : (endMotion g a t s).time = s.time := by
  simp only [endMotion]; (repeat' split) <;> (first | rfl | simp)
@[simp] theorem endMotion_port (g : Int) (a t : Nat) (s : State) : (endMotion g a t s).port = s.port := by
  simp only [endMotion]; (repeat' split) <;> (first | rfl | simp)
@[simp] theorem endMotion_store (g : Int) (a t : Nat) (s : State) : (endMotion g a t s).store = s.store := by
  simp only [endMotion]; (repeat' split) <;> (first | rfl | simp)
@[simp] theorem endMotion_hold (g : Int) (a t : Nat) (s : State) : (endMotion g a t s).hold = s.hold := by
  simp only [endMotion]; (repeat' split) <;> (first | rfl | simp)
@[simp] theorem endMotion_conf (g : Int) (a t : Nat) (s : State) : (endMotion g a t s).conf = s.conf := by
  simp only [endMotion]; (repeat' split) <;> (first | rfl | simp)
@[simp] theorem endMotion_pins (g : Int) (a t : Nat) (s : State) : (endMotion g a t s).pins = s.pins := by
  simp only [endMotion]; (repeat' split) <;> (first | rfl | simp)
@[simp] theorem endMotion_freeDraws (g : Int) (a t : Nat) (s : State) : (endMotion g a t s).freeDraws = s.freeDraws := by
  simp only [endMotion]; (repeat' split) <;> (first | rfl | simp)
@[simp] theorem endMotion_pending (g : Int) (a t : Nat) (s : State) : (endMotion g a t s).pending = s.pending := by
  simp only [endMotion]; (repeat' split) <;> (first | rfl | simp)

@[simp] theorem judgeLink_time (s : State) : (judgeLink s).time = s.time := by
  simp only [judgeLink]; (repeat' split) <;> (first | rfl | simp)
@[simp] theorem judgeLink_store (s : State) : (judgeLink s).store = s.store := by
  simp only [judgeLink]; (repeat' split) <;> (first | rfl | simp)
@[simp] theorem judgeLink_round (s : State) : (judgeLink s).round = s.round := by
  simp only [judgeLink]; (repeat' split) <;> (first | rfl | simp)
@[simp] theorem judgeLink_traj (s : State) : (judgeLink s).traj = s.traj := by
  simp only [judgeLink]; (repeat' split) <;> (first | rfl | simp)
@[simp] theorem judgeLink_hold (s : State) : (judgeLink s).hold = s.hold := by
  simp only [judgeLink]; (repeat' split) <;> (first | rfl | simp)
@[simp] theorem judgeLink_axis (s : State) : (judgeLink s).axis = s.axis := by
  simp only [judgeLink]; (repeat' split) <;> (first | rfl | simp)
@[simp] theorem judgeLink_conf (s : State) : (judgeLink s).conf = s.conf := by
  simp only [judgeLink]; (repeat' split) <;> (first | rfl | simp)
@[simp] theorem judgeLink_pins (s : State) : (judgeLink s).pins = s.pins := by
  simp only [judgeLink]; (repeat' split) <;> (first | rfl | simp)
@[simp] theorem judgeLink_freeDraws (s : State) : (judgeLink s).freeDraws = s.freeDraws := by
  simp only [judgeLink]; (repeat' split) <;> (first | rfl | simp)
@[simp] theorem judgeLink_pending (s : State) : (judgeLink s).pending = s.pending := by
  simp only [judgeLink]; (repeat' split) <;> (first | rfl | simp)

@[simp] theorem gradeLink_time (s : State) : (gradeLink s).time = s.time := by
  simp only [gradeLink]; (repeat' split) <;> (first | rfl | simp)
@[simp] theorem gradeLink_store (s : State) : (gradeLink s).store = s.store := by
  simp only [gradeLink]; (repeat' split) <;> (first | rfl | simp)
@[simp] theorem gradeLink_round (s : State) : (gradeLink s).round = s.round := by
  simp only [gradeLink]; (repeat' split) <;> (first | rfl | simp)
@[simp] theorem gradeLink_traj (s : State) : (gradeLink s).traj = s.traj := by
  simp only [gradeLink]; (repeat' split) <;> (first | rfl | simp)
@[simp] theorem gradeLink_hold (s : State) : (gradeLink s).hold = s.hold := by
  simp only [gradeLink]; (repeat' split) <;> (first | rfl | simp)
@[simp] theorem gradeLink_axis (s : State) : (gradeLink s).axis = s.axis := by
  simp only [gradeLink]; (repeat' split) <;> (first | rfl | simp)
@[simp] theorem gradeLink_conf (s : State) : (gradeLink s).conf = s.conf := by
  simp only [gradeLink]; (repeat' split) <;> (first | rfl | simp)
@[simp] theorem gradeLink_pins (s : State) : (gradeLink s).pins = s.pins := by
  simp only [gradeLink]; (repeat' split) <;> (first | rfl | simp)
@[simp] theorem gradeLink_freeDraws (s : State) : (gradeLink s).freeDraws = s.freeDraws := by
  simp only [gradeLink]; (repeat' split) <;> (first | rfl | simp)
@[simp] theorem gradeLink_pending (s : State) : (gradeLink s).pending = s.pending := by
  simp only [gradeLink]; (repeat' split) <;> (first | rfl | simp)

end Sys2Proof.Machine
end

