-- ==== Sys2Proof/Laws/Queue.lean ====
section
/-! SUPPORT. What an offered frame does to the transmit queue (R28 to R30) when there is room, and how a queued frame
outlives later offers. -/

namespace Sys2Proof.Machine

/-- An insertion splits the queue at the new entry's rank. -/
theorem insertByRank_split (e : Entry) (q : List Entry) :
    ∃ before after, insertByRank e q = before ++ e :: after ∧ before ++ after = q := by
  induction q with
  | nil => exact ⟨[], [], rfl, rfl⟩
  | cons x xs ih =>
    simp only [insertByRank]
    split
    · exact ⟨[], x :: xs, rfl, rfl⟩
    · obtain ⟨b, a, h1, h2⟩ := ih
      exact ⟨x :: b, a, by simp [h1], by simp [h2]⟩

@[simp] theorem insertByRank_length (e : Entry) (q : List Entry) : (insertByRank e q).length = q.length + 1 := by
  induction q with
  | nil => rfl
  | cons x xs ih => simp only [insertByRank]; split <;> simp [ih]

@[simp] theorem mem_insertByRank (a e : Entry) (q : List Entry) : a ∈ insertByRank e q ↔ a = e ∨ a ∈ q := by
  induction q with
  | nil => simp [insertByRank]
  | cons x xs ih => simp only [insertByRank]; split <;> simp [ih]; tauto

/-- What is left in the queue at a mount time, and what the port counts and the attempt holds (R31). -/
theorem SpanPort.mem_expire (p : SpanPort) (now : Nat) (e : Entry) :
    e ∈ (p.expire now).queue ↔ e ∈ p.queue ∧ (now < e.deadline ∨ p.copying e = true) := by
  simp [SpanPort.expire, SpanPort.leavesNow]

/-- The entries that leave are the ones counted (R31). -/
theorem SpanPort.expire_counts (p : SpanPort) (now : Nat) :
    (p.expire now).txExpired = raiseCounter p.txExpired (p.queue.length - (p.expire now).queue.length) := by
  have h := p.queue.length_eq_countP_add_countP (p.leavesNow now)
  rw [SpanPort.expire, ← List.countP_eq_length_filter]
  simp only [Bool.not_eq_true, Bool.decide_eq_false] at h ⊢
  rw [h, Nat.add_sub_cancel]

/-- With no attempt in progress exactly the entries whose deadlines lie ahead stay (R31). -/
theorem SpanPort.expire_idle (p : SpanPort) (now : Nat) (h : p.attempt = none) :
    (p.expire now).queue = p.queue.filter (fun e => decide (now < e.deadline)) ∧ (p.expire now).attempt = none := by
  refine ⟨List.filter_congr fun e _ => ?_, by simp [SpanPort.expire, SpanPort.attemptAt, h]⟩
  simp only [SpanPort.leavesNow, SpanPort.copying, h, Bool.not_false, Bool.and_true]
  by_cases hd : e.deadline ≤ now <;> simp [hd] <;> omega

/-- Once an instant has been taken, taking it again changes nothing: TX_DEADLINE is then due no more (R31). -/
theorem SpanPort.attemptAt_expire (p : SpanPort) (now : Nat) :
    (p.expire now).attemptAt now = (p.expire now).attempt := by
  cases h : p.attempt with
  | none => simp [SpanPort.attemptAt, SpanPort.expire, h]
  | some a =>
    simp only [SpanPort.attemptAt, SpanPort.expire, h, Option.map_some, Option.some.injEq, Attempt.mk.injEq, true_and]
    simp only [Bool.or_eq_left_iff_imp, List.any_eq_true, List.mem_filter, Bool.or_eq_true]
    rintro ⟨e, ⟨hm, _⟩, he⟩
    exact Or.inr ⟨e, hm, he⟩

/-- With room, an offered frame with a deadline ahead stands in the queue (R28, R30). -/
theorem SpanPort.offer_mem (p : SpanPort) (f : Frame) (now deadline : Nat) (h : now < deadline)
    (room : p.queue.length < 8) : ∃ e ∈ (p.offer f now deadline).queue, e.frame = f ∧ e.deadline = deadline := by
  simp only [SpanPort.offer, Nat.not_le.mpr h, if_false, Config.queueCapacity, room, if_true]
  split
  · exact ⟨_, by simp [SpanPort.replace]; exact Or.inl rfl, rfl, rfl⟩
  · exact ⟨_, by simp [SpanPort.join]; exact Or.inl rfl, rfl, rfl⟩

/-- With room, an offer makes the queue at most one entry longer. -/
theorem SpanPort.offer_length (p : SpanPort) (f : Frame) (now deadline : Nat) (room : p.queue.length < 8) :
    (p.offer f now deadline).queue.length ≤ p.queue.length + 1 := by
  simp only [SpanPort.offer, Config.queueCapacity, room, if_true]
  split
  · simp
  · split
    · rename_i old h
      have hm := List.mem_of_find?_eq_some h
      simp [SpanPort.replace, List.length_erase_of_mem hm]
    · simp [SpanPort.join]

/-- With room, an entry of another class stays in the queue at an offer. -/
theorem SpanPort.mem_offer (p : SpanPort) (f : Frame) (now deadline : Nat) (room : p.queue.length < 8) (e : Entry)
    (he : e ∈ p.queue) (hc : e.frame.cls ≠ f.cls) : e ∈ (p.offer f now deadline).queue := by
  simp only [SpanPort.offer, Config.queueCapacity, room, if_true]
  split
  · exact he
  · split
    · rename_i old h
      have ho := List.find?_some h
      simp only [replaces, Bool.and_eq_true, decide_eq_true_eq] at ho
      have hne : e ≠ old := by rintro rfl; exact hc ho.2
      simp only [SpanPort.replace, mem_insertByRank]
      exact Or.inr ((List.mem_erase_of_ne hne).mpr he)
    · simp [SpanPort.join, he]

/-- With room, an entry stays in the queue at an offer of a class that replaces nothing (R30). -/
theorem SpanPort.mem_offer' (p : SpanPort) (f : Frame) (now deadline : Nat) (room : p.queue.length < 8) (e : Entry)
    (he : e ∈ p.queue) (h1 : f.cls ≠ .status) (h2 : f.cls ≠ .propose) : e ∈ (p.offer f now deadline).queue := by
  have hn : p.queue.find? (replaces f) = none := by
    simp [replaces, h1, h2]
  simp only [SpanPort.offer, Config.queueCapacity, room, if_true, hn]
  split
  · exact he
  · simp [SpanPort.join, he]

@[simp] theorem ownFrame_cls (s : State) (k : FrameClass) (p : List Byte) : (ownFrame s k p).cls = k := by
  cases k <;> rfl

@[simp] theorem ownFrame_payload (s : State) (k : FrameClass) (p : List Byte) : (ownFrame s k p).payload = p := by
  cases k <;> rfl

/-- A port in CONFIG or RUN offers the frame to its queue. -/
theorem offerFrame_port (k : FrameClass) (p : List Byte) (d : Nat) (s : State) (h : s.conf.life ≠ .strapFault) :
    (offerFrame k p d s).port = s.port.offer (ownFrame s k p) s.now d := by
  simp [offerFrame, State.inStrapFault, h]

/-- With room, an offered frame with a deadline ahead is queued. -/
theorem offerFrame_queued (k : FrameClass) (p : List Byte) (d : Nat) (s : State) (h : s.conf.life ≠ .strapFault)
    (hd : s.now < d) (room : s.port.queue.length < 8) : Queued (offerFrame k p d s) (ownFrame s k p) d := by
  obtain ⟨e, he, h1, h2⟩ := s.port.offer_mem (ownFrame s k p) s.now d hd room
  exact ⟨e, by rw [offerFrame_port _ _ _ _ h]; exact he, h1, h2⟩

/-- An offer makes the queue at most one entry longer, whatever the life state. -/
theorem offerFrame_length (k : FrameClass) (p : List Byte) (d : Nat) (s : State) (room : s.port.queue.length < 8) :
    (offerFrame k p d s).port.queue.length ≤ s.port.queue.length + 1 := by
  by_cases h : s.conf.life = .strapFault
  · simp [offerFrame, State.inStrapFault, h]
  · rw [offerFrame_port _ _ _ _ h]; exact s.port.offer_length _ _ _ room

/-- A queued frame of another class outlives an offer. -/
theorem Queued.offerFrame_other {k : FrameClass} {p : List Byte} {d : Nat} {s : State} {f : Frame} {fd : Nat}
    (q : Queued s f fd) (room : s.port.queue.length < 8) (hc : f.cls ≠ k) : Queued (Machine.offerFrame k p d s) f fd := by
  obtain ⟨e, he, rfl, h2⟩ := q
  by_cases h : s.conf.life = .strapFault
  · exact ⟨e, by simpa [Machine.offerFrame, State.inStrapFault, h] using he, rfl, h2⟩
  · exact ⟨e, by rw [offerFrame_port _ _ _ _ h]; exact s.port.mem_offer _ _ _ room e he (by simpa using hc), rfl, h2⟩

/-- A queued frame outlives an offer of a class other than STATUS and PROPOSE. -/
theorem Queued.offerFrame {k : FrameClass} {p : List Byte} {d : Nat} {s : State} {f : Frame} {fd : Nat}
    (q : Queued s f fd) (room : s.port.queue.length < 8) (h1 : k ≠ .status) (h2 : k ≠ .propose) :
    Queued (Machine.offerFrame k p d s) f fd := by
  obtain ⟨e, he, hf, h3⟩ := q
  by_cases h : s.conf.life = .strapFault
  · exact ⟨e, by simpa [Machine.offerFrame, State.inStrapFault, h] using he, hf, h3⟩
  · exact ⟨e, by rw [offerFrame_port _ _ _ _ h]; exact s.port.mem_offer' _ _ _ room e he (by simpa) (by simpa), hf, h3⟩

/-- With room, an enabled event is queued with its deadline of one second (R28, R43). -/
theorem report_queued (e : EventKind) (q : Nat) (v : BitVec 32) (s : State) (h : Enabled s e)
    (room : s.port.queue.length < 8) : Queued (report e q v s) (eventFrame s e q v) (s.now + 1000000) := by
  simp only [report, h.2, if_true]
  exact offerFrame_queued _ _ _ s h.1 (by simp) room

/-- An event composed makes the queue at most one entry longer. -/
theorem report_length (e : EventKind) (q : Nat) (v : BitVec 32) (s : State) (room : s.port.queue.length < 8) :
    (report e q v s).port.queue.length ≤ s.port.queue.length + 1 := by
  simp only [report]; split
  · exact offerFrame_length _ _ _ s room
  · omega

/-- A queued frame outlives a composed event. -/
theorem Queued.report {e : EventKind} {n : Nat} {v : BitVec 32} {s : State} {f : Frame} {fd : Nat}
    (q : Queued s f fd) (room : s.port.queue.length < 8) : Queued (Machine.report e n v s) f fd := by
  simp only [Machine.report]; split
  · exact q.offerFrame room (by decide) (by decide)
  · exact q

/-- A masked event leaves the state as it is (R180). -/
theorem report_masked (e : EventKind) (q : Nat) (v : BitVec 32) (s : State)
    (h : s.items.eventMask.testBit e.category = false) : report e q v s = s := by
  simp [report, h]

/-- What is queued depends on the port alone. -/
theorem Queued.of_port {s t : State} {f : Frame} {d : Nat} (q : Queued s f d) (h : t.port.queue = s.port.queue) :
    Queued t f d := by
  obtain ⟨e, he, h1, h2⟩ := q
  exact ⟨e, by rw [h]; exact he, h1, h2⟩

end Sys2Proof.Machine
end

