-- ==== Sys2Proof/Laws/Frames.lean ====
section
/-! SUPPORT. What a frame heard leads to: a port that is silent, a frame that fails the tests, an owner's decision, a
refusal; and the fields of a payload read back. -/

namespace Sys2Proof.Machine

@[simp] theorem State.receiving_time (s : State) (r : Option Reception) : (s.receiving r).time = s.time := rfl
@[simp] theorem State.receiving_store (s : State) (r : Option Reception) : (s.receiving r).store = s.store := rfl
@[simp] theorem State.receiving_round (s : State) (r : Option Reception) : (s.receiving r).round = s.round := rfl
@[simp] theorem State.receiving_traj (s : State) (r : Option Reception) : (s.receiving r).traj = s.traj := rfl
@[simp] theorem State.receiving_hold (s : State) (r : Option Reception) : (s.receiving r).hold = s.hold := rfl
@[simp] theorem State.receiving_axis (s : State) (r : Option Reception) : (s.receiving r).axis = s.axis := rfl
@[simp] theorem State.receiving_conf (s : State) (r : Option Reception) : (s.receiving r).conf = s.conf := rfl
@[simp] theorem State.receiving_pins (s : State) (r : Option Reception) : (s.receiving r).pins = s.pins := rfl
@[simp] theorem State.receiving_freeDraws (s : State) (r : Option Reception) :
    (s.receiving r).freeDraws = s.freeDraws := rfl
@[simp] theorem State.receiving_pending (s : State) (r : Option Reception) : (s.receiving r).pending = s.pending := rfl
@[simp] theorem State.receiving_port (s : State) (r : Option Reception) :
    (s.receiving r).port = { s.port with reception := r } := rfl
@[simp] theorem State.receiving_queue (s : State) (r : Option Reception) :
    (s.receiving r).port.queue = s.port.queue := rfl

/-! ### Frames heard -/

/-- In STRAP_FAULT nothing is heard (R34). -/
theorem hear_silent (k : FrameClass) (o : Origin) (p : List Byte) (owner : State → Judged) (s : State)
    (h : s.conf.life = .strapFault) : hear k o p owner s = s := by
  simp [hear, State.inStrapFault, h]

/-- A frame that fails the tests only ends up in the reception (R23). -/
theorem hear_fails (k : FrameClass) (o : Origin) (p : List Byte) (owner : State → Judged) (s : State)
    (h : s.conf.life ≠ .strapFault) (ht : passesTests s k o = false) :
    hear k o p owner s = s.receiving (some ⟨⟨k, o.sender, o.dest, p⟩, false, false, none⟩) := by
  simp [hear, State.inStrapFault, h, ht, State.receiving]

/-- A frame that passes the tests is decided by its owner (R25). -/
theorem hear_passes (k : FrameClass) (o : Origin) (p : List Byte) (owner : State → Judged) (s : State)
    (h : s.conf.life ≠ .strapFault) (ht : passesTests s k o = true) :
    hear k o p owner s =
      (owner s).state.receiving (some ⟨⟨k, o.sender, o.dest, p⟩, true, (owner s).taken, roundNumber s⟩) := by
  simp [hear, State.inStrapFault, h, ht, State.receiving]

/-- A command that carries a frame is decided by the frame's owner when it passes. -/
theorem hear_of_passes {c : Instr} {k : FrameClass} {o : Origin} {p : List Byte} {s : State} (owner : State → Judged)
    (hp : Passes c s) (hf : c.frame? = some ⟨k, o.sender, o.dest, p⟩) :
    hear k o p owner s = (owner s).state.receiving (heardAs c (owner s).taken s) := by
  obtain ⟨hl, f, hf', ht⟩ := hp
  rw [hf] at hf'; cases hf'
  rw [hear_passes k o p owner s hl ht]
  simp [heardAs, hf]

/-! ### Refusals -/

/-- A refused frame (R42). -/
theorem refuse_refuses (c : Instr) (s : State) (r : Reason) (k : FrameClass) (third : Nat) (e : EventKind) (q : Nat) :
    Refuses c s ((refuse r k third e q s).receiving (heardAs c false s)) r e q (classCode k) third where
  heard := rfl
  recorded := by simp [refuse]
  told := by
    intro he hr
    refine Queued.of_port (s := refuse r k third e q s) ?_ rfl
    have := report_queued e q (refusalValue r k third) (s.withConf { s.conf with lastRefusal := r.code })
      ⟨he.1, he.2⟩ (by simp [Room] at hr ⊢; omega)
    simpa [refuse, refusalValue, valueU, eventFrame, State.now] using this
  masked := by
    intro h
    rw [State.receiving_port, refuse, report_masked _ _ _ _ (by simpa [State.items] using h)]
    rfl
  rest := by apply State.eq_of_fields <;> simp [refuse]

/-! ### Fields of a payload (R35) -/

@[simp] theorem bytesOfNat_length (k v : Nat) : (bytesOfNat k v).length = k := by
  induction k generalizing v with
  | zero => rfl
  | succ k ih => simp [bytesOfNat, ih]

@[simp] theorem bytesOfInt_length (k : Nat) (v : Int) : (bytesOfInt k v).length = k := by simp [bytesOfInt]

/-- An unsigned field read back. -/
theorem natOfBytes_bytesOfNat (k v : Nat) : natOfBytes (bytesOfNat k v) = v % 256 ^ k := by
  induction k generalizing v with
  | zero => simp [bytesOfNat, natOfBytes, Nat.mod_one]
  | succ k ih =>
    simp only [bytesOfNat, natOfBytes, bytesOfNat_length, ih, BitVec.toNat_ofNat]
    have h1 : v % 256 ^ (k + 1) = 256 ^ k * (v / 256 ^ k % 256) + v % 256 ^ k := by
      rw [pow_succ, Nat.mod_mul, Nat.add_comm]
    rw [h1, Nat.mul_comm]

/-- A signed field read back. -/
theorem intOfBytes_bytesOfInt (k : Nat) (v : Int) (h1 : -(256 ^ k : Int) ≤ 2 * v) (h2 : 2 * v < 256 ^ k) :
    intOfBytes (bytesOfInt k v) = v := by
  have hp : (0 : Int) < 256 ^ k := by positivity
  have hn : ((v % 256 ^ k).toNat : Int) = v % 256 ^ k := Int.toNat_of_nonneg (Int.emod_nonneg _ hp.ne')
  have hb : (natOfBytes (bytesOfInt k v) : Int) = v % 256 ^ k := by
    rw [bytesOfInt, natOfBytes_bytesOfNat, Nat.mod_eq_of_lt, hn]
    have := Int.emod_lt_of_pos v hp
    zify; rw [hn]; exact this
  simp only [intOfBytes, bytesOfInt_length]
  by_cases hv : 0 ≤ v
  · have : v % 256 ^ k = v := Int.emod_eq_of_lt hv (by linarith)
    rw [this] at hb
    rw [if_pos (by zify; rw [hb]; exact h2), hb]
  · have : v % 256 ^ k = v + 256 ^ k := by
      rw [← Int.add_emod_right, Int.emod_eq_of_lt (by linarith) (by linarith)]
    rw [this] at hb
    rw [if_neg (by zify; rw [hb]; push Not; linarith), hb]; ring

end Sys2Proof.Machine
end

