-- ==== Sys2Proof/WellFormed.lean ====
section
/-! DEFINITION. The commands that can occur: an intact frame's payload has at most 32 bytes (R16, R22), a ROLL
row carries no ROLL of the other verdict, a COMMAND of length 0 carries nothing after its absent code. -/

namespace Sys2Proof

/-- The payload length a length field admits (R16). -/
def payloadFits (p : List Byte) : Bool := decide (p.length ≤ 32)

/-- The argument length that leaves room for the command code (R16, 3.6). -/
def argsFit (a : List Byte) : Bool := decide (a.length ≤ 31)

/-- The verdict byte of a ROLL payload of the fixed length (3.3), `none` for another length. -/
def rollVerdictByte (p : List Byte) : Option Byte :=
  if p.length = 13 then p[8]? else none

/-- The check of one command; it refuses an ill-formed term. -/
def Instr.wellFormed : Instr → Bool
  | .attemptEnd (.heard f) => payloadFits f.payload
  | .unknownClassFrame _ _ p => payloadFits p
  | .reportFrameHeard _ _ p => payloadFits p
  | .hold _ p => payloadFits p
  | .goRoll _ p => payloadFits p && decide (rollVerdictByte p ≠ some 1)
  | .skipRoll _ p => payloadFits p && decide (rollVerdictByte p ≠ some 0)
  | .propose _ p => payloadFits p
  | .abandon _ p => payloadFits p
  | .guide _ p => payloadFits p
  | .timeSet _ p => payloadFits p
  | .configItem _ p => payloadFits p
  | .planHead _ p => payloadFits p
  | .planSeg _ p => payloadFits p
  | .commandUnknownCode _ none a => decide (a = [])
  | .commandUnknownCode _ (some _) a => argsFit a
  | .start _ a => argsFit a
  | .go _ a => argsFit a
  | .breakIn _ a => argsFit a
  | .returnTo _ a => argsFit a
  | .offset _ a => argsFit a
  | .planClear _ a => argsFit a
  | .restart _ a => argsFit a
  | .statusReq _ a => argsFit a
  | .traceSet _ a => argsFit a
  | .traceRead _ a => argsFit a
  | .hardReset _ _ => true
  | .ppsEdge => true
  | .unitCorrection => true
  | .correctionSecondEnd => true
  | .expectedSecondJudgement => true
  | .regainRunMiss => true
  | .linkSecondClose => true
  | .servoTick _ => true
  | .driveFaultAsserted => true
  | .driveFaultDeasserted => true
  | .emergencyStopAsserted => true
  | .emergencyStopDeasserted => true
  | .holdRepeat => true
  | .attemptStart => true
  | .attemptEnd .damaged => true
  | .txDeadline => true
  | .damagedFrame _ => true
  | .responseFieldReport _ => true
  | .intakeTimeout => true
  | .pendingTriggerEpoch => true
  | .ownOutcome => true
  | .roundResult => true
  | .brakeTimerExpiry => true
  | .arrival => true
  | .dwellStart => true
  | .dwellEnd => true
  | .abandonEpoch => true

end Sys2Proof
end

