-- ==== Sys2Proof/Laws/PerInstr.lean ====
section
/-! SUPPORT. The laws stated for every command, one lemma per constructor of `Instr`. -/

namespace Sys2Proof.Laws

/-- The frame that a well-formed command stands for fits the payload length of R16. -/
def FrameSize.Statement (i : Instr) : Prop :=
  i.wellFormed = true → ∀ f, i.frame? = some f → f.payload.length ≤ 32

theorem FrameSize.hardReset (address : BitVec 4) (role : BitVec 3) : FrameSize.Statement (.hardReset address role) := by
  intro _ f e
  cases e

theorem FrameSize.ppsEdge : FrameSize.Statement .ppsEdge := by
  intro _ f e
  cases e

theorem FrameSize.unitCorrection : FrameSize.Statement .unitCorrection := by
  intro _ f e
  cases e

theorem FrameSize.correctionSecondEnd : FrameSize.Statement .correctionSecondEnd := by
  intro _ f e
  cases e

theorem FrameSize.expectedSecondJudgement : FrameSize.Statement .expectedSecondJudgement := by
  intro _ f e
  cases e

theorem FrameSize.regainRunMiss : FrameSize.Statement .regainRunMiss := by
  intro _ f e
  cases e

theorem FrameSize.linkSecondClose : FrameSize.Statement .linkSecondClose := by
  intro _ f e
  cases e

theorem FrameSize.servoTick (reply : EncoderReply) : FrameSize.Statement (.servoTick reply) := by
  intro _ f e
  cases e

theorem FrameSize.driveFaultAsserted : FrameSize.Statement .driveFaultAsserted := by
  intro _ f e
  cases e

theorem FrameSize.driveFaultDeasserted : FrameSize.Statement .driveFaultDeasserted := by
  intro _ f e
  cases e

theorem FrameSize.emergencyStopAsserted : FrameSize.Statement .emergencyStopAsserted := by
  intro _ f e
  cases e

theorem FrameSize.emergencyStopDeasserted : FrameSize.Statement .emergencyStopDeasserted := by
  intro _ f e
  cases e

theorem FrameSize.holdRepeat : FrameSize.Statement .holdRepeat := by
  intro _ f e
  cases e

theorem FrameSize.attemptStart : FrameSize.Statement .attemptStart := by
  intro _ f e
  cases e

theorem FrameSize.attemptEnd (result : MediumResult) : FrameSize.Statement (.attemptEnd result) := by
  intro _ f e
  cases e

theorem FrameSize.txDeadline : FrameSize.Statement .txDeadline := by
  intro _ f e
  cases e

theorem FrameSize.damagedFrame (afterCheckWord : Bool) : FrameSize.Statement (.damagedFrame afterCheckWord) := by
  intro _ f e
  cases e

theorem FrameSize.unknownClassFrame (c : UnknownClass) (o : Origin) (payload : List Byte) :
    FrameSize.Statement (.unknownClassFrame c o payload) := by
  intro h f e
  cases c <;> (cases e; simpa [Instr.wellFormed, payloadFits] using h)

theorem FrameSize.reportFrameHeard (c : ReportClass) (o : Origin) (payload : List Byte) :
    FrameSize.Statement (.reportFrameHeard c o payload) := by
  intro h f e
  cases c <;> (cases e; simpa [Instr.wellFormed, payloadFits] using h)

theorem FrameSize.responseFieldReport (slots : BitVec 15) : FrameSize.Statement (.responseFieldReport slots) := by
  intro _ f e
  cases e

theorem FrameSize.hold (o : Origin) (payload : List Byte) : FrameSize.Statement (.hold o payload) := by
  intro h f e
  cases e
  simpa [Instr.wellFormed, payloadFits] using h

theorem FrameSize.goRoll (o : Origin) (payload : List Byte) : FrameSize.Statement (.goRoll o payload) := by
  intro h f e
  simp only [Instr.wellFormed, payloadFits, Bool.and_eq_true, decide_eq_true_eq] at h
  cases e
  exact h.1

theorem FrameSize.skipRoll (o : Origin) (payload : List Byte) : FrameSize.Statement (.skipRoll o payload) := by
  intro h f e
  simp only [Instr.wellFormed, payloadFits, Bool.and_eq_true, decide_eq_true_eq] at h
  cases e
  exact h.1

theorem FrameSize.propose (o : Origin) (payload : List Byte) : FrameSize.Statement (.propose o payload) := by
  intro h f e
  cases e
  simpa [Instr.wellFormed, payloadFits] using h

theorem FrameSize.abandon (o : Origin) (payload : List Byte) : FrameSize.Statement (.abandon o payload) := by
  intro h f e
  cases e
  simpa [Instr.wellFormed, payloadFits] using h

theorem FrameSize.guide (o : Origin) (payload : List Byte) : FrameSize.Statement (.guide o payload) := by
  intro h f e
  cases e
  simpa [Instr.wellFormed, payloadFits] using h

theorem FrameSize.timeSet (o : Origin) (payload : List Byte) : FrameSize.Statement (.timeSet o payload) := by
  intro h f e
  cases e
  simpa [Instr.wellFormed, payloadFits] using h

theorem FrameSize.configItem (o : Origin) (payload : List Byte) : FrameSize.Statement (.configItem o payload) := by
  intro h f e
  cases e
  simpa [Instr.wellFormed, payloadFits] using h

theorem FrameSize.planHead (o : Origin) (payload : List Byte) : FrameSize.Statement (.planHead o payload) := by
  intro h f e
  cases e
  simpa [Instr.wellFormed, payloadFits] using h

theorem FrameSize.planSeg (o : Origin) (payload : List Byte) : FrameSize.Statement (.planSeg o payload) := by
  intro h f e
  cases e
  simpa [Instr.wellFormed, payloadFits] using h

theorem FrameSize.intakeTimeout : FrameSize.Statement .intakeTimeout := by
  intro _ f e
  cases e

theorem FrameSize.commandUnknownCode (o : Origin) (code : Option UnknownCode) (args : List Byte) :
    FrameSize.Statement (.commandUnknownCode o code args) := by
  intro h f e
  cases code with
  | none => cases e; simp
  | some c => cases e; simpa [Instr.wellFormed, argsFit, Nat.lt_succ_iff] using h

theorem FrameSize.start (o : Origin) (args : List Byte) : FrameSize.Statement (.start o args) := by
  intro h f e
  cases e
  simpa [Instr.wellFormed, argsFit, Nat.lt_succ_iff] using h

theorem FrameSize.go (o : Origin) (args : List Byte) : FrameSize.Statement (.go o args) := by
  intro h f e
  cases e
  simpa [Instr.wellFormed, argsFit, Nat.lt_succ_iff] using h

theorem FrameSize.breakIn (o : Origin) (args : List Byte) : FrameSize.Statement (.breakIn o args) := by
  intro h f e
  cases e
  simpa [Instr.wellFormed, argsFit, Nat.lt_succ_iff] using h

theorem FrameSize.returnTo (o : Origin) (args : List Byte) : FrameSize.Statement (.returnTo o args) := by
  intro h f e
  cases e
  simpa [Instr.wellFormed, argsFit, Nat.lt_succ_iff] using h

theorem FrameSize.offset (o : Origin) (args : List Byte) : FrameSize.Statement (.offset o args) := by
  intro h f e
  cases e
  simpa [Instr.wellFormed, argsFit, Nat.lt_succ_iff] using h

theorem FrameSize.planClear (o : Origin) (args : List Byte) : FrameSize.Statement (.planClear o args) := by
  intro h f e
  cases e
  simpa [Instr.wellFormed, argsFit, Nat.lt_succ_iff] using h

theorem FrameSize.restart (o : Origin) (args : List Byte) : FrameSize.Statement (.restart o args) := by
  intro h f e
  cases e
  simpa [Instr.wellFormed, argsFit, Nat.lt_succ_iff] using h

theorem FrameSize.statusReq (o : Origin) (args : List Byte) : FrameSize.Statement (.statusReq o args) := by
  intro h f e
  cases e
  simpa [Instr.wellFormed, argsFit, Nat.lt_succ_iff] using h

theorem FrameSize.traceSet (o : Origin) (args : List Byte) : FrameSize.Statement (.traceSet o args) := by
  intro h f e
  cases e
  simpa [Instr.wellFormed, argsFit, Nat.lt_succ_iff] using h

theorem FrameSize.traceRead (o : Origin) (args : List Byte) : FrameSize.Statement (.traceRead o args) := by
  intro h f e
  cases e
  simpa [Instr.wellFormed, argsFit, Nat.lt_succ_iff] using h

theorem FrameSize.pendingTriggerEpoch : FrameSize.Statement .pendingTriggerEpoch := by
  intro _ f e
  cases e

theorem FrameSize.ownOutcome : FrameSize.Statement .ownOutcome := by
  intro _ f e
  cases e

theorem FrameSize.roundResult : FrameSize.Statement .roundResult := by
  intro _ f e
  cases e

theorem FrameSize.brakeTimerExpiry : FrameSize.Statement .brakeTimerExpiry := by
  intro _ f e
  cases e

theorem FrameSize.arrival : FrameSize.Statement .arrival := by
  intro _ f e
  cases e

theorem FrameSize.dwellStart : FrameSize.Statement .dwellStart := by
  intro _ f e
  cases e

theorem FrameSize.dwellEnd : FrameSize.Statement .dwellEnd := by
  intro _ f e
  cases e

theorem FrameSize.abandonEpoch : FrameSize.Statement .abandonEpoch := by
  intro _ f e
  cases e

end Sys2Proof.Laws
end

