-- ==== Sys2Proof/Laws/RoundOps.lean ====
section
/-! SUPPORT. What each operation of Machine/RoundOps.lean and the time base's leave alone: one lemma per operation and
block. -/

namespace Sys2Proof.Machine

@[simp] theorem standOnRemoval_time (s : State) : (standOnRemoval s).time = s.time := by
  simp only [standOnRemoval]; (repeat' split) <;> (first | rfl | simp)
@[simp] theorem standOnRemoval_port (s : State) : (standOnRemoval s).port = s.port := by
  simp only [standOnRemoval]; (repeat' split) <;> (first | rfl | simp)
@[simp] theorem standOnRemoval_store (s : State) : (standOnRemoval s).store = s.store := by
  simp only [standOnRemoval]; (repeat' split) <;> (first | rfl | simp)
@[simp] theorem standOnRemoval_round (s : State) : (standOnRemoval s).round = s.round := by
  simp only [standOnRemoval]; (repeat' split) <;> (first | rfl | simp)
@[simp] theorem standOnRemoval_hold (s : State) : (standOnRemoval s).hold = s.hold := by
  simp only [standOnRemoval]; (repeat' split) <;> (first | rfl | simp)
@[simp] theorem standOnRemoval_conf (s : State) : (standOnRemoval s).conf = s.conf := by
  simp only [standOnRemoval]; (repeat' split) <;> (first | rfl | simp)
@[simp] theorem standOnRemoval_pins (s : State) : (standOnRemoval s).pins = s.pins := by
  simp only [standOnRemoval]; (repeat' split) <;> (first | rfl | simp)
@[simp] theorem standOnRemoval_pending (s : State) : (standOnRemoval s).pending = s.pending := by
  simp only [standOnRemoval]; (repeat' split) <;> (first | rfl | simp)

@[simp] theorem dropDwellOf_time (q : Nat) (s : State) : (dropDwellOf q s).time = s.time := by
  simp only [dropDwellOf]; (repeat' split) <;> (first | rfl | simp)
@[simp] theorem dropDwellOf_port (q : Nat) (s : State) : (dropDwellOf q s).port = s.port := by
  simp only [dropDwellOf]; (repeat' split) <;> (first | rfl | simp)
@[simp] theorem dropDwellOf_store (q : Nat) (s : State) : (dropDwellOf q s).store = s.store := by
  simp only [dropDwellOf]; (repeat' split) <;> (first | rfl | simp)
@[simp] theorem dropDwellOf_traj (q : Nat) (s : State) : (dropDwellOf q s).traj = s.traj := by
  simp only [dropDwellOf]; (repeat' split) <;> (first | rfl | simp)
@[simp] theorem dropDwellOf_hold (q : Nat) (s : State) : (dropDwellOf q s).hold = s.hold := by
  simp only [dropDwellOf]; (repeat' split) <;> (first | rfl | simp)
@[simp] theorem dropDwellOf_axis (q : Nat) (s : State) : (dropDwellOf q s).axis = s.axis := by
  simp only [dropDwellOf]; (repeat' split) <;> (first | rfl | simp)
@[simp] theorem dropDwellOf_conf (q : Nat) (s : State) : (dropDwellOf q s).conf = s.conf := by
  simp only [dropDwellOf]; (repeat' split) <;> (first | rfl | simp)
@[simp] theorem dropDwellOf_pins (q : Nat) (s : State) : (dropDwellOf q s).pins = s.pins := by
  simp only [dropDwellOf]; (repeat' split) <;> (first | rfl | simp)
@[simp] theorem dropDwellOf_freeDraws (q : Nat) (s : State) : (dropDwellOf q s).freeDraws = s.freeDraws := by
  simp only [dropDwellOf]; (repeat' split) <;> (first | rfl | simp)
@[simp] theorem dropDwellOf_pending (q : Nat) (s : State) : (dropDwellOf q s).pending = s.pending := by
  simp only [dropDwellOf]; (repeat' split) <;> (first | rfl | simp)

@[simp] theorem skipRecord_time (q v : Nat) (s : State) : (skipRecord q v s).time = s.time := by
  simp only [skipRecord]; (repeat' split) <;> (first | rfl | simp)
@[simp] theorem skipRecord_hold (q v : Nat) (s : State) : (skipRecord q v s).hold = s.hold := by
  simp only [skipRecord]; (repeat' split) <;> (first | rfl | simp)
@[simp] theorem skipRecord_conf (q v : Nat) (s : State) : (skipRecord q v s).conf = s.conf := by
  simp only [skipRecord]; (repeat' split) <;> (first | rfl | simp)
@[simp] theorem skipRecord_pins (q v : Nat) (s : State) : (skipRecord q v s).pins = s.pins := by
  simp only [skipRecord]; (repeat' split) <;> (first | rfl | simp)
@[simp] theorem skipRecord_pending (q v : Nat) (s : State) : (skipRecord q v s).pending = s.pending := by
  simp only [skipRecord]; (repeat' split) <;> (first | rfl | simp)

@[simp] theorem writeWrap_time (q : Nat) (k : Option Int) (s : State) : (writeWrap q k s).time = s.time := by
  simp only [writeWrap]; (repeat' split) <;> (first | rfl | simp)
@[simp] theorem writeWrap_port (q : Nat) (k : Option Int) (s : State) : (writeWrap q k s).port = s.port := by
  simp only [writeWrap]; (repeat' split) <;> (first | rfl | simp)
@[simp] theorem writeWrap_round (q : Nat) (k : Option Int) (s : State) : (writeWrap q k s).round = s.round := by
  simp only [writeWrap]; (repeat' split) <;> (first | rfl | simp)
@[simp] theorem writeWrap_traj (q : Nat) (k : Option Int) (s : State) : (writeWrap q k s).traj = s.traj := by
  simp only [writeWrap]; (repeat' split) <;> (first | rfl | simp)
@[simp] theorem writeWrap_hold (q : Nat) (k : Option Int) (s : State) : (writeWrap q k s).hold = s.hold := by
  simp only [writeWrap]; (repeat' split) <;> (first | rfl | simp)
@[simp] theorem writeWrap_axis (q : Nat) (k : Option Int) (s : State) : (writeWrap q k s).axis = s.axis := by
  simp only [writeWrap]; (repeat' split) <;> (first | rfl | simp)
@[simp] theorem writeWrap_conf (q : Nat) (k : Option Int) (s : State) : (writeWrap q k s).conf = s.conf := by
  simp only [writeWrap]; (repeat' split) <;> (first | rfl | simp)
@[simp] theorem writeWrap_pins (q : Nat) (k : Option Int) (s : State) : (writeWrap q k s).pins = s.pins := by
  simp only [writeWrap]; (repeat' split) <;> (first | rfl | simp)
@[simp] theorem writeWrap_freeDraws (q : Nat) (k : Option Int) (s : State) : (writeWrap q k s).freeDraws = s.freeDraws := by
  simp only [writeWrap]; (repeat' split) <;> (first | rfl | simp)
@[simp] theorem writeWrap_pending (q : Nat) (k : Option Int) (s : State) : (writeWrap q k s).pending = s.pending := by
  simp only [writeWrap]; (repeat' split) <;> (first | rfl | simp)

@[simp] theorem sendPropose_time (r : RoundRecord) (s : State) : (sendPropose r s).time = s.time := by
  simp only [sendPropose]; (repeat' split) <;> (first | rfl | simp)
@[simp] theorem sendPropose_store (r : RoundRecord) (s : State) : (sendPropose r s).store = s.store := by
  simp only [sendPropose]; (repeat' split) <;> (first | rfl | simp)
@[simp] theorem sendPropose_round (r : RoundRecord) (s : State) : (sendPropose r s).round = s.round := by
  simp only [sendPropose]; (repeat' split) <;> (first | rfl | simp)
@[simp] theorem sendPropose_traj (r : RoundRecord) (s : State) : (sendPropose r s).traj = s.traj := by
  simp only [sendPropose]; (repeat' split) <;> (first | rfl | simp)
@[simp] theorem sendPropose_hold (r : RoundRecord) (s : State) : (sendPropose r s).hold = s.hold := by
  simp only [sendPropose]; (repeat' split) <;> (first | rfl | simp)
@[simp] theorem sendPropose_axis (r : RoundRecord) (s : State) : (sendPropose r s).axis = s.axis := by
  simp only [sendPropose]; (repeat' split) <;> (first | rfl | simp)
@[simp] theorem sendPropose_conf (r : RoundRecord) (s : State) : (sendPropose r s).conf = s.conf := by
  simp only [sendPropose]; (repeat' split) <;> (first | rfl | simp)
@[simp] theorem sendPropose_pins (r : RoundRecord) (s : State) : (sendPropose r s).pins = s.pins := by
  simp only [sendPropose]; (repeat' split) <;> (first | rfl | simp)
@[simp] theorem sendPropose_freeDraws (r : RoundRecord) (s : State) : (sendPropose r s).freeDraws = s.freeDraws := by
  simp only [sendPropose]; (repeat' split) <;> (first | rfl | simp)
@[simp] theorem sendPropose_pending (r : RoundRecord) (s : State) : (sendPropose r s).pending = s.pending := by
  simp only [sendPropose]; (repeat' split) <;> (first | rfl | simp)

@[simp] theorem leaveForRound_time (s : State) : (leaveForRound s).time = s.time := by
  simp only [leaveForRound]; (repeat' split) <;> (first | rfl | simp)
@[simp] theorem leaveForRound_port (s : State) : (leaveForRound s).port = s.port := by
  simp only [leaveForRound]; (repeat' split) <;> (first | rfl | simp)
@[simp] theorem leaveForRound_store (s : State) : (leaveForRound s).store = s.store := by
  simp only [leaveForRound]; (repeat' split) <;> (first | rfl | simp)
@[simp] theorem leaveForRound_traj (s : State) : (leaveForRound s).traj = s.traj := by
  simp only [leaveForRound]; (repeat' split) <;> (first | rfl | simp)
@[simp] theorem leaveForRound_axis (s : State) : (leaveForRound s).axis = s.axis := by
  simp only [leaveForRound]; (repeat' split) <;> (first | rfl | simp)
@[simp] theorem leaveForRound_conf (s : State) : (leaveForRound s).conf = s.conf := by
  simp only [leaveForRound]; (repeat' split) <;> (first | rfl | simp)
@[simp] theorem leaveForRound_pins (s : State) : (leaveForRound s).pins = s.pins := by
  simp only [leaveForRound]; (repeat' split) <;> (first | rfl | simp)
@[simp] theorem leaveForRound_freeDraws (s : State) : (leaveForRound s).freeDraws = s.freeDraws := by
  simp only [leaveForRound]; (repeat' split) <;> (first | rfl | simp)
@[simp] theorem leaveForRound_pending (s : State) : (leaveForRound s).pending = s.pending := by
  simp only [leaveForRound]; (repeat' split) <;> (first | rfl | simp)

@[simp] theorem roundBegun_time (s : State) (e : Nat) (k : RoundKind) : (roundBegun s e k).time = s.time := by
  simp only [roundBegun]; (repeat' split) <;> (first | rfl | simp)
@[simp] theorem roundBegun_port (s : State) (e : Nat) (k : RoundKind) : (roundBegun s e k).port = s.port := by
  simp only [roundBegun]; (repeat' split) <;> (first | rfl | simp)
@[simp] theorem roundBegun_store (s : State) (e : Nat) (k : RoundKind) : (roundBegun s e k).store = s.store := by
  simp only [roundBegun]; (repeat' split) <;> (first | rfl | simp)
@[simp] theorem roundBegun_traj (s : State) (e : Nat) (k : RoundKind) : (roundBegun s e k).traj = s.traj := by
  simp only [roundBegun]; (repeat' split) <;> (first | rfl | simp)
@[simp] theorem roundBegun_hold (s : State) (e : Nat) (k : RoundKind) : (roundBegun s e k).hold = s.hold := by
  simp only [roundBegun]; (repeat' split) <;> (first | rfl | simp)
@[simp] theorem roundBegun_axis (s : State) (e : Nat) (k : RoundKind) : (roundBegun s e k).axis = s.axis := by
  simp only [roundBegun]; (repeat' split) <;> (first | rfl | simp)
@[simp] theorem roundBegun_conf (s : State) (e : Nat) (k : RoundKind) : (roundBegun s e k).conf = s.conf := by
  simp only [roundBegun]; (repeat' split) <;> (first | rfl | simp)
@[simp] theorem roundBegun_pins (s : State) (e : Nat) (k : RoundKind) : (roundBegun s e k).pins = s.pins := by
  simp only [roundBegun]; (repeat' split) <;> (first | rfl | simp)
@[simp] theorem roundBegun_freeDraws (s : State) (e : Nat) (k : RoundKind) : (roundBegun s e k).freeDraws = s.freeDraws := by
  simp only [roundBegun]; (repeat' split) <;> (first | rfl | simp)
@[simp] theorem roundBegun_pending (s : State) (e : Nat) (k : RoundKind) : (roundBegun s e k).pending = s.pending := by
  simp only [roundBegun]; (repeat' split) <;> (first | rfl | simp)

@[simp] theorem beginProfile_time (r : Release) (f : Fixed) (s : State) : (beginProfile r f s).time = s.time := by
  simp only [beginProfile]; (repeat' split) <;> (first | rfl | simp)
@[simp] theorem beginProfile_store (r : Release) (f : Fixed) (s : State) : (beginProfile r f s).store = s.store := by
  simp only [beginProfile]; (repeat' split) <;> (first | rfl | simp)
@[simp] theorem beginProfile_hold (r : Release) (f : Fixed) (s : State) : (beginProfile r f s).hold = s.hold := by
  simp only [beginProfile]; (repeat' split) <;> (first | rfl | simp)
@[simp] theorem beginProfile_conf (r : Release) (f : Fixed) (s : State) : (beginProfile r f s).conf = s.conf := by
  simp only [beginProfile]; (repeat' split) <;> (first | rfl | simp)
@[simp] theorem beginProfile_pins (r : Release) (f : Fixed) (s : State) : (beginProfile r f s).pins = s.pins := by
  simp only [beginProfile]; (repeat' split) <;> (first | rfl | simp)
@[simp] theorem beginProfile_freeDraws (r : Release) (f : Fixed) (s : State) : (beginProfile r f s).freeDraws = s.freeDraws := by
  simp only [beginProfile]; (repeat' split) <;> (first | rfl | simp)
@[simp] theorem beginProfile_pending (r : Release) (f : Fixed) (s : State) : (beginProfile r f s).pending = s.pending := by
  simp only [beginProfile]; (repeat' split) <;> (first | rfl | simp)

@[simp] theorem fixFor_time (rec : Record) (r : Release) (s : State) : (fixFor rec r s).time = s.time := by
  simp only [fixFor]; (repeat' split) <;> (first | rfl | simp)
@[simp] theorem fixFor_store (rec : Record) (r : Release) (s : State) : (fixFor rec r s).store = s.store := by
  simp only [fixFor]; (repeat' split) <;> (first | rfl | simp)
@[simp] theorem fixFor_hold (rec : Record) (r : Release) (s : State) : (fixFor rec r s).hold = s.hold := by
  simp only [fixFor]; (repeat' split) <;> (first | rfl | simp)
@[simp] theorem fixFor_conf (rec : Record) (r : Release) (s : State) : (fixFor rec r s).conf = s.conf := by
  simp only [fixFor]; (repeat' split) <;> (first | rfl | simp)
@[simp] theorem fixFor_pins (rec : Record) (r : Release) (s : State) : (fixFor rec r s).pins = s.pins := by
  simp only [fixFor]; (repeat' split) <;> (first | rfl | simp)
@[simp] theorem fixFor_freeDraws (rec : Record) (r : Release) (s : State) : (fixFor rec r s).freeDraws = s.freeDraws := by
  simp only [fixFor]; (repeat' split) <;> (first | rfl | simp)
@[simp] theorem fixFor_pending (rec : Record) (r : Release) (s : State) : (fixFor rec r s).pending = s.pending := by
  simp only [fixFor]; (repeat' split) <;> (first | rfl | simp)

@[simp] theorem slewItems_time (rec : Record) (a : Nat) (s : State) : (slewItems rec a s).time = s.time := by
  simp only [slewItems]; (repeat' split) <;> (first | rfl | simp)
@[simp] theorem slewItems_port (rec : Record) (a : Nat) (s : State) : (slewItems rec a s).port = s.port := by
  simp only [slewItems]; (repeat' split) <;> (first | rfl | simp)
@[simp] theorem slewItems_store (rec : Record) (a : Nat) (s : State) : (slewItems rec a s).store = s.store := by
  simp only [slewItems]; (repeat' split) <;> (first | rfl | simp)
@[simp] theorem slewItems_round (rec : Record) (a : Nat) (s : State) : (slewItems rec a s).round = s.round := by
  simp only [slewItems]; (repeat' split) <;> (first | rfl | simp)
@[simp] theorem slewItems_hold (rec : Record) (a : Nat) (s : State) : (slewItems rec a s).hold = s.hold := by
  simp only [slewItems]; (repeat' split) <;> (first | rfl | simp)
@[simp] theorem slewItems_axis (rec : Record) (a : Nat) (s : State) : (slewItems rec a s).axis = s.axis := by
  simp only [slewItems]; (repeat' split) <;> (first | rfl | simp)
@[simp] theorem slewItems_conf (rec : Record) (a : Nat) (s : State) : (slewItems rec a s).conf = s.conf := by
  simp only [slewItems]; (repeat' split) <;> (first | rfl | simp)
@[simp] theorem slewItems_pins (rec : Record) (a : Nat) (s : State) : (slewItems rec a s).pins = s.pins := by
  simp only [slewItems]; (repeat' split) <;> (first | rfl | simp)
@[simp] theorem slewItems_freeDraws (rec : Record) (a : Nat) (s : State) : (slewItems rec a s).freeDraws = s.freeDraws := by
  simp only [slewItems]; (repeat' split) <;> (first | rfl | simp)
@[simp] theorem slewItems_pending (rec : Record) (a : Nat) (s : State) : (slewItems rec a s).pending = s.pending := by
  simp only [slewItems]; (repeat' split) <;> (first | rfl | simp)

@[simp] theorem fillSettle_time (q a : Nat) (s : State) : (fillSettle q a s).time = s.time := by
  simp only [fillSettle]; (repeat' split) <;> (first | rfl | simp)
@[simp] theorem fillSettle_port (q a : Nat) (s : State) : (fillSettle q a s).port = s.port := by
  simp only [fillSettle]; (repeat' split) <;> (first | rfl | simp)
@[simp] theorem fillSettle_store (q a : Nat) (s : State) : (fillSettle q a s).store = s.store := by
  simp only [fillSettle]; (repeat' split) <;> (first | rfl | simp)
@[simp] theorem fillSettle_round (q a : Nat) (s : State) : (fillSettle q a s).round = s.round := by
  simp only [fillSettle]; (repeat' split) <;> (first | rfl | simp)
@[simp] theorem fillSettle_traj (q a : Nat) (s : State) : (fillSettle q a s).traj = s.traj := by
  simp only [fillSettle]; (repeat' split) <;> (first | rfl | simp)
@[simp] theorem fillSettle_hold (q a : Nat) (s : State) : (fillSettle q a s).hold = s.hold := by
  simp only [fillSettle]; (repeat' split) <;> (first | rfl | simp)
@[simp] theorem fillSettle_conf (q a : Nat) (s : State) : (fillSettle q a s).conf = s.conf := by
  simp only [fillSettle]; (repeat' split) <;> (first | rfl | simp)
@[simp] theorem fillSettle_pins (q a : Nat) (s : State) : (fillSettle q a s).pins = s.pins := by
  simp only [fillSettle]; (repeat' split) <;> (first | rfl | simp)
@[simp] theorem fillSettle_freeDraws (q a : Nat) (s : State) : (fillSettle q a s).freeDraws = s.freeDraws := by
  simp only [fillSettle]; (repeat' split) <;> (first | rfl | simp)
@[simp] theorem fillSettle_pending (q a : Nat) (s : State) : (fillSettle q a s).pending = s.pending := by
  simp only [fillSettle]; (repeat' split) <;> (first | rfl | simp)

@[simp] theorem slewRound_time (rec : Record) (a : Nat) (s : State) : (slewRound rec a s).time = s.time := by
  simp only [slewRound]; (repeat' split) <;> (first | rfl | simp)
@[simp] theorem slewRound_port (rec : Record) (a : Nat) (s : State) : (slewRound rec a s).port = s.port := by
  simp only [slewRound]; (repeat' split) <;> (first | rfl | simp)
@[simp] theorem slewRound_store (rec : Record) (a : Nat) (s : State) : (slewRound rec a s).store = s.store := by
  simp only [slewRound]; (repeat' split) <;> (first | rfl | simp)
@[simp] theorem slewRound_traj (rec : Record) (a : Nat) (s : State) : (slewRound rec a s).traj = s.traj := by
  simp only [slewRound]; (repeat' split) <;> (first | rfl | simp)
@[simp] theorem slewRound_hold (rec : Record) (a : Nat) (s : State) : (slewRound rec a s).hold = s.hold := by
  simp only [slewRound]; (repeat' split) <;> (first | rfl | simp)
@[simp] theorem slewRound_axis (rec : Record) (a : Nat) (s : State) : (slewRound rec a s).axis = s.axis := by
  simp only [slewRound]; (repeat' split) <;> (first | rfl | simp)
@[simp] theorem slewRound_conf (rec : Record) (a : Nat) (s : State) : (slewRound rec a s).conf = s.conf := by
  simp only [slewRound]; (repeat' split) <;> (first | rfl | simp)
@[simp] theorem slewRound_pins (rec : Record) (a : Nat) (s : State) : (slewRound rec a s).pins = s.pins := by
  simp only [slewRound]; (repeat' split) <;> (first | rfl | simp)
@[simp] theorem slewRound_freeDraws (rec : Record) (a : Nat) (s : State) : (slewRound rec a s).freeDraws = s.freeDraws := by
  simp only [slewRound]; (repeat' split) <;> (first | rfl | simp)
@[simp] theorem slewRound_pending (rec : Record) (a : Nat) (s : State) : (slewRound rec a s).pending = s.pending := by
  simp only [slewRound]; (repeat' split) <;> (first | rfl | simp)

@[simp] theorem slewMotion_time (rec : Record) (t d : Nat) (s : State) : (slewMotion rec t d s).time = s.time := by
  simp only [slewMotion]; (repeat' split) <;> (first | rfl | simp)
@[simp] theorem slewMotion_store (rec : Record) (t d : Nat) (s : State) : (slewMotion rec t d s).store = s.store := by
  simp only [slewMotion]; (repeat' split) <;> (first | rfl | simp)
@[simp] theorem slewMotion_hold (rec : Record) (t d : Nat) (s : State) : (slewMotion rec t d s).hold = s.hold := by
  simp only [slewMotion]; (repeat' split) <;> (first | rfl | simp)
@[simp] theorem slewMotion_conf (rec : Record) (t d : Nat) (s : State) : (slewMotion rec t d s).conf = s.conf := by
  simp only [slewMotion]; (repeat' split) <;> (first | rfl | simp)
@[simp] theorem slewMotion_pins (rec : Record) (t d : Nat) (s : State) : (slewMotion rec t d s).pins = s.pins := by
  simp only [slewMotion]; (repeat' split) <;> (first | rfl | simp)
@[simp] theorem slewMotion_freeDraws (rec : Record) (t d : Nat) (s : State) : (slewMotion rec t d s).freeDraws = s.freeDraws := by
  simp only [slewMotion]; (repeat' split) <;> (first | rfl | simp)
@[simp] theorem slewMotion_pending (rec : Record) (t d : Nat) (s : State) : (slewMotion rec t d s).pending = s.pending := by
  simp only [slewMotion]; (repeat' split) <;> (first | rfl | simp)

@[simp] theorem slewStartFor_time (rec : Record) (t d : Nat) (s : State) : (slewStartFor rec t d s).time = s.time := by
  simp only [slewStartFor]; (repeat' split) <;> (first | rfl | simp)
@[simp] theorem slewStartFor_hold (rec : Record) (t d : Nat) (s : State) : (slewStartFor rec t d s).hold = s.hold := by
  simp only [slewStartFor]; (repeat' split) <;> (first | rfl | simp)
@[simp] theorem slewStartFor_conf (rec : Record) (t d : Nat) (s : State) : (slewStartFor rec t d s).conf = s.conf := by
  simp only [slewStartFor]; (repeat' split) <;> (first | rfl | simp)
@[simp] theorem slewStartFor_pins (rec : Record) (t d : Nat) (s : State) : (slewStartFor rec t d s).pins = s.pins := by
  simp only [slewStartFor]; (repeat' split) <;> (first | rfl | simp)
@[simp] theorem slewStartFor_pending (rec : Record) (t d : Nat) (s : State) : (slewStartFor rec t d s).pending = s.pending := by
  simp only [slewStartFor]; (repeat' split) <;> (first | rfl | simp)

@[simp] theorem stall_time (r : RoundRecord) (s : State) : (stall r s).time = s.time := by
  simp only [stall]; (repeat' split) <;> (first | rfl | simp)
@[simp] theorem stall_store (r : RoundRecord) (s : State) : (stall r s).store = s.store := by
  simp only [stall]; (repeat' split) <;> (first | rfl | simp)
@[simp] theorem stall_traj (r : RoundRecord) (s : State) : (stall r s).traj = s.traj := by
  simp only [stall]; (repeat' split) <;> (first | rfl | simp)
@[simp] theorem stall_hold (r : RoundRecord) (s : State) : (stall r s).hold = s.hold := by
  simp only [stall]; (repeat' split) <;> (first | rfl | simp)
@[simp] theorem stall_axis (r : RoundRecord) (s : State) : (stall r s).axis = s.axis := by
  simp only [stall]; (repeat' split) <;> (first | rfl | simp)
@[simp] theorem stall_conf (r : RoundRecord) (s : State) : (stall r s).conf = s.conf := by
  simp only [stall]; (repeat' split) <;> (first | rfl | simp)
@[simp] theorem stall_pins (r : RoundRecord) (s : State) : (stall r s).pins = s.pins := by
  simp only [stall]; (repeat' split) <;> (first | rfl | simp)
@[simp] theorem stall_pending (r : RoundRecord) (s : State) : (stall r s).pending = s.pending := by
  simp only [stall]; (repeat' split) <;> (first | rfl | simp)

@[simp] theorem updateRound_time (f : RoundRecord → RoundRecord) (s : State) : (updateRound f s).time = s.time := by
  simp only [updateRound]; (repeat' split) <;> (first | rfl | simp)
@[simp] theorem updateRound_port (f : RoundRecord → RoundRecord) (s : State) : (updateRound f s).port = s.port := by
  simp only [updateRound]; (repeat' split) <;> (first | rfl | simp)
@[simp] theorem updateRound_store (f : RoundRecord → RoundRecord) (s : State) : (updateRound f s).store = s.store := by
  simp only [updateRound]; (repeat' split) <;> (first | rfl | simp)
@[simp] theorem updateRound_traj (f : RoundRecord → RoundRecord) (s : State) : (updateRound f s).traj = s.traj := by
  simp only [updateRound]; (repeat' split) <;> (first | rfl | simp)
@[simp] theorem updateRound_hold (f : RoundRecord → RoundRecord) (s : State) : (updateRound f s).hold = s.hold := by
  simp only [updateRound]; (repeat' split) <;> (first | rfl | simp)
@[simp] theorem updateRound_axis (f : RoundRecord → RoundRecord) (s : State) : (updateRound f s).axis = s.axis := by
  simp only [updateRound]; (repeat' split) <;> (first | rfl | simp)
@[simp] theorem updateRound_conf (f : RoundRecord → RoundRecord) (s : State) : (updateRound f s).conf = s.conf := by
  simp only [updateRound]; (repeat' split) <;> (first | rfl | simp)
@[simp] theorem updateRound_pins (f : RoundRecord → RoundRecord) (s : State) : (updateRound f s).pins = s.pins := by
  simp only [updateRound]; (repeat' split) <;> (first | rfl | simp)
@[simp] theorem updateRound_freeDraws (f : RoundRecord → RoundRecord) (s : State) : (updateRound f s).freeDraws = s.freeDraws := by
  simp only [updateRound]; (repeat' split) <;> (first | rfl | simp)
@[simp] theorem updateRound_pending (f : RoundRecord → RoundRecord) (s : State) : (updateRound f s).pending = s.pending := by
  simp only [updateRound]; (repeat' split) <;> (first | rfl | simp)

@[simp] theorem reportAbandonCause_time (c : AbandonCause) (s : State) : (reportAbandonCause c s).time = s.time := by
  simp only [reportAbandonCause]; (repeat' split) <;> (first | rfl | simp)
@[simp] theorem reportAbandonCause_store (c : AbandonCause) (s : State) : (reportAbandonCause c s).store = s.store := by
  simp only [reportAbandonCause]; (repeat' split) <;> (first | rfl | simp)
@[simp] theorem reportAbandonCause_traj (c : AbandonCause) (s : State) : (reportAbandonCause c s).traj = s.traj := by
  simp only [reportAbandonCause]; (repeat' split) <;> (first | rfl | simp)
@[simp] theorem reportAbandonCause_hold (c : AbandonCause) (s : State) : (reportAbandonCause c s).hold = s.hold := by
  simp only [reportAbandonCause]; (repeat' split) <;> (first | rfl | simp)
@[simp] theorem reportAbandonCause_axis (c : AbandonCause) (s : State) : (reportAbandonCause c s).axis = s.axis := by
  simp only [reportAbandonCause]; (repeat' split) <;> (first | rfl | simp)
@[simp] theorem reportAbandonCause_conf (c : AbandonCause) (s : State) : (reportAbandonCause c s).conf = s.conf := by
  simp only [reportAbandonCause]; (repeat' split) <;> (first | rfl | simp)
@[simp] theorem reportAbandonCause_pins (c : AbandonCause) (s : State) : (reportAbandonCause c s).pins = s.pins := by
  simp only [reportAbandonCause]; (repeat' split) <;> (first | rfl | simp)
@[simp] theorem reportAbandonCause_freeDraws (c : AbandonCause) (s : State) : (reportAbandonCause c s).freeDraws = s.freeDraws := by
  simp only [reportAbandonCause]; (repeat' split) <;> (first | rfl | simp)
@[simp] theorem reportAbandonCause_pending (c : AbandonCause) (s : State) : (reportAbandonCause c s).pending = s.pending := by
  simp only [reportAbandonCause]; (repeat' split) <;> (first | rfl | simp)

@[simp] theorem emptyTrace_time (s : State) : (emptyTrace s).time = s.time := by
  simp only [emptyTrace]; (repeat' split) <;> (first | rfl | simp)
@[simp] theorem emptyTrace_port (s : State) : (emptyTrace s).port = s.port := by
  simp only [emptyTrace]; (repeat' split) <;> (first | rfl | simp)
@[simp] theorem emptyTrace_store (s : State) : (emptyTrace s).store = s.store := by
  simp only [emptyTrace]; (repeat' split) <;> (first | rfl | simp)
@[simp] theorem emptyTrace_round (s : State) : (emptyTrace s).round = s.round := by
  simp only [emptyTrace]; (repeat' split) <;> (first | rfl | simp)
@[simp] theorem emptyTrace_traj (s : State) : (emptyTrace s).traj = s.traj := by
  simp only [emptyTrace]; (repeat' split) <;> (first | rfl | simp)
@[simp] theorem emptyTrace_hold (s : State) : (emptyTrace s).hold = s.hold := by
  simp only [emptyTrace]; (repeat' split) <;> (first | rfl | simp)
@[simp] theorem emptyTrace_conf (s : State) : (emptyTrace s).conf = s.conf := by
  simp only [emptyTrace]; (repeat' split) <;> (first | rfl | simp)
@[simp] theorem emptyTrace_pins (s : State) : (emptyTrace s).pins = s.pins := by
  simp only [emptyTrace]; (repeat' split) <;> (first | rfl | simp)
@[simp] theorem emptyTrace_freeDraws (s : State) : (emptyTrace s).freeDraws = s.freeDraws := by
  simp only [emptyTrace]; (repeat' split) <;> (first | rfl | simp)
@[simp] theorem emptyTrace_pending (s : State) : (emptyTrace s).pending = s.pending := by
  simp only [emptyTrace]; (repeat' split) <;> (first | rfl | simp)

@[simp] theorem expireQueue_store (n : Nat) (s : State) : (expireQueue n s).store = s.store := rfl
@[simp] theorem expireQueue_round (n : Nat) (s : State) : (expireQueue n s).round = s.round := rfl
@[simp] theorem expireQueue_traj (n : Nat) (s : State) : (expireQueue n s).traj = s.traj := rfl
@[simp] theorem expireQueue_hold (n : Nat) (s : State) : (expireQueue n s).hold = s.hold := rfl
@[simp] theorem expireQueue_conf (n : Nat) (s : State) : (expireQueue n s).conf = s.conf := rfl
@[simp] theorem expireQueue_pins (n : Nat) (s : State) : (expireQueue n s).pins = s.pins := rfl
@[simp] theorem expireQueue_freeDraws (n : Nat) (s : State) : (expireQueue n s).freeDraws = s.freeDraws := rfl
@[simp] theorem expireQueue_pending (n : Nat) (s : State) : (expireQueue n s).pending = s.pending := rfl
@[simp] theorem expireQueue_time (n : Nat) (s : State) : (expireQueue n s).time = s.time := rfl
@[simp] theorem expireQueue_axis (n : Nat) (s : State) : (expireQueue n s).axis = s.axis := rfl
@[simp] theorem expireQueue_port (n : Nat) (s : State) : (expireQueue n s).port = s.port.expire n := rfl

@[simp] theorem stepTo_store (t : Nat) (s : State) : (stepTo t s).store = s.store := by
  simp only [stepTo]; (repeat' split) <;> (first | rfl | simp)
@[simp] theorem stepTo_round (t : Nat) (s : State) : (stepTo t s).round = s.round := by
  simp only [stepTo]; (repeat' split) <;> (first | rfl | simp)
@[simp] theorem stepTo_traj (t : Nat) (s : State) : (stepTo t s).traj = s.traj := by
  simp only [stepTo]; (repeat' split) <;> (first | rfl | simp)
@[simp] theorem stepTo_hold (t : Nat) (s : State) : (stepTo t s).hold = s.hold := by
  simp only [stepTo]; (repeat' split) <;> (first | rfl | simp)
@[simp] theorem stepTo_conf (t : Nat) (s : State) : (stepTo t s).conf = s.conf := by
  simp only [stepTo]; (repeat' split) <;> (first | rfl | simp)
@[simp] theorem stepTo_pins (t : Nat) (s : State) : (stepTo t s).pins = s.pins := by
  simp only [stepTo]; (repeat' split) <;> (first | rfl | simp)
@[simp] theorem stepTo_freeDraws (t : Nat) (s : State) : (stepTo t s).freeDraws = s.freeDraws := by
  simp only [stepTo]; (repeat' split) <;> (first | rfl | simp)
@[simp] theorem stepTo_pending (t : Nat) (s : State) : (stepTo t s).pending = s.pending := by
  simp only [stepTo]; (repeat' split) <;> (first | rfl | simp)

@[simp] theorem enterLost_store (s : State) : (enterLost s).store = s.store := by
  simp only [enterLost]; (repeat' split) <;> (first | rfl | simp)
@[simp] theorem enterLost_conf (s : State) : (enterLost s).conf = s.conf := by
  simp only [enterLost]; (repeat' split) <;> (first | rfl | simp)
@[simp] theorem enterLost_pins (s : State) : (enterLost s).pins = s.pins := by
  simp only [enterLost]; (repeat' split) <;> (first | rfl | simp)
@[simp] theorem enterLost_freeDraws (s : State) : (enterLost s).freeDraws = s.freeDraws := by
  simp only [enterLost]; (repeat' split) <;> (first | rfl | simp)
@[simp] theorem enterLost_pending (s : State) : (enterLost s).pending = s.pending := by
  simp only [enterLost]; (repeat' split) <;> (first | rfl | simp)

@[simp] theorem coastSecond_store (s : State) : (coastSecond s).store = s.store := by
  simp only [coastSecond]; (repeat' split) <;> (first | rfl | simp)
@[simp] theorem coastSecond_conf (s : State) : (coastSecond s).conf = s.conf := by
  simp only [coastSecond]; (repeat' split) <;> (first | rfl | simp)
@[simp] theorem coastSecond_pins (s : State) : (coastSecond s).pins = s.pins := by
  simp only [coastSecond]; (repeat' split) <;> (first | rfl | simp)
@[simp] theorem coastSecond_freeDraws (s : State) : (coastSecond s).freeDraws = s.freeDraws := by
  simp only [coastSecond]; (repeat' split) <;> (first | rfl | simp)
@[simp] theorem coastSecond_pending (s : State) : (coastSecond s).pending = s.pending := by
  simp only [coastSecond]; (repeat' split) <;> (first | rfl | simp)

@[simp] theorem closeSecond_store (s : State) : (closeSecond s).store = s.store := by
  simp only [closeSecond]; (repeat' split) <;> (first | rfl | simp)
@[simp] theorem closeSecond_conf (s : State) : (closeSecond s).conf = s.conf := by
  simp only [closeSecond]; (repeat' split) <;> (first | rfl | simp)
@[simp] theorem closeSecond_pins (s : State) : (closeSecond s).pins = s.pins := by
  simp only [closeSecond]; (repeat' split) <;> (first | rfl | simp)
@[simp] theorem closeSecond_freeDraws (s : State) : (closeSecond s).freeDraws = s.freeDraws := by
  simp only [closeSecond]; (repeat' split) <;> (first | rfl | simp)
@[simp] theorem closeSecond_pending (s : State) : (closeSecond s).pending = s.pending := by
  simp only [closeSecond]; (repeat' split) <;> (first | rfl | simp)

end Sys2Proof.Machine
end

