-- ==== Sys2Proof/Laws/RoundCmds.lean ====
section
/-! SUPPORT. What a round's start and the round engine's instants leave alone. -/

namespace Sys2Proof.Machine

/-- Selection leaves alone what its skips leave alone. -/
theorem selectTarget_blocks (e n : Nat) (k : RoundKind) (s : State) :
    (selectTarget e n k s).state.time = s.time ∧ (selectTarget e n k s).state.hold = s.hold ∧
      (selectTarget e n k s).state.conf = s.conf ∧ (selectTarget e n k s).state.pins = s.pins ∧
      (selectTarget e n k s).state.pending = s.pending := by
  induction n generalizing k s with
  | zero => simp [selectTarget]
  | succ n ih => simp only [selectTarget]; (repeat' split) <;> simp [ih]

@[simp] theorem selectTarget_time (e n : Nat) (k : RoundKind) (s : State) :
    (selectTarget e n k s).state.time = s.time := (selectTarget_blocks e n k s).1
@[simp] theorem selectTarget_hold (e n : Nat) (k : RoundKind) (s : State) :
    (selectTarget e n k s).state.hold = s.hold := (selectTarget_blocks e n k s).2.1
@[simp] theorem selectTarget_conf (e n : Nat) (k : RoundKind) (s : State) :
    (selectTarget e n k s).state.conf = s.conf := (selectTarget_blocks e n k s).2.2.1
@[simp] theorem selectTarget_pins (e n : Nat) (k : RoundKind) (s : State) :
    (selectTarget e n k s).state.pins = s.pins := (selectTarget_blocks e n k s).2.2.2.1
@[simp] theorem selectTarget_pending (e n : Nat) (k : RoundKind) (s : State) :
    (selectTarget e n k s).state.pending = s.pending := (selectTarget_blocks e n k s).2.2.2.2

@[simp] theorem reportPlanEmpty_time (x : Selection) : (reportPlanEmpty x).time = x.state.time := by
  simp only [reportPlanEmpty]; split <;> simp
@[simp] theorem proposeFor_time (e : Nat) (x : Selection) : (proposeFor e x).time = x.state.time := by
  simp [proposeFor]
@[simp] theorem reportPlanEmpty_hold (x : Selection) : (reportPlanEmpty x).hold = x.state.hold := by
  simp only [reportPlanEmpty]; split <;> simp
@[simp] theorem proposeFor_hold (e : Nat) (x : Selection) : (proposeFor e x).hold = x.state.hold := by
  simp [proposeFor]
@[simp] theorem reportPlanEmpty_conf (x : Selection) : (reportPlanEmpty x).conf = x.state.conf := by
  simp only [reportPlanEmpty]; split <;> simp
@[simp] theorem proposeFor_conf (e : Nat) (x : Selection) : (proposeFor e x).conf = x.state.conf := by
  simp [proposeFor]
@[simp] theorem reportPlanEmpty_pins (x : Selection) : (reportPlanEmpty x).pins = x.state.pins := by
  simp only [reportPlanEmpty]; split <;> simp
@[simp] theorem proposeFor_pins (e : Nat) (x : Selection) : (proposeFor e x).pins = x.state.pins := by
  simp [proposeFor]
@[simp] theorem reportPlanEmpty_pending (x : Selection) : (reportPlanEmpty x).pending = x.state.pending := by
  simp only [reportPlanEmpty]; split <;> simp
@[simp] theorem proposeFor_pending (e : Nat) (x : Selection) : (proposeFor e x).pending = x.state.pending := by
  simp [proposeFor]
@[simp] theorem reportPlanEmpty_store (x : Selection) : (reportPlanEmpty x).store = x.state.store := by
  simp only [reportPlanEmpty]; split <;> simp
@[simp] theorem reportPlanEmpty_traj (x : Selection) : (reportPlanEmpty x).traj = x.state.traj := by
  simp only [reportPlanEmpty]; split <;> simp
@[simp] theorem reportPlanEmpty_axis (x : Selection) : (reportPlanEmpty x).axis = x.state.axis := by
  simp only [reportPlanEmpty]; split <;> simp
@[simp] theorem reportPlanEmpty_round (x : Selection) : (reportPlanEmpty x).round = x.state.round := by
  simp only [reportPlanEmpty]; split <;> simp
@[simp] theorem proposeFor_traj (e : Nat) (x : Selection) : (proposeFor e x).traj = x.state.traj := by
  simp [proposeFor]
@[simp] theorem proposeFor_axis (e : Nat) (x : Selection) : (proposeFor e x).axis = x.state.axis := by
  simp [proposeFor]

@[simp] theorem startRound_time (k : RoundKind) (e : Nat) (s : State) : (startRound k e s).time = s.time := by
  simp only [startRound]; (repeat' split) <;> (first | rfl | simp)
@[simp] theorem startRound_conf (k : RoundKind) (e : Nat) (s : State) : (startRound k e s).conf = s.conf := by
  simp only [startRound]; (repeat' split) <;> (first | rfl | simp)
@[simp] theorem startRound_pins (k : RoundKind) (e : Nat) (s : State) : (startRound k e s).pins = s.pins := by
  simp only [startRound]; (repeat' split) <;> (first | rfl | simp)
@[simp] theorem startRound_pending (k : RoundKind) (e : Nat) (s : State) : (startRound k e s).pending = s.pending := by
  simp only [startRound]; (repeat' split) <;> (first | rfl | simp)

@[simp] theorem fireTrigger_time (x : Trigger) (s : State) : (fireTrigger x s).time = s.time := by
  simp only [fireTrigger]; (repeat' split) <;> (first | rfl | simp)
@[simp] theorem fireTrigger_conf (x : Trigger) (s : State) : (fireTrigger x s).conf = s.conf := by
  simp only [fireTrigger]; (repeat' split) <;> (first | rfl | simp)
@[simp] theorem fireTrigger_pins (x : Trigger) (s : State) : (fireTrigger x s).pins = s.pins := by
  simp only [fireTrigger]; (repeat' split) <;> (first | rfl | simp)
@[simp] theorem fireTrigger_pending (x : Trigger) (s : State) : (fireTrigger x s).pending = s.pending := by
  simp only [fireTrigger]; (repeat' split) <;> (first | rfl | simp)

@[simp] theorem sendRoll_time (r : RoundRecord) (x : OwnOutcome) (s : State) : (sendRoll r x s).time = s.time := by
  simp only [sendRoll]; (repeat' split) <;> (first | rfl | simp)
@[simp] theorem sendRoll_store (r : RoundRecord) (x : OwnOutcome) (s : State) : (sendRoll r x s).store = s.store := by
  simp only [sendRoll]; (repeat' split) <;> (first | rfl | simp)
@[simp] theorem sendRoll_round (r : RoundRecord) (x : OwnOutcome) (s : State) : (sendRoll r x s).round = s.round := by
  simp only [sendRoll]; (repeat' split) <;> (first | rfl | simp)
@[simp] theorem sendRoll_traj (r : RoundRecord) (x : OwnOutcome) (s : State) : (sendRoll r x s).traj = s.traj := by
  simp only [sendRoll]; (repeat' split) <;> (first | rfl | simp)
@[simp] theorem sendRoll_hold (r : RoundRecord) (x : OwnOutcome) (s : State) : (sendRoll r x s).hold = s.hold := by
  simp only [sendRoll]; (repeat' split) <;> (first | rfl | simp)
@[simp] theorem sendRoll_axis (r : RoundRecord) (x : OwnOutcome) (s : State) : (sendRoll r x s).axis = s.axis := by
  simp only [sendRoll]; (repeat' split) <;> (first | rfl | simp)
@[simp] theorem sendRoll_conf (r : RoundRecord) (x : OwnOutcome) (s : State) : (sendRoll r x s).conf = s.conf := by
  simp only [sendRoll]; (repeat' split) <;> (first | rfl | simp)
@[simp] theorem sendRoll_pins (r : RoundRecord) (x : OwnOutcome) (s : State) : (sendRoll r x s).pins = s.pins := by
  simp only [sendRoll]; (repeat' split) <;> (first | rfl | simp)
@[simp] theorem sendRoll_freeDraws (r : RoundRecord) (x : OwnOutcome) (s : State) : (sendRoll r x s).freeDraws = s.freeDraws := by
  simp only [sendRoll]; (repeat' split) <;> (first | rfl | simp)
@[simp] theorem sendRoll_pending (r : RoundRecord) (x : OwnOutcome) (s : State) : (sendRoll r x s).pending = s.pending := by
  simp only [sendRoll]; (repeat' split) <;> (first | rfl | simp)

@[simp] theorem settleOutcome_time (r : RoundRecord) (s : State) : (settleOutcome r s).time = s.time := by
  simp only [settleOutcome]; (repeat' split) <;> (first | rfl | simp)
@[simp] theorem settleOutcome_store (r : RoundRecord) (s : State) : (settleOutcome r s).store = s.store := by
  simp only [settleOutcome]; (repeat' split) <;> (first | rfl | simp)
@[simp] theorem settleOutcome_traj (r : RoundRecord) (s : State) : (settleOutcome r s).traj = s.traj := by
  simp only [settleOutcome]; (repeat' split) <;> (first | rfl | simp)
@[simp] theorem settleOutcome_hold (r : RoundRecord) (s : State) : (settleOutcome r s).hold = s.hold := by
  simp only [settleOutcome]; (repeat' split) <;> (first | rfl | simp)
@[simp] theorem settleOutcome_axis (r : RoundRecord) (s : State) : (settleOutcome r s).axis = s.axis := by
  simp only [settleOutcome]; (repeat' split) <;> (first | rfl | simp)
@[simp] theorem settleOutcome_conf (r : RoundRecord) (s : State) : (settleOutcome r s).conf = s.conf := by
  simp only [settleOutcome]; (repeat' split) <;> (first | rfl | simp)
@[simp] theorem settleOutcome_pins (r : RoundRecord) (s : State) : (settleOutcome r s).pins = s.pins := by
  simp only [settleOutcome]; (repeat' split) <;> (first | rfl | simp)
@[simp] theorem settleOutcome_freeDraws (r : RoundRecord) (s : State) : (settleOutcome r s).freeDraws = s.freeDraws := by
  simp only [settleOutcome]; (repeat' split) <;> (first | rfl | simp)
@[simp] theorem settleOutcome_pending (r : RoundRecord) (s : State) : (settleOutcome r s).pending = s.pending := by
  simp only [settleOutcome]; (repeat' split) <;> (first | rfl | simp)

@[simp] theorem skipAndReRound_time (v : Nat) (r : RoundRecord) (s : State) : (skipAndReRound v r s).time = s.time := by
  simp only [skipAndReRound]; (repeat' split) <;> (first | rfl | simp)
@[simp] theorem skipAndReRound_conf (v : Nat) (r : RoundRecord) (s : State) : (skipAndReRound v r s).conf = s.conf := by
  simp only [skipAndReRound]; (repeat' split) <;> (first | rfl | simp)
@[simp] theorem skipAndReRound_pins (v : Nat) (r : RoundRecord) (s : State) : (skipAndReRound v r s).pins = s.pins := by
  simp only [skipAndReRound]; (repeat' split) <;> (first | rfl | simp)
@[simp] theorem skipAndReRound_pending (v : Nat) (r : RoundRecord) (s : State) : (skipAndReRound v r s).pending = s.pending := by
  simp only [skipAndReRound]; (repeat' split) <;> (first | rfl | simp)

@[simp] theorem succeed_time (d : Nat) (r : RoundRecord) (rec : Record) (s : State) : (succeed d r rec s).time = s.time := by
  simp only [succeed]; (repeat' split) <;> (first | rfl | simp)
@[simp] theorem succeed_conf (d : Nat) (r : RoundRecord) (rec : Record) (s : State) : (succeed d r rec s).conf = s.conf := by
  simp only [succeed]; (repeat' split) <;> (first | rfl | simp)
@[simp] theorem succeed_pins (d : Nat) (r : RoundRecord) (rec : Record) (s : State) : (succeed d r rec s).pins = s.pins := by
  simp only [succeed]; (repeat' split) <;> (first | rfl | simp)
@[simp] theorem succeed_pending (d : Nat) (r : RoundRecord) (rec : Record) (s : State) : (succeed d r rec s).pending = s.pending := by
  simp only [succeed]; (repeat' split) <;> (first | rfl | simp)

@[simp] theorem clearBrakeTimer_time (s : State) : (clearBrakeTimer s).time = s.time := by
  simp only [clearBrakeTimer]; (repeat' split) <;> (first | rfl | simp)
@[simp] theorem clearBrakeTimer_port (s : State) : (clearBrakeTimer s).port = s.port := by
  simp only [clearBrakeTimer]; (repeat' split) <;> (first | rfl | simp)
@[simp] theorem clearBrakeTimer_store (s : State) : (clearBrakeTimer s).store = s.store := by
  simp only [clearBrakeTimer]; (repeat' split) <;> (first | rfl | simp)
@[simp] theorem clearBrakeTimer_round (s : State) : (clearBrakeTimer s).round = s.round := by
  simp only [clearBrakeTimer]; (repeat' split) <;> (first | rfl | simp)
@[simp] theorem clearBrakeTimer_traj (s : State) : (clearBrakeTimer s).traj = s.traj := by
  simp only [clearBrakeTimer]; (repeat' split) <;> (first | rfl | simp)
@[simp] theorem clearBrakeTimer_hold (s : State) : (clearBrakeTimer s).hold = s.hold := by
  simp only [clearBrakeTimer]; (repeat' split) <;> (first | rfl | simp)
@[simp] theorem clearBrakeTimer_conf (s : State) : (clearBrakeTimer s).conf = s.conf := by
  simp only [clearBrakeTimer]; (repeat' split) <;> (first | rfl | simp)
@[simp] theorem clearBrakeTimer_pins (s : State) : (clearBrakeTimer s).pins = s.pins := by
  simp only [clearBrakeTimer]; (repeat' split) <;> (first | rfl | simp)
@[simp] theorem clearBrakeTimer_freeDraws (s : State) : (clearBrakeTimer s).freeDraws = s.freeDraws := by
  simp only [clearBrakeTimer]; (repeat' split) <;> (first | rfl | simp)
@[simp] theorem clearBrakeTimer_pending (s : State) : (clearBrakeTimer s).pending = s.pending := by
  simp only [clearBrakeTimer]; (repeat' split) <;> (first | rfl | simp)

@[simp] theorem arrive_time (s : State) : (arrive s).time = s.time := by
  simp only [arrive]; (repeat' split) <;> (first | rfl | simp)
@[simp] theorem arrive_port (s : State) : (arrive s).port = s.port := by
  simp only [arrive]; (repeat' split) <;> (first | rfl | simp)
@[simp] theorem arrive_store (s : State) : (arrive s).store = s.store := by
  simp only [arrive]; (repeat' split) <;> (first | rfl | simp)
@[simp] theorem arrive_traj (s : State) : (arrive s).traj = s.traj := by
  simp only [arrive]; (repeat' split) <;> (first | rfl | simp)
@[simp] theorem arrive_hold (s : State) : (arrive s).hold = s.hold := by
  simp only [arrive]; (repeat' split) <;> (first | rfl | simp)
@[simp] theorem arrive_axis (s : State) : (arrive s).axis = s.axis := by
  simp only [arrive]; (repeat' split) <;> (first | rfl | simp)
@[simp] theorem arrive_conf (s : State) : (arrive s).conf = s.conf := by
  simp only [arrive]; (repeat' split) <;> (first | rfl | simp)
@[simp] theorem arrive_pins (s : State) : (arrive s).pins = s.pins := by
  simp only [arrive]; (repeat' split) <;> (first | rfl | simp)
@[simp] theorem arrive_freeDraws (s : State) : (arrive s).freeDraws = s.freeDraws := by
  simp only [arrive]; (repeat' split) <;> (first | rfl | simp)
@[simp] theorem arrive_pending (s : State) : (arrive s).pending = s.pending := by
  simp only [arrive]; (repeat' split) <;> (first | rfl | simp)

@[simp] theorem beginDwell_time (d : DwellRecord) (s : State) : (beginDwell d s).time = s.time := by
  simp only [beginDwell]; (repeat' split) <;> (first | rfl | simp)
@[simp] theorem beginDwell_store (d : DwellRecord) (s : State) : (beginDwell d s).store = s.store := by
  simp only [beginDwell]; (repeat' split) <;> (first | rfl | simp)
@[simp] theorem beginDwell_traj (d : DwellRecord) (s : State) : (beginDwell d s).traj = s.traj := by
  simp only [beginDwell]; (repeat' split) <;> (first | rfl | simp)
@[simp] theorem beginDwell_hold (d : DwellRecord) (s : State) : (beginDwell d s).hold = s.hold := by
  simp only [beginDwell]; (repeat' split) <;> (first | rfl | simp)
@[simp] theorem beginDwell_axis (d : DwellRecord) (s : State) : (beginDwell d s).axis = s.axis := by
  simp only [beginDwell]; (repeat' split) <;> (first | rfl | simp)
@[simp] theorem beginDwell_conf (d : DwellRecord) (s : State) : (beginDwell d s).conf = s.conf := by
  simp only [beginDwell]; (repeat' split) <;> (first | rfl | simp)
@[simp] theorem beginDwell_pins (d : DwellRecord) (s : State) : (beginDwell d s).pins = s.pins := by
  simp only [beginDwell]; (repeat' split) <;> (first | rfl | simp)
@[simp] theorem beginDwell_freeDraws (d : DwellRecord) (s : State) : (beginDwell d s).freeDraws = s.freeDraws := by
  simp only [beginDwell]; (repeat' split) <;> (first | rfl | simp)
@[simp] theorem beginDwell_pending (d : DwellRecord) (s : State) : (beginDwell d s).pending = s.pending := by
  simp only [beginDwell]; (repeat' split) <;> (first | rfl | simp)

@[simp] theorem closeDwell_time (d : DwellRecord) (s : State) : (closeDwell d s).time = s.time := by
  simp only [closeDwell]; (repeat' split) <;> (first | rfl | simp)
@[simp] theorem closeDwell_traj (d : DwellRecord) (s : State) : (closeDwell d s).traj = s.traj := by
  simp only [closeDwell]; (repeat' split) <;> (first | rfl | simp)
@[simp] theorem closeDwell_hold (d : DwellRecord) (s : State) : (closeDwell d s).hold = s.hold := by
  simp only [closeDwell]; (repeat' split) <;> (first | rfl | simp)
@[simp] theorem closeDwell_axis (d : DwellRecord) (s : State) : (closeDwell d s).axis = s.axis := by
  simp only [closeDwell]; (repeat' split) <;> (first | rfl | simp)
@[simp] theorem closeDwell_conf (d : DwellRecord) (s : State) : (closeDwell d s).conf = s.conf := by
  simp only [closeDwell]; (repeat' split) <;> (first | rfl | simp)
@[simp] theorem closeDwell_pins (d : DwellRecord) (s : State) : (closeDwell d s).pins = s.pins := by
  simp only [closeDwell]; (repeat' split) <;> (first | rfl | simp)
@[simp] theorem closeDwell_freeDraws (d : DwellRecord) (s : State) : (closeDwell d s).freeDraws = s.freeDraws := by
  simp only [closeDwell]; (repeat' split) <;> (first | rfl | simp)
@[simp] theorem closeDwell_pending (d : DwellRecord) (s : State) : (closeDwell d s).pending = s.pending := by
  simp only [closeDwell]; (repeat' split) <;> (first | rfl | simp)

@[simp] theorem endDwell_time (d : DwellRecord) (s : State) : (endDwell d s).time = s.time := by
  simp only [endDwell]; (repeat' split) <;> (first | rfl | simp)
@[simp] theorem endDwell_conf (d : DwellRecord) (s : State) : (endDwell d s).conf = s.conf := by
  simp only [endDwell]; (repeat' split) <;> (first | rfl | simp)
@[simp] theorem endDwell_pins (d : DwellRecord) (s : State) : (endDwell d s).pins = s.pins := by
  simp only [endDwell]; (repeat' split) <;> (first | rfl | simp)
@[simp] theorem endDwell_pending (d : DwellRecord) (s : State) : (endDwell d s).pending = s.pending := by
  simp only [endDwell]; (repeat' split) <;> (first | rfl | simp)

@[simp] theorem fireAbandon_time (a : PendingAbandon) (s : State) : (fireAbandon a s).time = s.time := by
  simp only [fireAbandon]; (repeat' split) <;> (first | rfl | simp)
@[simp] theorem fireAbandon_conf (a : PendingAbandon) (s : State) : (fireAbandon a s).conf = s.conf := by
  simp only [fireAbandon]; (repeat' split) <;> (first | rfl | simp)
@[simp] theorem fireAbandon_pins (a : PendingAbandon) (s : State) : (fireAbandon a s).pins = s.pins := by
  simp only [fireAbandon]; (repeat' split) <;> (first | rfl | simp)
@[simp] theorem fireAbandon_pending (a : PendingAbandon) (s : State) : (fireAbandon a s).pending = s.pending := by
  simp only [fireAbandon]; (repeat' split) <;> (first | rfl | simp)

@[simp] theorem setTrigger_time (k : TriggerKind) (e : Nat) (s : State) : (setTrigger k e s).time = s.time := by
  simp only [setTrigger]; (repeat' split) <;> (first | rfl | simp)
@[simp] theorem setTrigger_port (k : TriggerKind) (e : Nat) (s : State) : (setTrigger k e s).port = s.port := by
  simp only [setTrigger]; (repeat' split) <;> (first | rfl | simp)
@[simp] theorem setTrigger_store (k : TriggerKind) (e : Nat) (s : State) : (setTrigger k e s).store = s.store := by
  simp only [setTrigger]; (repeat' split) <;> (first | rfl | simp)
@[simp] theorem setTrigger_traj (k : TriggerKind) (e : Nat) (s : State) : (setTrigger k e s).traj = s.traj := by
  simp only [setTrigger]; (repeat' split) <;> (first | rfl | simp)
@[simp] theorem setTrigger_hold (k : TriggerKind) (e : Nat) (s : State) : (setTrigger k e s).hold = s.hold := by
  simp only [setTrigger]; (repeat' split) <;> (first | rfl | simp)
@[simp] theorem setTrigger_axis (k : TriggerKind) (e : Nat) (s : State) : (setTrigger k e s).axis = s.axis := by
  simp only [setTrigger]; (repeat' split) <;> (first | rfl | simp)
@[simp] theorem setTrigger_conf (k : TriggerKind) (e : Nat) (s : State) : (setTrigger k e s).conf = s.conf := by
  simp only [setTrigger]; (repeat' split) <;> (first | rfl | simp)
@[simp] theorem setTrigger_pins (k : TriggerKind) (e : Nat) (s : State) : (setTrigger k e s).pins = s.pins := by
  simp only [setTrigger]; (repeat' split) <;> (first | rfl | simp)
@[simp] theorem setTrigger_freeDraws (k : TriggerKind) (e : Nat) (s : State) : (setTrigger k e s).freeDraws = s.freeDraws := by
  simp only [setTrigger]; (repeat' split) <;> (first | rfl | simp)
@[simp] theorem setTrigger_pending (k : TriggerKind) (e : Nat) (s : State) : (setTrigger k e s).pending = s.pending := by
  simp only [setTrigger]; (repeat' split) <;> (first | rfl | simp)

end Sys2Proof.Machine
end

