-- ==== Sys2Proof/Laws/Tick.lean ====
section
/-! SUPPORT. What the parts of a servo tick leave alone. -/

namespace Sys2Proof.Machine

@[simp] theorem composeEvent_time (s : State) (e : TickEvent) : (composeEvent s e).time = s.time := by
  simp only [composeEvent]; (repeat' split) <;> (first | rfl | simp)
@[simp] theorem composeEvent_store (s : State) (e : TickEvent) : (composeEvent s e).store = s.store := by
  simp only [composeEvent]; (repeat' split) <;> (first | rfl | simp)
@[simp] theorem composeEvent_round (s : State) (e : TickEvent) : (composeEvent s e).round = s.round := by
  simp only [composeEvent]; (repeat' split) <;> (first | rfl | simp)
@[simp] theorem composeEvent_traj (s : State) (e : TickEvent) : (composeEvent s e).traj = s.traj := by
  simp only [composeEvent]; (repeat' split) <;> (first | rfl | simp)
@[simp] theorem composeEvent_hold (s : State) (e : TickEvent) : (composeEvent s e).hold = s.hold := by
  simp only [composeEvent]; (repeat' split) <;> (first | rfl | simp)
@[simp] theorem composeEvent_axis (s : State) (e : TickEvent) : (composeEvent s e).axis = s.axis := by
  simp only [composeEvent]; (repeat' split) <;> (first | rfl | simp)
@[simp] theorem composeEvent_conf (s : State) (e : TickEvent) : (composeEvent s e).conf = s.conf := by
  simp only [composeEvent]; (repeat' split) <;> (first | rfl | simp)
@[simp] theorem composeEvent_pins (s : State) (e : TickEvent) : (composeEvent s e).pins = s.pins := by
  simp only [composeEvent]; (repeat' split) <;> (first | rfl | simp)
@[simp] theorem composeEvent_freeDraws (s : State) (e : TickEvent) : (composeEvent s e).freeDraws = s.freeDraws := by
  simp only [composeEvent]; (repeat' split) <;> (first | rfl | simp)
@[simp] theorem composeEvent_pending (s : State) (e : TickEvent) : (composeEvent s e).pending = s.pending := by
  simp only [composeEvent]; (repeat' split) <;> (first | rfl | simp)

@[simp] theorem reportEncoder_time (g : Bool) (n : Nat) (s : State) : (reportEncoder g n s).time = s.time := by
  simp only [reportEncoder]; (repeat' split) <;> (first | rfl | simp)
@[simp] theorem reportEncoder_store (g : Bool) (n : Nat) (s : State) : (reportEncoder g n s).store = s.store := by
  simp only [reportEncoder]; (repeat' split) <;> (first | rfl | simp)
@[simp] theorem reportEncoder_conf (g : Bool) (n : Nat) (s : State) : (reportEncoder g n s).conf = s.conf := by
  simp only [reportEncoder]; (repeat' split) <;> (first | rfl | simp)
@[simp] theorem reportEncoder_pins (g : Bool) (n : Nat) (s : State) : (reportEncoder g n s).pins = s.pins := by
  simp only [reportEncoder]; (repeat' split) <;> (first | rfl | simp)
@[simp] theorem reportEncoder_freeDraws (g : Bool) (n : Nat) (s : State) : (reportEncoder g n s).freeDraws = s.freeDraws := by
  simp only [reportEncoder]; (repeat' split) <;> (first | rfl | simp)
@[simp] theorem reportEncoder_pending (g : Bool) (n : Nat) (s : State) : (reportEncoder g n s).pending = s.pending := by
  simp only [reportEncoder]; (repeat' split) <;> (first | rfl | simp)

@[simp] theorem reportFollowing_time (m : Motion) (s : State) : (reportFollowing m s).time = s.time := by
  simp only [reportFollowing]; (repeat' split) <;> (first | rfl | simp)
@[simp] theorem reportFollowing_store (m : Motion) (s : State) : (reportFollowing m s).store = s.store := by
  simp only [reportFollowing]; (repeat' split) <;> (first | rfl | simp)
@[simp] theorem reportFollowing_conf (m : Motion) (s : State) : (reportFollowing m s).conf = s.conf := by
  simp only [reportFollowing]; (repeat' split) <;> (first | rfl | simp)
@[simp] theorem reportFollowing_pins (m : Motion) (s : State) : (reportFollowing m s).pins = s.pins := by
  simp only [reportFollowing]; (repeat' split) <;> (first | rfl | simp)
@[simp] theorem reportFollowing_freeDraws (m : Motion) (s : State) : (reportFollowing m s).freeDraws = s.freeDraws := by
  simp only [reportFollowing]; (repeat' split) <;> (first | rfl | simp)
@[simp] theorem reportFollowing_pending (m : Motion) (s : State) : (reportFollowing m s).pending = s.pending := by
  simp only [reportFollowing]; (repeat' split) <;> (first | rfl | simp)

@[simp] theorem reportLosses_time (l : Bool) (s : State) : (reportLosses l s).time = s.time := by
  simp only [reportLosses]; (repeat' split) <;> (first | rfl | simp)
@[simp] theorem reportLosses_store (l : Bool) (s : State) : (reportLosses l s).store = s.store := by
  simp only [reportLosses]; (repeat' split) <;> (first | rfl | simp)
@[simp] theorem reportLosses_traj (l : Bool) (s : State) : (reportLosses l s).traj = s.traj := by
  simp only [reportLosses]; (repeat' split) <;> (first | rfl | simp)
@[simp] theorem reportLosses_hold (l : Bool) (s : State) : (reportLosses l s).hold = s.hold := by
  simp only [reportLosses]; (repeat' split) <;> (first | rfl | simp)
@[simp] theorem reportLosses_axis (l : Bool) (s : State) : (reportLosses l s).axis = s.axis := by
  simp only [reportLosses]; (repeat' split) <;> (first | rfl | simp)
@[simp] theorem reportLosses_conf (l : Bool) (s : State) : (reportLosses l s).conf = s.conf := by
  simp only [reportLosses]; (repeat' split) <;> (first | rfl | simp)
@[simp] theorem reportLosses_pins (l : Bool) (s : State) : (reportLosses l s).pins = s.pins := by
  simp only [reportLosses]; (repeat' split) <;> (first | rfl | simp)
@[simp] theorem reportLosses_freeDraws (l : Bool) (s : State) : (reportLosses l s).freeDraws = s.freeDraws := by
  simp only [reportLosses]; (repeat' split) <;> (first | rfl | simp)
@[simp] theorem reportLosses_pending (l : Bool) (s : State) : (reportLosses l s).pending = s.pending := by
  simp only [reportLosses]; (repeat' split) <;> (first | rfl | simp)

@[simp] theorem reportSaturated_time (j : Trajectory) (s : State) : (reportSaturated j s).time = s.time := by
  simp only [reportSaturated]; (repeat' split) <;> (first | rfl | simp)
@[simp] theorem reportSaturated_store (j : Trajectory) (s : State) : (reportSaturated j s).store = s.store := by
  simp only [reportSaturated]; (repeat' split) <;> (first | rfl | simp)
@[simp] theorem reportSaturated_round (j : Trajectory) (s : State) : (reportSaturated j s).round = s.round := by
  simp only [reportSaturated]; (repeat' split) <;> (first | rfl | simp)
@[simp] theorem reportSaturated_hold (j : Trajectory) (s : State) : (reportSaturated j s).hold = s.hold := by
  simp only [reportSaturated]; (repeat' split) <;> (first | rfl | simp)
@[simp] theorem reportSaturated_axis (j : Trajectory) (s : State) : (reportSaturated j s).axis = s.axis := by
  simp only [reportSaturated]; (repeat' split) <;> (first | rfl | simp)
@[simp] theorem reportSaturated_conf (j : Trajectory) (s : State) : (reportSaturated j s).conf = s.conf := by
  simp only [reportSaturated]; (repeat' split) <;> (first | rfl | simp)
@[simp] theorem reportSaturated_pins (j : Trajectory) (s : State) : (reportSaturated j s).pins = s.pins := by
  simp only [reportSaturated]; (repeat' split) <;> (first | rfl | simp)
@[simp] theorem reportSaturated_freeDraws (j : Trajectory) (s : State) : (reportSaturated j s).freeDraws = s.freeDraws := by
  simp only [reportSaturated]; (repeat' split) <;> (first | rfl | simp)
@[simp] theorem reportSaturated_pending (j : Trajectory) (s : State) : (reportSaturated j s).pending = s.pending := by
  simp only [reportSaturated]; (repeat' split) <;> (first | rfl | simp)

@[simp] theorem zeroLag_time (s : State) : (zeroLag s).time = s.time := by
  simp only [zeroLag]; (repeat' split) <;> (first | rfl | simp)
@[simp] theorem zeroLag_port (s : State) : (zeroLag s).port = s.port := by
  simp only [zeroLag]; (repeat' split) <;> (first | rfl | simp)
@[simp] theorem zeroLag_store (s : State) : (zeroLag s).store = s.store := by
  simp only [zeroLag]; (repeat' split) <;> (first | rfl | simp)
@[simp] theorem zeroLag_round (s : State) : (zeroLag s).round = s.round := by
  simp only [zeroLag]; (repeat' split) <;> (first | rfl | simp)
@[simp] theorem zeroLag_hold (s : State) : (zeroLag s).hold = s.hold := by
  simp only [zeroLag]; (repeat' split) <;> (first | rfl | simp)
@[simp] theorem zeroLag_axis (s : State) : (zeroLag s).axis = s.axis := by
  simp only [zeroLag]; (repeat' split) <;> (first | rfl | simp)
@[simp] theorem zeroLag_conf (s : State) : (zeroLag s).conf = s.conf := by
  simp only [zeroLag]; (repeat' split) <;> (first | rfl | simp)
@[simp] theorem zeroLag_pins (s : State) : (zeroLag s).pins = s.pins := by
  simp only [zeroLag]; (repeat' split) <;> (first | rfl | simp)
@[simp] theorem zeroLag_freeDraws (s : State) : (zeroLag s).freeDraws = s.freeDraws := by
  simp only [zeroLag]; (repeat' split) <;> (first | rfl | simp)
@[simp] theorem zeroLag_pending (s : State) : (zeroLag s).pending = s.pending := by
  simp only [zeroLag]; (repeat' split) <;> (first | rfl | simp)

@[simp] theorem strapTick_time (s : State) : (strapTick s).time = s.time := by
  simp only [strapTick]; (repeat' split) <;> (first | rfl | simp)
@[simp] theorem strapTick_port (s : State) : (strapTick s).port = s.port := by
  simp only [strapTick]; (repeat' split) <;> (first | rfl | simp)
@[simp] theorem strapTick_store (s : State) : (strapTick s).store = s.store := by
  simp only [strapTick]; (repeat' split) <;> (first | rfl | simp)
@[simp] theorem strapTick_round (s : State) : (strapTick s).round = s.round := by
  simp only [strapTick]; (repeat' split) <;> (first | rfl | simp)
@[simp] theorem strapTick_traj (s : State) : (strapTick s).traj = s.traj := by
  simp only [strapTick]; (repeat' split) <;> (first | rfl | simp)
@[simp] theorem strapTick_hold (s : State) : (strapTick s).hold = s.hold := by
  simp only [strapTick]; (repeat' split) <;> (first | rfl | simp)
@[simp] theorem strapTick_conf (s : State) : (strapTick s).conf = s.conf := by
  simp only [strapTick]; (repeat' split) <;> (first | rfl | simp)
@[simp] theorem strapTick_pins (s : State) : (strapTick s).pins = s.pins := by
  simp only [strapTick]; (repeat' split) <;> (first | rfl | simp)
@[simp] theorem strapTick_freeDraws (s : State) : (strapTick s).freeDraws = s.freeDraws := by
  simp only [strapTick]; (repeat' split) <;> (first | rfl | simp)
@[simp] theorem strapTick_pending (s : State) : (strapTick s).pending = s.pending := by
  simp only [strapTick]; (repeat' split) <;> (first | rfl | simp)

@[simp] theorem advanceTick_port (s : State) : (advanceTick s).port = s.port := by
  simp only [advanceTick]; (repeat' split) <;> (first | rfl | simp)
@[simp] theorem advanceTick_store (s : State) : (advanceTick s).store = s.store := by
  simp only [advanceTick]; (repeat' split) <;> (first | rfl | simp)
@[simp] theorem advanceTick_round (s : State) : (advanceTick s).round = s.round := by
  simp only [advanceTick]; (repeat' split) <;> (first | rfl | simp)
@[simp] theorem advanceTick_traj (s : State) : (advanceTick s).traj = s.traj := by
  simp only [advanceTick]; (repeat' split) <;> (first | rfl | simp)
@[simp] theorem advanceTick_hold (s : State) : (advanceTick s).hold = s.hold := by
  simp only [advanceTick]; (repeat' split) <;> (first | rfl | simp)
@[simp] theorem advanceTick_axis (s : State) : (advanceTick s).axis = s.axis := by
  simp only [advanceTick]; (repeat' split) <;> (first | rfl | simp)
@[simp] theorem advanceTick_conf (s : State) : (advanceTick s).conf = s.conf := by
  simp only [advanceTick]; (repeat' split) <;> (first | rfl | simp)
@[simp] theorem advanceTick_pins (s : State) : (advanceTick s).pins = s.pins := by
  simp only [advanceTick]; (repeat' split) <;> (first | rfl | simp)
@[simp] theorem advanceTick_freeDraws (s : State) : (advanceTick s).freeDraws = s.freeDraws := by
  simp only [advanceTick]; (repeat' split) <;> (first | rfl | simp)
@[simp] theorem advanceTick_pending (s : State) : (advanceTick s).pending = s.pending := by
  simp only [advanceTick]; (repeat' split) <;> (first | rfl | simp)
@[simp] theorem composeEvents_time (l : List TickEvent) (s : State) : (l.foldl composeEvent s).time = s.time := by
  induction l generalizing s with
  | nil => rfl
  | cons e l ih => rw [List.foldl_cons, ih, composeEvent_time]
@[simp] theorem composeEvents_store (l : List TickEvent) (s : State) : (l.foldl composeEvent s).store = s.store := by
  induction l generalizing s with
  | nil => rfl
  | cons e l ih => rw [List.foldl_cons, ih, composeEvent_store]
@[simp] theorem composeEvents_round (l : List TickEvent) (s : State) : (l.foldl composeEvent s).round = s.round := by
  induction l generalizing s with
  | nil => rfl
  | cons e l ih => rw [List.foldl_cons, ih, composeEvent_round]
@[simp] theorem composeEvents_traj (l : List TickEvent) (s : State) : (l.foldl composeEvent s).traj = s.traj := by
  induction l generalizing s with
  | nil => rfl
  | cons e l ih => rw [List.foldl_cons, ih, composeEvent_traj]
@[simp] theorem composeEvents_hold (l : List TickEvent) (s : State) : (l.foldl composeEvent s).hold = s.hold := by
  induction l generalizing s with
  | nil => rfl
  | cons e l ih => rw [List.foldl_cons, ih, composeEvent_hold]
@[simp] theorem composeEvents_axis (l : List TickEvent) (s : State) : (l.foldl composeEvent s).axis = s.axis := by
  induction l generalizing s with
  | nil => rfl
  | cons e l ih => rw [List.foldl_cons, ih, composeEvent_axis]
@[simp] theorem composeEvents_conf (l : List TickEvent) (s : State) : (l.foldl composeEvent s).conf = s.conf := by
  induction l generalizing s with
  | nil => rfl
  | cons e l ih => rw [List.foldl_cons, ih, composeEvent_conf]
@[simp] theorem composeEvents_pins (l : List TickEvent) (s : State) : (l.foldl composeEvent s).pins = s.pins := by
  induction l generalizing s with
  | nil => rfl
  | cons e l ih => rw [List.foldl_cons, ih, composeEvent_pins]
@[simp] theorem composeEvents_freeDraws (l : List TickEvent) (s : State) : (l.foldl composeEvent s).freeDraws = s.freeDraws := by
  induction l generalizing s with
  | nil => rfl
  | cons e l ih => rw [List.foldl_cons, ih, composeEvent_freeDraws]
@[simp] theorem composeEvents_pending (l : List TickEvent) (s : State) : (l.foldl composeEvent s).pending = s.pending := by
  induction l generalizing s with
  | nil => rfl
  | cons e l ih => rw [List.foldl_cons, ih, composeEvent_pending]
@[simp] theorem trackingTick_time (rec : Record) (t : Nat) (s : State) : (trackingTick rec t s).state.time = s.time := by
  simp [trackingTick]
@[simp] theorem plainTick_time (s : State) (h : Handover) : (plainTick s h).state.time = s.time := by
  simp [plainTick]
@[simp] theorem stoppingTick_time (p : StopProfile) (t : Nat) (s : State) : (stoppingTick p t s).state.time = s.time := by
  simp only [stoppingTick]; split <;> simp
theorem tickWork_time (t : Nat) (s : State) (w : TickWork) (h : tickWork t s = some w) : w.state.time = s.time := by
  simp only [tickWork, slewingTick, tickOnRecord] at h
  (repeat' split at h) <;> simp at h <;> (first | (subst h; simp) | (obtain ⟨_, _, rfl⟩ := h; simp))
@[simp] theorem trackingTick_store (rec : Record) (t : Nat) (s : State) : (trackingTick rec t s).state.store = s.store := by
  simp [trackingTick]
@[simp] theorem plainTick_store (s : State) (h : Handover) : (plainTick s h).state.store = s.store := by
  simp [plainTick]
@[simp] theorem stoppingTick_store (p : StopProfile) (t : Nat) (s : State) : (stoppingTick p t s).state.store = s.store := by
  simp only [stoppingTick]; split <;> simp
theorem tickWork_store (t : Nat) (s : State) (w : TickWork) (h : tickWork t s = some w) : w.state.store = s.store := by
  simp only [tickWork, slewingTick, tickOnRecord] at h
  (repeat' split at h) <;> simp at h <;> (first | (subst h; simp) | (obtain ⟨_, _, rfl⟩ := h; simp))
@[simp] theorem trackingTick_hold (rec : Record) (t : Nat) (s : State) : (trackingTick rec t s).state.hold = s.hold := by
  simp [trackingTick]
@[simp] theorem plainTick_hold (s : State) (h : Handover) : (plainTick s h).state.hold = s.hold := by
  simp [plainTick]
@[simp] theorem stoppingTick_hold (p : StopProfile) (t : Nat) (s : State) : (stoppingTick p t s).state.hold = s.hold := by
  simp only [stoppingTick]; split <;> simp
theorem tickWork_hold (t : Nat) (s : State) (w : TickWork) (h : tickWork t s = some w) : w.state.hold = s.hold := by
  simp only [tickWork, slewingTick, tickOnRecord] at h
  (repeat' split at h) <;> simp at h <;> (first | (subst h; simp) | (obtain ⟨_, _, rfl⟩ := h; simp))
@[simp] theorem trackingTick_conf (rec : Record) (t : Nat) (s : State) : (trackingTick rec t s).state.conf = s.conf := by
  simp [trackingTick]
@[simp] theorem plainTick_conf (s : State) (h : Handover) : (plainTick s h).state.conf = s.conf := by
  simp [plainTick]
@[simp] theorem stoppingTick_conf (p : StopProfile) (t : Nat) (s : State) : (stoppingTick p t s).state.conf = s.conf := by
  simp only [stoppingTick]; split <;> simp
theorem tickWork_conf (t : Nat) (s : State) (w : TickWork) (h : tickWork t s = some w) : w.state.conf = s.conf := by
  simp only [tickWork, slewingTick, tickOnRecord] at h
  (repeat' split at h) <;> simp at h <;> (first | (subst h; simp) | (obtain ⟨_, _, rfl⟩ := h; simp))
@[simp] theorem trackingTick_pins (rec : Record) (t : Nat) (s : State) : (trackingTick rec t s).state.pins = s.pins := by
  simp [trackingTick]
@[simp] theorem plainTick_pins (s : State) (h : Handover) : (plainTick s h).state.pins = s.pins := by
  simp [plainTick]
@[simp] theorem stoppingTick_pins (p : StopProfile) (t : Nat) (s : State) : (stoppingTick p t s).state.pins = s.pins := by
  simp only [stoppingTick]; split <;> simp
theorem tickWork_pins (t : Nat) (s : State) (w : TickWork) (h : tickWork t s = some w) : w.state.pins = s.pins := by
  simp only [tickWork, slewingTick, tickOnRecord] at h
  (repeat' split at h) <;> simp at h <;> (first | (subst h; simp) | (obtain ⟨_, _, rfl⟩ := h; simp))
@[simp] theorem trackingTick_freeDraws (rec : Record) (t : Nat) (s : State) : (trackingTick rec t s).state.freeDraws = s.freeDraws := by
  simp [trackingTick]
@[simp] theorem plainTick_freeDraws (s : State) (h : Handover) : (plainTick s h).state.freeDraws = s.freeDraws := by
  simp [plainTick]
@[simp] theorem stoppingTick_freeDraws (p : StopProfile) (t : Nat) (s : State) : (stoppingTick p t s).state.freeDraws = s.freeDraws := by
  simp only [stoppingTick]; split <;> simp
theorem tickWork_freeDraws (t : Nat) (s : State) (w : TickWork) (h : tickWork t s = some w) : w.state.freeDraws = s.freeDraws := by
  simp only [tickWork, slewingTick, tickOnRecord] at h
  (repeat' split at h) <;> simp at h <;> (first | (subst h; simp) | (obtain ⟨_, _, rfl⟩ := h; simp))
@[simp] theorem trackingTick_pending (rec : Record) (t : Nat) (s : State) : (trackingTick rec t s).state.pending = s.pending := by
  simp [trackingTick]
@[simp] theorem plainTick_pending (s : State) (h : Handover) : (plainTick s h).state.pending = s.pending := by
  simp [plainTick]
@[simp] theorem stoppingTick_pending (p : StopProfile) (t : Nat) (s : State) : (stoppingTick p t s).state.pending = s.pending := by
  simp only [stoppingTick]; split <;> simp
theorem tickWork_pending (t : Nat) (s : State) (w : TickWork) (h : tickWork t s = some w) : w.state.pending = s.pending := by
  simp only [tickWork, slewingTick, tickOnRecord] at h
  (repeat' split at h) <;> simp at h <;> (first | (subst h; simp) | (obtain ⟨_, _, rfl⟩ := h; simp))
@[simp] theorem finishTick_time (t : Nat) (g : Bool) (n : Nat) (l : List TickEvent) (h : Handover) (s : State) :
    (finishTick t g n l h s).time = s.time := by
  simp [finishTick]
@[simp] theorem countAndFinish_time (t : Nat) (g : Option Int) (w : TickWork) :
    (countAndFinish t g w).time = w.state.time := by
  simp [countAndFinish]
theorem liveTick_time (t : Nat) (r : EncoderReply) (s n : State) (h : liveTick t r s = some n) : n.time = s.time := by
  simp only [liveTick, Option.map_eq_some_iff] at h
  obtain ⟨w, hw, rfl⟩ := h
  simp [tickWork_time _ _ _ hw]
@[simp] theorem finishTick_store (t : Nat) (g : Bool) (n : Nat) (l : List TickEvent) (h : Handover) (s : State) :
    (finishTick t g n l h s).store = s.store := by
  simp [finishTick]
@[simp] theorem countAndFinish_store (t : Nat) (g : Option Int) (w : TickWork) :
    (countAndFinish t g w).store = w.state.store := by
  simp [countAndFinish]
theorem liveTick_store (t : Nat) (r : EncoderReply) (s n : State) (h : liveTick t r s = some n) : n.store = s.store := by
  simp only [liveTick, Option.map_eq_some_iff] at h
  obtain ⟨w, hw, rfl⟩ := h
  simp [tickWork_store _ _ _ hw]
@[simp] theorem finishTick_conf (t : Nat) (g : Bool) (n : Nat) (l : List TickEvent) (h : Handover) (s : State) :
    (finishTick t g n l h s).conf = s.conf := by
  simp [finishTick]
@[simp] theorem countAndFinish_conf (t : Nat) (g : Option Int) (w : TickWork) :
    (countAndFinish t g w).conf = w.state.conf := by
  simp [countAndFinish]
theorem liveTick_conf (t : Nat) (r : EncoderReply) (s n : State) (h : liveTick t r s = some n) : n.conf = s.conf := by
  simp only [liveTick, Option.map_eq_some_iff] at h
  obtain ⟨w, hw, rfl⟩ := h
  simp [tickWork_conf _ _ _ hw]
@[simp] theorem finishTick_pins (t : Nat) (g : Bool) (n : Nat) (l : List TickEvent) (h : Handover) (s : State) :
    (finishTick t g n l h s).pins = s.pins := by
  simp [finishTick]
@[simp] theorem countAndFinish_pins (t : Nat) (g : Option Int) (w : TickWork) :
    (countAndFinish t g w).pins = w.state.pins := by
  simp [countAndFinish]
theorem liveTick_pins (t : Nat) (r : EncoderReply) (s n : State) (h : liveTick t r s = some n) : n.pins = s.pins := by
  simp only [liveTick, Option.map_eq_some_iff] at h
  obtain ⟨w, hw, rfl⟩ := h
  simp [tickWork_pins _ _ _ hw]
@[simp] theorem finishTick_freeDraws (t : Nat) (g : Bool) (n : Nat) (l : List TickEvent) (h : Handover) (s : State) :
    (finishTick t g n l h s).freeDraws = s.freeDraws := by
  simp [finishTick]
@[simp] theorem countAndFinish_freeDraws (t : Nat) (g : Option Int) (w : TickWork) :
    (countAndFinish t g w).freeDraws = w.state.freeDraws := by
  simp [countAndFinish]
theorem liveTick_freeDraws (t : Nat) (r : EncoderReply) (s n : State) (h : liveTick t r s = some n) : n.freeDraws = s.freeDraws := by
  simp only [liveTick, Option.map_eq_some_iff] at h
  obtain ⟨w, hw, rfl⟩ := h
  simp [tickWork_freeDraws _ _ _ hw]
@[simp] theorem finishTick_pending (t : Nat) (g : Bool) (n : Nat) (l : List TickEvent) (h : Handover) (s : State) :
    (finishTick t g n l h s).pending = s.pending := by
  simp [finishTick]
@[simp] theorem countAndFinish_pending (t : Nat) (g : Option Int) (w : TickWork) :
    (countAndFinish t g w).pending = w.state.pending := by
  simp [countAndFinish]
theorem liveTick_pending (t : Nat) (r : EncoderReply) (s n : State) (h : liveTick t r s = some n) : n.pending = s.pending := by
  simp only [liveTick, Option.map_eq_some_iff] at h
  obtain ⟨w, hw, rfl⟩ := h
  simp [tickWork_pending _ _ _ hw]

end Sys2Proof.Machine
end

