-- ==== Sys2Proof/Tests/Slice0.lean ====
section
/-! SUPPORT. Tests: ill-formed terms refused, single commands on small states with results from the worked examples
of spec/, and for each statement with hypotheses a state and operands that meet them. -/

namespace Sys2Proof.Tests

open Sys2Proof.Machine

/-! ### Helpers -/

/-- What a command leaves, read by `f`; `none` where it stops. -/
def after {α : Type} (c : Instr) (s : State) (f : State → α) : Option α :=
  match exec c s with
  | .next t => some (f t)
  | .fault _ => none
  | .refused _ => none

/-- The frames in the transmit queue. -/
def sent (s : State) : List Frame := s.port.queue.map Entry.frame

/-- A reception's two marks: passed the tests, taken. -/
def marks (s : State) : Option (Bool × Bool) := s.port.reception.map fun r => (r.passed, r.taken)

/-- The control station's frames to the EL role, and the guider's, AZ's, DOME's and the shared sender's. -/
def control : Origin := ⟨9, 0x04⟩
def guider : Origin := ⟨6, 0x04⟩
def fromAz : Origin := ⟨1, 0x3E⟩
def fromDome : Origin := ⟨4, 0x3E⟩
def fromAll : Origin := ⟨15, 0x3E⟩

/-- The roster of the worked examples: AZ to DOME at 1 to 4, control station 9, guider 6. -/
def items : Items := { Items.defaults 2 with addr := ⟨1, 2, 3, 4, 15⟩, addrControl := 9, addrGuider := 6 }

/-- A time base LOCKED at a mount time, ticks a millisecond apart. -/
def lockedAt (t : Nat) : TimeBase :=
  { TimeBase.afterReset with
    mountTime := t, timeState := .locked, setTaken := true, goodSeconds := [(t / 1000000 * 1000000 : Nat)]
    judgeSecond := (t / 1000000 * 1000000 : Nat) + 1000000, nextSecond := (t / 1000000 + 1) * 1000000
    nextTick := (t + 999) / 1000 * 1000 }

/-- An EL controller at address 2 in RUN, plan READY, on its brake. -/
def running : State :=
  { State.reset with
    time := lockedAt 50000000000
    round := { RoundEngine.afterReset with plan := some .ready }
    axis := { AxisInterface.afterReset with lastSetpoint := some 0 }
    conf := { ConfigBlock.afterReset ⟨2, 2⟩ with life := .run, items := items } }

/-- The same controller in CONFIG with its items set, before START. -/
def configured : State :=
  { running with
    round := RoundEngine.afterReset
    conf := { ConfigBlock.afterReset ⟨2, 2⟩ with items := items } }

/-- A controller whose straps are unusable. -/
def strapped : State :=
  { State.reset with conf := ConfigBlock.afterReset ⟨15, 2⟩, pending := [.ppsEdge] }

/-- A track that holds still for a hundred seconds. -/
def still (x : Int) : Track := ⟨⟨49990000000, 100000000, x, 0, 0, 0⟩, []⟩

/-- A record of a seq and kind whose own track holds still. -/
def record (seq : Nat) (k : RecordKind) (x : Int) : Record :=
  ⟨⟨seq, k, 50005000000, 50020000000, 30000000, ⟨1, 1, 1, 1, 0⟩⟩, still x, false, none⟩

/-- The controller TRACKING target 211 in phase DWELL, with 212 pending. -/
def observing : State :=
  { running with
    store :=
      { PlanStore.afterReset with
        queue := [record 212 .planned 40000000], current := some (record 211 .planned 500000), free := 126
        lastAppended := 212, lastCommitted := 212 }
    round :=
      { running.round with
        plan := some (.observing .dwell)
        dwell := some ⟨211, 49999000000, 49999000000, 50030000000, true, true⟩ }
    traj := { Trajectory.afterReset with motion := .tracking, trackSetpoint := 500000, lastTick := 49999999000 }
    axis :=
      { AxisInterface.afterReset with
        driveEnable := true, brakeApplied := false, lastSetpoint := some 500000, lastEncoder := 500000
        settle := some ⟨211, 49999000000, 50, true, true⟩ } }

/-- The round record of the four-axis round at EL: target 212, own verdict GO with D 4,100,000. -/
def elRound : RoundRecord := freshRound 1 50000000000 .ordinary (some 212) ⟨.go, 4100000, none⟩

/-- The same controller 10 ms into that round. -/
def inRound : State :=
  { observing with
    time := lockedAt 50000010000
    round := { observing.round with plan := some (.inRound elRound), dwell := none, rounds := 1 } }

/-- The ROLL and PROPOSE of the round. -/
def call (verdict d : Nat) : List Byte := callPayload ⟨50000000000, 212, verdict, d⟩

/-! ### WellFormed -/

theorem test_wf_long_payload : (Instr.hold fromAz (List.replicate 33 0)).wellFormed = false := by decide
theorem test_wf_longest_payload : (Instr.hold fromAz (List.replicate 32 0)).wellFormed = true := by decide
theorem test_wf_long_args : (Instr.start control (List.replicate 32 0)).wellFormed = false := by decide
theorem test_wf_go_roll_verdict : (Instr.goRoll fromAll (call 1 0)).wellFormed = false := by decide
theorem test_wf_skip_roll_verdict : (Instr.skipRoll fromAll (call 0 9450000)).wellFormed = false := by decide
theorem test_wf_absent_code : (Instr.commandUnknownCode control none [1]).wellFormed = false := by decide
theorem test_wf_heard_frame :
    (Instr.attemptEnd (.heard ⟨.guide, 6, 4, List.replicate 33 0⟩)).wellFormed = false := by decide

/-! ### Operations -/

/-- 2.5: HOLD1 at 2 ms displaces TRACE2, TRACE3 at 5 ms is dropped. -/
def fullQueue : SpanPort :=
  [(FrameClass.event, 1), (.event, 2), (.event, 3), (.event, 4), (.event, 5), (.status, 1), (.traceData, 1),
    (.traceData, 2)].foldl (fun p x => p.offer ⟨x.1, 4, 0, [x.2]⟩ 0 600000) .afterReset

theorem test_full_queue :
    let p := fullQueue.offer ⟨.hold, 4, 0x3E, [1]⟩ 2000 52000
    (p.queue.map fun e => (e.frame.cls, e.frame.payload)) =
      [(.hold, [1]), (.event, [1]), (.event, [2]), (.event, [3]), (.event, [4]), (.event, [5]), (.status, [1]),
        (.traceData, [1])] ∧ p.txDropped = 1 := by decide

theorem test_full_queue_replaces :
    let p := fullQueue.offer ⟨.status, 4, 0, [2]⟩ 4000 104000
    p.txDropped = 0 ∧
      (p.queue.filter fun e => decide (e.frame.cls = .status)).map (fun e => e.frame.payload) = [[2]] := by
  decide

/-- 5.3. -/
def exampleTrack : Track :=
  ⟨⟨70000000000, 4000000, 184320000, 15360, 655360, -2147483648⟩,
    [⟨70004000000, 6000000, 184381600, 15400, 0, 0⟩]⟩

theorem test_track_inside : exampleTrack.pos 70002500000 = 184358455 ∧ exampleTrack.vel 70002500000 = 15401 := by decide
theorem test_track_outside :
    exampleTrack.pos 69999000000 = 184320000 ∧ exampleTrack.vel 69999000000 = 0 ∧
      exampleTrack.pos 70000000000 = 184320000 ∧ exampleTrack.vel 70000000000 = 15360 := by decide

/-- 5.5, first and second case, and the tie. -/
def firstCase : Track := ⟨⟨0, 600000000, 1100000000, 18500, 0, 0⟩, []⟩
def secondCase : Track := ⟨⟨0, 300000000, 368640000, -10000, 0, 0⟩, []⟩

theorem test_wrap_choice :
    chooseWrap (Items.defaults 1) firstCase 320000000 (-900000000) = some (-1) ∧
      chooseWrap (Items.defaults 1) secondCase 60000000 (-400000000) = some (-1) ∧
      chooseWrap (Items.defaults 1) secondCase 60000000 (-295512000) = some (-1) := by decide

/-- 6.3: g1 37,241,856 and 5,368,000 µs. -/
theorem test_motion_time :
    (minMotion items 37241856).ceilTick 1000 = 5368000 ∧ (minMotion items 36864000).ceilTick 1000 = 5334000 := by decide

/-- 6.9: the profile of the slew from the brake, and the lengthened one. -/
def auxRelease (p0 : Int) (budget : Nat) : Release := ⟨1, 40000, 290000, 6790000, budget, p0⟩

theorem test_profile :
    (match fixProfile items ⟨⟨0, 1, 22118400, 0, 0, 0⟩, []⟩ 0 (auxRelease 0 5000000) with
      | .moving p none =>
        some [p.posAt 500000, p.posAt 1000000, p.posAt 2500000, p.posAt 4000000, p.posAt 4500000, p.posAt 5000000,
          p.feedforwardAt 500000, p.feedforwardAt 1000000, p.feedforwardAt 4500000, p.feedforwardAt 5000000]
      | _ => none) =
      some [691200, 2764800, 11059200, 19353600, 21427200, 22118400, 2764800, 5529600, 2764800, 0] := by decide +kernel

theorem test_profile_late :
    (match fixProfile items ⟨⟨0, 1, 22118400, 0, 0, 0⟩, []⟩ 0 (auxRelease (-40960) 4000000) with
      | .moving p (some late) => some (p.duration, late)
      | _ => none) = some (4004000, 4000) := by decide

/-! ### The time base (1.7) -/

/-- 40,047 s has been regained. -/
def coasting : State :=
  { running with
    time :=
      { lockedAt 40048000576 with
        timeState := .coast, qualifying := 3, coastSeconds := 45, regainSecond := some 40047000000 } }

theorem test_pps_good_edge :
    after .ppsEdge { running with time := { lockedAt 40000000012 with goodSeconds := [] } }
      (fun t => (t.time.residue, t.time.correction)) = some (-12, some ⟨40000000012, -12, 0⟩) := by decide
theorem test_pps_regain :
    after .ppsEdge coasting (fun t => (t.time.timeState, t.time.residue, t.time.correction.map Correction.q)) =
      some (.locked, -576, some (-100)) := by decide

/-- The first of twelve unit corrections that withhold. -/
def correcting (done mount : Nat) (residue : Int) : State :=
  { running with
    time := { lockedAt mount with residue := residue, correction := some ⟨40000000012, -12, done⟩ } }

theorem test_unit_correction :
    after .unitCorrection (correcting 0 40000083345 (-12)) (fun t => (t.now, t.time.residue)) =
      some (40000083345, -11) := by decide
theorem test_unit_correction_early :
    after .unitCorrection (correcting 0 40000083344 (-12)) (fun t => (t.now, t.time.residue)) =
      some (40000083344, -12) := by decide
theorem test_correction_second_end :
    after .correctionSecondEnd (correcting 12 40001000012 0) (fun t => t.time.correction) = some none := by
  decide
theorem test_third_miss :
    after .expectedSecondJudgement
      { running with
        time :=
          { lockedAt 40003500000 with
            misses := 2, goodSeconds := [40000000000], judgeSecond := 40003000000 } }
      (fun t => (t.time.timeState, t.time.misses, sent t)) =
      some (.coast, 0, [⟨.event, 2, 0, [4, 1, 0, 0, 0, 0, 0, 3]⟩]) := by decide
/-- R6 with a residue of 600,000: the edge of the next second has come before this second is judged. -/
theorem test_early_edge_is_no_miss :
    after .expectedSecondJudgement
      { running with
        time :=
          { lockedAt 40003500000 with
            residue := 600000, misses := 2, goodSeconds := [40004000000, 40003000000], judgeSecond := 40003000000 } }
      (fun t => (t.time.timeState, t.time.misses)) = some (.locked, 0) := by decide
theorem test_regain_run_miss :
    after .regainRunMiss
      { coasting with time := { coasting.time with mountTime := 40048500000, judgeSecond := 40048000000 } }
      (fun t => (t.time.qualifying, t.time.regainSecond)) = some (0, none) := by decide
theorem test_link_second_close :
    after .linkSecondClose
      { coasting with
        time := { coasting.time with mountTime := 40045000000, nextSecond := 40045000000, coastSeconds := 41 } }
      (fun t => t.time.coastSeconds) = some 42 := by decide
theorem test_time_set :
    after (.timeSet control (timePayload 61000)) configured (fun t => t.time.pendingSet) = some (some 61000) := by
  decide

/-! ### The Span port (2.6) -/

/-- The example's GO roll is queued. -/
def goRollFrame : Frame := ⟨.roll, 15, 0x3E, call 0 9450000⟩
def withRoll : State := { inRound with port := inRound.port.offer goRollFrame 50000015000 50000040000 }
def attempting : State := { withRoll with port := withRoll.port.beginAttempt withRoll.now }

theorem test_attempt_start : after .attemptStart withRoll (fun t => t.port.attempt.map Attempt.frame) =
    some (some goRollFrame) := by decide
theorem test_attempt_ends :
    after (.attemptEnd (.heard goRollFrame)) attempting sent = some [] ∧
      after (.attemptEnd (.heard ⟨.hold, 1, 0x3E, [1, 0, 0, 1]⟩)) attempting sent = some [goRollFrame] := by decide
theorem test_tx_deadline :
    after .txDeadline { withRoll with time := lockedAt 50000040000 } (fun t => (sent t, t.port.txExpired)) =
      some ([], 1) := by decide
/-- R21: a deadline reached during the attempt counts though mount time has stepped back since. -/
def steppedBack : State := stepTo 60000000 { attempting with time := lockedAt 50000040000 }

theorem test_attempt_end_after_step_back :
    after (.attemptEnd .damaged) steppedBack (fun t => (sent t, t.port.txExpired)) = some ([], 1) := by decide
/-- R13, R31: a step expires at once the entry it passes. -/
theorem test_step_expires : (let t := stepTo 60000000000 withRoll; (sent t, t.port.txExpired)) = ([], 1) := by decide
theorem test_damaged_frame :
    after (.damagedFrame true) running (fun t => (t.port.damaged, t.port.erroredMark)) = some (1, true) := by
  decide
theorem test_unknown_class :
    after (.unknownClassFrame .class14 control [1]) running marks = some (some (false, false)) := by
  decide
theorem test_report_frame :
    after (.reportFrameHeard .status fromAz [1]) running marks = some (some (false, false)) := by
  decide

/-- EL asserts the GO roll it hears; slots 1 to 4 complete it, slot 2 driven by EL itself (2.6, 7.10). -/
def asserting : State :=
  { inRound with
    round := { inRound.round with plan := some (.inRound { elRound with goAsserted := true }) }
    port := { inRound.port with reception := some ⟨goRollFrame, true, true, some 1⟩ } }

theorem test_response_field_complete :
    after (.responseFieldReport 0x001A) asserting
      (fun t => (planCode t.round.plan, (roundOf t).map RoundRecord.completeGo)) = some (2, some (some 9450000)) := by
  decide
theorem test_response_field_incomplete :
    after (.responseFieldReport 0x0016) asserting
      (fun t => (planCode t.round.plan, (roundOf t).map RoundRecord.completeGo)) = some (1, some none) := by
  decide

/-! ### Holds (9.7) -/

/-- EL in SLEWING after its tick X with setpoint 40,000,000 and feedforward 2,211,840; then after DOME's HOLD. -/
def beforeHold : State :=
  { observing with
    time := lockedAt 50002000600
    traj :=
      { observing.traj with
        motion := .slewing ⟨211, 49999000000, 49999000000, 50009490000, 0, 80000000, 80000000, 8000000, .ofInt 1⟩
        lastFeedforward := 2211840, lastTick := 50002000000 }
    axis := { observing.axis with lastSetpoint := some 40000000, lastEncoder := 40000000, settle := none } }
def stopAt (t : Nat) : State :=
  { beforeHold with
    time := lockedAt t
    round := { beforeHold.round with plan := some .held }
    traj :=
      { beforeHold.traj with motion := .stopping ⟨40000000, 2211840, 50002000000, .ratio 2211840 5529600⟩ } }

theorem test_hold :
    after (.hold fromDome [1, 0, 212, 1]) beforeHold
      (fun t => (planCode t.round.plan, t.traj.motion, t.hold.peerHold, marks t)) =
      some (5, .stopping ⟨40000000, 2211840, 50002000000, .ratio 2211840 5529600⟩, true, some (true, true)) := by
  decide
theorem test_stop_tick :
    after (.servoTick (.position 40000000)) (stopAt 50002100000)
      (fun t => (t.axis.lastSetpoint, t.traj.lastFeedforward)) = some (some 40193536, 1658880) := by decide
theorem test_stop_end :
    after (.servoTick (.position 40000000)) (stopAt 50002400000) (fun t => (t.traj.motion, t.axis.lastSetpoint)) =
      some (.standing 40442368, some 40442368) := by decide
theorem test_drive_fault :
    after .driveFaultAsserted observing (fun t => (t.traj.motion, t.axis.brakeApplied, planCode t.round.plan)) =
      some (.braked, true, 5) := by decide
theorem test_drive_fault_over :
    after .driveFaultDeasserted
      { observing with
        pins := ⟨true, false⟩, hold := { observing.hold with causes := ⟨false, false, true, false, false⟩ } }
      (fun t => (t.hold.causes.drive, t.pins.driveFault)) = some (false, false) := by decide
theorem test_estop :
    after .emergencyStopAsserted observing (fun t => (t.hold.causes.estop, sent t)) =
      some (true, [⟨.hold, 2, 0x3E, [4, 0, 211, 8]⟩]) := by decide
theorem test_estop_over :
    after .emergencyStopDeasserted
      { running with
        pins := ⟨false, true⟩, hold := { running.hold with causes := ⟨false, false, false, true, false⟩ } }
      (fun t => (t.hold.causes.estop, t.traj.motion)) = some (false, .braked) := by decide
theorem test_hold_repeat :
    after .holdRepeat
      { observing with
        hold := ⟨⟨true, false, false, false, true⟩, false, some 50000000000⟩ }
      (fun t => (t.hold.repeatTimer, sent t)) =
      some (some 50000200000, [⟨.hold, 2, 0x3E, [1, 0, 211, 17]⟩]) := by decide

/-! ### Rounds (7.10) -/

theorem test_go_roll : after (.goRoll fromAll (call 0 9450000)) inRound marks = some (some (true, true)) := by
  decide
theorem test_go_roll_short : after (.goRoll fromAll (call 0 4000000)) inRound marks = some (some (true, false)) := by
  decide
theorem test_skip_roll : after (.skipRoll fromAll (call 1 0)) inRound marks = some (some (true, true)) := by decide
theorem test_skip_roll_refused : after (.skipRoll fromAll (call 1 0)) asserting marks = some (some (true, false)) := by
  decide
theorem test_propose :
    after (.propose fromDome (call 0 9450000)) inRound (fun t => (roundOf t).map fun r => r.heard.dome) =
      some (some (some ⟨212, .go, 9450000⟩)) := by decide

/-- All four have proposed GO. -/
def proposals : PerRole (Option HeardProposal) :=
  ⟨some ⟨212, .go, 6834000⟩, some ⟨212, .go, 4100000⟩, some ⟨212, .go, 3200000⟩, some ⟨212, .go, 9450000⟩, none⟩
def allHeard : State :=
  { inRound with
    time := lockedAt 50000015000
    round := { inRound.round with plan := some (.inRound { elRound with heard := proposals }) } }

theorem test_own_outcome :
    after .ownOutcome allHeard (fun t => ((roundOf t).map RoundRecord.outcome, sent t)) =
      some (some (some (.go 9450000)), [goRollFrame]) := by decide
theorem test_own_outcome_missing :
    after .ownOutcome
      { allHeard with
        round :=
          { allHeard.round with
            plan := some (.inRound { elRound with heard := { proposals with dome := none } }) } }
      (fun t => ((roundOf t).map RoundRecord.outcome, sent t)) = some (some (some .nothing), []) := by decide

/-- The roll is complete; S has come. -/
def atS : State :=
  { allHeard with
    time := lockedAt 50000040000
    round :=
      { allHeard.round with
        plan := some
          (.scheduled
            { elRound with
              heard := proposals, outcome := some .nothing, goAsserted := true, completeGo := some 9450000 }) } }

theorem test_round_result :
    after .roundResult atS
      (fun t => (t.store.current.map Record.seq, t.store.queue, t.round.dwell.map DwellRecord.dwellStart,
        t.round.plan)) =
      some (some 212, [], some 50009490000, some (.observing .slew)) := by decide
theorem test_round_result_window :
    after .roundResult
      { atS with
        store :=
          { atS.store with
            queue :=
              [{ record 212 .planned 0 with
                 header := { (record 212 .planned 0).header with windowClose := 50008000000 } }] } }
      (fun t => (t.store.queue, sent t |>.map Frame.cls)) = some ([], [.propose, .event]) := by decide

theorem test_dwell_end :
    after .dwellEnd { observing with time := lockedAt 50030000000 }
      (fun t => (t.store.current.map Record.dwellDone, (roundOf t).map RoundRecord.selected, t.round.dwell)) =
      some (some true, some none, none) := by decide

/-- 211's dwell ends while 212's window is open for a slew start. -/
def dwellOver : State :=
  { observing with
    round := { observing.round with dwell := some ⟨211, 49999000000, 49999000000, 50000000000, true, true⟩ } }

theorem test_dwell_end_selects :
    after .dwellEnd dwellOver
      (fun t => ((roundOf t).map fun r => (r.epoch, r.selected, r.verdict), sent t |>.map Frame.cls)) =
      some (some (50000000000, some 212, .go), [.propose, .event]) := by decide
theorem test_trigger_epoch :
    after .pendingTriggerEpoch
      { running with round := { running.round with trigger := some ⟨.go, 50000000000⟩ } }
      (fun t => ((roundOf t).map RoundRecord.verdict, t.round.trigger)) = some (some .noTarget, none) := by decide
theorem test_abandon_frame :
    after (.abandon fromAz (abandonPayload ⟨211, 50000020000, 0⟩)) observing (fun t => t.round.abandon) =
      some (some ⟨211, 50000020000, .trackLost⟩) := by decide
theorem test_abandon_epoch :
    after .abandonEpoch
      { observing with round := { observing.round with abandon := some ⟨211, 50000000000, .limit⟩ } }
      (fun t => (t.store.current.map Record.dwellDone, (roundOf t).map RoundRecord.selected)) =
      some (some true, some (some 212)) := by decide

/-- 6.9 from S: RELEASING until S_m. -/
def releasing : State :=
  { observing with
    round := { observing.round with dwell := some ⟨211, 50006500000, 50006500000, 50036500000, false, false⟩ }
    traj := { observing.traj with motion := .releasing ⟨211, 49999750000, 50000000000, 50006500000, 5000000, 0⟩ }
    store := { observing.store with current := some (record 211 .planned 22118400) }
    axis := { observing.axis with brakeTimer := some 50000000000 } }

theorem test_brake_timer :
    after .brakeTimerExpiry releasing
      (fun t => match t.traj.motion with
        | .slewing p => some (p.duration, p.posAt 1000000, p.feedforwardAt 1000000)
        | _ => none) = some (some (5000000, 2764800, 5529600)) := by decide +kernel
theorem test_arrival :
    after .arrival
      { observing with
        round :=
          { observing.round with
            plan := some (.observing .settle)
            dwell := some ⟨211, 50000000000, 50005000000, 50035000000, true, false⟩ } }
      (fun t => t.round.plan) = some (some (.observing .dwellWait)) := by decide
theorem test_dwell_start :
    after .dwellStart
      { observing with
        round :=
          { observing.round with
            plan := some (.observing .dwellWait)
            dwell := some ⟨211, 49999000000, 50000000000, 50030000000, true, false⟩ } }
      (fun t => (t.round.plan, sent t |>.map fun f => f.payload.take 4)) =
      some (some (.observing .dwell), [[2, 3, 0, 211]]) := by decide

/-! ### Tracking (5.7, 8.7) -/

theorem test_tracking_tick :
    after (.servoTick (.position 500000))
      { observing with store := { observing.store with current := some (record 211 .planned 520000) } }
      (fun t => (t.traj.trackSetpoint, t.traj.lag, t.axis.lastSetpoint)) = some (505529, 14471, some 505529) := by
  decide
theorem test_guide_tick :
    after (.servoTick (.position 500000))
      { observing with traj := { observing.traj with pendingGuide := 3692, guideApplied := 61428 } }
      (fun t => (t.traj.pendingGuide, t.traj.guideApplied, sent t)) =
      some (3590, 61440, [⟨.event, 2, 0, [3, 1, 0, 211, 0, 0, 240, 0]⟩]) := by decide
theorem test_guide :
    after (.guide guider (guidePayload ⟨211, 0x04, 0, 8000, 0⟩)) observing
      (fun t => (t.traj.pendingGuide, sent t)) =
      some (5120, [⟨.event, 2, 0, [3, 0, 0, 211, 0, 0, 31, 64]⟩]) := by decide
theorem test_offset :
    after (.offset control (2 :: bytesOfInt 4 (-4000000))) observing (fun t => t.traj.commandedOffset) =
      some (-3686400) := by decide

/-! ### The night plan (4.5) -/

/-- The example's records and header at the EL controller's times, its EL count taken as 3. -/
def head304 : HeadFields := ⟨304, 0, 60010000000, 60040000000, 30000000, ⟨3, 3, 3, 1, 0⟩⟩
def seg304 (i start span : Nat) : SegFields := ⟨304, i, ⟨start, span, 0, 0, 0, 0⟩⟩
def taking : State :=
  { running with
    store :=
      { PlanStore.afterReset with
        free := 111, lastAppended := 303, lastCommitted := 303
        intake := some
          { header := headerOf head304 .planned, reserved := 3
            segments := [(seg304 0 60000000000 20000000).segment, (seg304 1 60020000000 30000000).segment]
            nextExpected := 2, lastTaken := some 1, start := 49999999000 } } }

theorem test_plan_head :
    after (.planHead control (headPayload head304))
      { running with store := { PlanStore.afterReset with free := 114, lastAppended := 303 } }
      (fun t => (t.store.free, t.store.intake.map Intake.reserved, marks t)) =
      some (111, some 3, some (true, true)) := by decide
theorem test_plan_head_busy :
    after (.planHead control (headPayload { head304 with seq := 310 })) taking sent =
      some [⟨.event, 2, 0, eventPayload 0 1 310 16713734⟩] := by decide
theorem test_plan_seg_commits :
    after (.planSeg control (segPayload (seg304 2 60050000000 40000000))) taking
      (fun t => (t.store.queue.map Record.seq, t.store.lastAppended, t.store.intake, sent t)) =
      some ([304], 304, none, [⟨.event, 2, 0, eventPayload 0 0 304 111⟩]) := by decide
theorem test_plan_seg_gap :
    after (.planSeg control (segPayload (seg304 2 60050001000 40000000))) taking
      (fun t => (t.store.free, t.store.lastAppended, sent t)) =
      some (114, 303, [⟨.event, 2, 0, eventPayload 0 1 304 133383⟩]) := by decide
theorem test_intake_timeout :
    after .intakeTimeout { taking with time := lockedAt 50000249000 } (fun t => (t.store.intake, t.store.free)) =
      some (none, 114) := by decide
theorem test_plan_clear :
    after (.planClear control []) observing (fun t => (t.store.queue, t.store.current.map Record.seq, t.store.free)) =
      some ([], some 211, 127) := by decide

/-! ### Commands (3.7.1, 12.7) -/

theorem test_go_late :
    after (.go control (bytesOfNat 6 49999000000)) running (fun t => (sent t, t.conf.lastRefusal)) =
      some ([⟨.event, 2, 0, eventPayload 7 0 0 132617⟩], 9) := by decide
theorem test_go_rounded :
    after (.go control (bytesOfNat 6 50000000400)) running (fun t => t.round.trigger) =
      some (some ⟨.go, 50000001000⟩) := by decide
theorem test_break :
    after (.breakIn control (bytesOfNat 6 50000001000))
      { observing with store := { observing.store with excursion := some (record 900 .excursion 0) } }
      (fun t => t.round.trigger) = some (some ⟨.breakIn, 50000001000⟩) := by decide
theorem test_return :
    after (.returnTo control (bytesOfNat 6 50000001000))
      { observing with store := { observing.store with current := some (record 900 .excursion 0) } }
      (fun t => t.round.trigger) = some (some ⟨.returnTo, 50000001000⟩) := by decide
theorem test_status_req_length :
    after (.statusReq control [0, 0]) running sent = some [⟨.event, 2, 0, eventPayload 7 0 0 525826⟩] := by
  decide
theorem test_status_page_1 :
    after (.statusReq control [1]) observing (fun t => (sent t).map Frame.payload) =
      some [[18, 1, 0, 212, 0, 212, 126, 0, 0, 0, 0, 16, 0, 0, 0, 0, 0, 0, 0, 3]] := by decide
theorem test_config_tick_period :
    after (.configItem control (configPayload 8 900)) configured
      (fun t => (t.items.tickPeriod, t.items.settleAllow, t.items.brakeDelay)) = some (750, 1500000, 250500) := by
  decide
theorem test_config_unknown :
    after (.configItem control (configPayload 40 0)) configured (fun t => (sent t, t.conf.lastRefusal)) =
      some ([⟨.event, 2, 0, eventPayload 7 0 0 2623240⟩], 8) := by decide
theorem test_start :
    after (.start control []) configured (fun t => (t.conf.life, t.round.plan, t.traj.motion)) =
      some (.run, some .ready, .braked) := by decide
theorem test_start_no_set :
    after (.start control []) { configured with time := { configured.time with setTaken := false } }
      (fun t => (t.conf.life, t.conf.lastRefusal)) = some (.config, 1) := by decide
theorem test_restart :
    after (.restart control []) { observing with traj := { observing.traj with motion := .standing 500000 } }
      (fun t => (t.traj.motion, t.axis.brakeApplied, t.store, t.round.plan)) =
      some (.braked, true, .afterReset, some .ready) := by decide
theorem test_unknown_code :
    after (.commandUnknownCode control (some ⟨11, by decide⟩) []) running (fun t => t.conf.lastRefusal) = some 8 := by
  decide
theorem test_hard_reset :
    after (.hardReset 2 6) observing (fun t => (t.conf.life, t.store)) = some (.strapFault, .afterReset) := by
  decide

/-! ### The trace (11.10) -/

/-- The example's setting, with the tick X + 1 to come: HELD is set. -/
def tracing (p : TracePhase) (ring : List TraceEntry) : State :=
  { stopAt 50002001000 with
    axis := { (stopAt 50002001000).axis with setting := ⟨.stopOn, 1024, 1024, .isMatch⟩, phase := p, ring := ring } }

theorem test_trace_set :
    after (.traceSet control [3, 4, 0, 4, 0, 0]) running (fun t => (t.axis.setting, t.axis.phase)) =
      some (⟨.stopOn, 1024, 1024, .isMatch⟩, .recording) := by decide
theorem test_trace_triggers :
    after (.servoTick (.position 40000000)) (tracing .recording []) (fun t => (t.axis.phase, t.axis.ring.length)) =
      some (.postTrigger 64, 1) := by decide
theorem test_trace_stops :
    after (.servoTick (.position 40000000)) (tracing (.postTrigger 1) []) (fun t => t.axis.phase) = some .stopped := by
  decide

/-- One entry of the ring. -/
def entry : TraceEntry := ⟨7, 100, 98, 2, 3, 1024⟩

theorem test_trace_read :
    after (.traceRead control [0, 1]) (tracing .stopped [entry]) sent =
      some [⟨.traceData, 2, 0, [0, 0, 0, 0, 7, 0, 0, 0, 100, 0, 0, 0, 98, 0, 0, 0, 2, 3, 4, 0]⟩] := by decide +kernel
theorem test_trace_read_range :
    after (.traceRead control [1, 1]) (tracing .stopped [entry]) (fun t => t.conf.lastRefusal) = some 2 := by
  decide

/-! ### Witnesses: for each statement with hypotheses, a state and operands that meet them -/

/-- A command's frame passes the tests in a state. -/
theorem passes (c : Instr) (f : Frame) (s : State) (hc : c.frame? = some f)
    (h : s.conf.life ≠ .strapFault ∧ passesTests s f.cls ⟨f.sender, f.dest⟩ = true) : Passes c s :=
  ⟨h.1, f, hc, h.2⟩

/-- A line falls with the controller tracking. -/
def waiting : State := { observing with pending := [.driveFaultAsserted] }

/-- The roster's own address of the example. -/
theorem own_roster : observing.ownRole = some .el ∧ observing.items.addr.get .el ≠ 15 := by decide

theorem observing_pooled : waiting.Pooled :=
  ⟨by decide, nofun, fun _ => ⟨.el, own_roster⟩, by decide⟩

theorem witness_StepRunsTheFrontCommand :
    waiting.pending = .driveFaultAsserted :: [] ∧
      ({ State.reset with time := { TimeBase.afterReset with mountTime := 1, nextTick := 1000 } } : State).pending =
        [] ∧
      due { State.reset with time := { TimeBase.afterReset with mountTime := 1, nextTick := 1000 } } = none ∧
      due { State.reset with time := { TimeBase.afterReset with mountTime := 1000000 } } = some .linkSecondClose ∧
      State.reset.pending = [] ∧ due State.reset = some (.servoTick (freeReply State.reset.freeDraws)) :=
  ⟨rfl, rfl, rfl, rfl, rfl, rfl⟩

theorem witness_CommandsLeaveTheQueueAlone : ∃ t, exec .driveFaultAsserted waiting = .next t := ⟨_, rfl⟩

theorem no_round : roundOf waiting = none := rfl
theorem no_reception : waiting.port.reception = none := rfl

theorem witness_EveryStepAnswersAndStaysSound : waiting.Sound :=
  ⟨observing_pooled,
    ⟨(fun _ h => nomatch (no_round.symm.trans h)), (fun _ h => nomatch (no_round.symm.trans h)),
      (fun _ _ h => nomatch (no_reception.symm.trans h)), (fun _ _ h => nomatch (no_reception.symm.trans h))⟩,
    ⟨by decide, (fun _ _ h => nomatch (no_round.symm.trans h))⟩⟩

theorem witness_StrapFaultStaysSilent :
    strapped.Silent ∧ frontIs isHardReset strapped = false ∧ ∃ t, step strapped = .next t :=
  ⟨⟨rfl, rfl, rfl, rfl, rfl, .inl rfl, rfl, rfl⟩, rfl, ⟨_, rfl⟩⟩

theorem witness_ControllerRestsOutsideRun :
    configured.Dormant ∧ ∃ t, step { configured with pending := [.driveFaultAsserted] } = .next t :=
  ⟨fun _ => by constructor <;> rfl, ⟨_, rfl⟩⟩

theorem witness_PlanStoreFillsOnlyInRun :
    (∃ t, exec (.hardReset 2 2) waiting = .next t) ∧
      (configured.conf.life ≠ .run → configured.store = .afterReset) ∧
      (∃ t, step { configured with pending := [.driveFaultAsserted] } = .next t ∧ t.conf.life ≠ .run) ∧
      ∃ t, exec (.start control []) configured = .next t :=
  ⟨⟨_, rfl⟩, fun _ => rfl, ⟨_, rfl, by decide⟩, ⟨_, rfl⟩⟩

theorem witness_LifeStateChangesOnlyByStartAndReset :
    frontIs isHardReset waiting = false ∧ waiting.conf.life = .run ∧ (∃ t, step waiting = .next t) ∧
      strapped.conf.life = .strapFault ∧ (∃ t, step strapped = .next t) ∧ configured.conf.life = .config ∧
      ∃ t, step { configured with pending := [.start control []] } = .next t :=
  ⟨rfl, rfl, ⟨_, rfl⟩, rfl, ⟨_, rfl⟩, rfl, ⟨_, rfl⟩⟩

theorem witness_MountTimeNeverDecreasesInRun :
    waiting.Timed ∧ waiting.conf.life = .run ∧ frontIs isHardReset waiting = false ∧ ∃ t, step waiting = .next t :=
  ⟨⟨by decide, by decide⟩, rfl, rfl, ⟨_, rfl⟩⟩

theorem witness_SegmentPoolIsConserved : waiting.Pooled ∧ ∃ t, step waiting = .next t := ⟨observing_pooled, ⟨_, rfl⟩⟩

theorem attempting_ordered : attempting.port.Ordered := by
  constructor <;> first | decide | exact fun _ h => by cases h; decide

theorem witness_TransmitQueueKeepsItsOrder :
    attempting.port.Ordered ∧ ∃ t, step { attempting with pending := [.emergencyStopAsserted] } = .next t :=
  ⟨attempting_ordered, ⟨_, rfl⟩⟩

theorem observing_ordered : waiting.store.Ordered :=
  ⟨by decide, by decide, by decide, by decide, nofun, nofun, by decide, nofun⟩

theorem witness_PlanKeepsItsOrder : waiting.store.Ordered ∧ ∃ t, step waiting = .next t := ⟨observing_ordered, ⟨_, rfl⟩⟩

theorem witness_OutputsFollowModeAndLines : waiting.OutputsSafe ∧ ∃ t, step waiting = .next t :=
  ⟨⟨rfl, rfl⟩, ⟨_, rfl⟩⟩

theorem witness_RollAssertionsStayHonest :
    asserting.Agreeing ∧ ∃ t, step { asserting with pending := [.responseFieldReport 0x001E] } = .next t := by
  have hr : roundOf asserting = some { elRound with goAsserted := true } := rfl
  have hx : asserting.port.reception = some ⟨goRollFrame, true, true, some 1⟩ := rfl
  refine ⟨⟨?_, ?_, ?_, ?_⟩, ⟨_, rfl⟩⟩
  · rintro r h
    obtain rfl := Option.some.inj (hr.symm.trans h)
    exact ⟨by decide, fun _ => ⟨rfl, by decide⟩, nofun, nofun⟩
  · rintro r h
    obtain rfl := Option.some.inj (hr.symm.trans h)
    decide
  · rintro x n h hn
    obtain rfl := Option.some.inj (hx.symm.trans h)
    obtain rfl := Option.some.inj hn
    decide
  · rintro x r h hr' - - -
    obtain rfl := Option.some.inj (hx.symm.trans h)
    obtain rfl := Option.some.inj (hr.symm.trans hr')
    exact ⟨⟨50000000000, 212, 0, 9450000⟩, by decide, .inl ⟨rfl, rfl, by decide⟩⟩

theorem witness_OffsetsAndGuideStayBounded : waiting.Bounded ∧ ∃ t, step waiting = .next t :=
  ⟨⟨fun h => absurd rfl h, by decide, by decide, by decide, by decide⟩, ⟨_, rfl⟩⟩

theorem witness_TraceStaysBounded : (tracing (.postTrigger 64) [entry]).axis.TraceBounded ∧
    ∃ t, step waiting = .next t :=
  ⟨⟨by decide, fun _ h => by cases h; decide⟩, ⟨_, rfl⟩⟩

theorem witness_FramesThatFailTheTests :
    (Instr.timeSet fromAz (timePayload 1)).frame? = some ⟨.time, 1, 0x3E, timePayload 1⟩ ∧
      running.conf.life ≠ .strapFault ∧ passesTests running .time ⟨1, 0x3E⟩ = false := by decide

theorem witness_PayloadsRoundTrip :
    (281474976710655 < 2 ^ 48 ∧ 65535 < 2 ^ 16 ∧ 255 < 2 ^ 8 ∧ 4294967295 < 2 ^ 32) ∧
      ((-2 : Int) ^ 31 ≤ 2147483647 ∧ (2147483647 : Int) < 2 ^ 31) ∧
      ∀ x ∈ [(2147483647 : Int), -2147483648, 0], -2 ^ 31 ≤ x ∧ x < 2 ^ 31 := by decide

theorem witness_LowerCallWinsArbitration :
    winsOver ⟨.roll, 15, 0x3E, call 0 9450000⟩ ⟨.roll, 15, 0x3E, call 0 9500000⟩ = true ∧
      winsOver ⟨.roll, 15, 0x3E, call 1 0⟩ ⟨.roll, 15, 0x3E, call 0 9500000⟩ = false := by decide

theorem witness_RoundingIsExact : 0 < (Exact.root 2 3).den ∧ (Exact.root 2 3).n = (Exact.root 2 5).n := by decide

theorem witness_TrackIsTheCubicOfItsSegment :
    69999999999 < exampleTrack.first.tStart ∧ (∀ g ∈ exampleTrack.segments, g.finish ≤ 70010000000) ∧
      exampleTrack.segments = [exampleTrack.first] ++ exampleTrack.last :: [] ∧
      exampleTrack.first.tStart ≤ 70004000000 ∧ (∀ x ∈ [exampleTrack.first], x.finish ≤ 70004000000) ∧
      70004000000 < exampleTrack.last.finish := by decide

/-- An edge exactly 12 µs late for 40,000 s, or at the later bound of its half second. -/
theorem witness_EdgeAt :
    State.EdgeAt { running with time := lockedAt 40000000012 } 40000000000 ∧
      State.EdgeAt { running with time := lockedAt 39999500000 } 40000000000 := by
  constructor <;> constructor <;> decide

theorem witness_PpsEdgeInFree :
    let s : State := { configured with
      time := { TimeBase.afterReset with
                mountTime := 4000020, lastCapture := some 3000000, qualifying := 3, nextTick := 4001000 } }
    s.time.timeState = .free ∧ s.time.residue = 0 ∧ s.EdgeAt 4000000 ∧
      (∃ l, s.time.lastCapture = some l ∧ |(s.now : Int) - l - 1000000| ≤ s.items.lockWindow) ∧
      s.time.qualifying = 3 ∧ 0 < s.items.tickPeriod ∧ s.conf.life ≠ .strapFault ∧ Enabled s .timeLocked ∧ Room s 2 :=
  ⟨rfl, rfl, ⟨by decide, by decide, by decide⟩, ⟨3000000, rfl, by decide⟩, rfl, by decide, by decide,
    by unfold Enabled; decide, by unfold Room; decide⟩

theorem witness_PpsEdgeInFree_far :
    let s : State := { configured with
      time := { TimeBase.afterReset with mountTime := 4000021, lastCapture := some 3000000, qualifying := 2 } }
    s.EdgeAt 4000000 ∧ ¬(∃ l, s.time.lastCapture = some l ∧ |(s.now : Int) - l - 1000000| ≤ s.items.lockWindow) :=
  ⟨⟨by decide, by decide, by decide⟩, fun ⟨_, h, h'⟩ => by cases h; exact absurd h' (by decide)⟩

theorem witness_PpsEdgeInLocked :
    let s : State := { running with time := { lockedAt 40000000020 with goodSeconds := [39999000000] } }
    s.time.timeState = .locked ∧ s.EdgeAt 40000000000 ∧ |s.edgeError 40000000000| ≤ s.items.lockWindow ∧
      40000000000 ∉ s.time.goodSeconds ∧ s.time.pendingSet = none :=
  ⟨rfl, ⟨by decide, by decide, by decide⟩, by decide, by decide, rfl⟩

theorem witness_PpsEdgeInLocked_set :
    let s : State := { configured with
      time := { lockedAt 40000000000 with goodSeconds := [39999000000], pendingSet := some 61000 } }
    s.time.timeState = .locked ∧ s.EdgeAt 40000000000 ∧ |s.edgeError 40000000000| ≤ s.items.lockWindow ∧
      40000000000 ∉ s.time.goodSeconds ∧ s.time.pendingSet = some 61000 ∧ 0 < s.items.tickPeriod :=
  ⟨rfl, ⟨by decide, by decide, by decide⟩, by decide, by decide, rfl, by decide⟩

theorem witness_PpsEdgeInLocked_far :
    let s : State := { running with time := lockedAt 40000000021 }
    s.EdgeAt 40000000000 ∧ (s.items.lockWindow : Int) < |s.edgeError 40000000000| :=
  ⟨⟨by decide, by decide, by decide⟩, by decide⟩

theorem witness_PpsEdgeInCoastOrLost :
    coasting.time.timeState = .coast ∧ coasting.EdgeAt 40048000000 ∧ |coasting.edgeError 40048000000| ≤ 2000 ∧
      coasting.time.regainSecond = some (40048000000 - 1000000) ∧ coasting.time.qualifying + 1 = 4 ∧
      Enabled coasting .timeLocked ∧ Room coasting 1 :=
  ⟨rfl, ⟨by decide, by decide, by decide⟩, by decide, rfl, rfl, by unfold Enabled; decide, by unfold Room; decide⟩

theorem witness_PpsEdgeInCoastOrLost_far :
    let s : State := { coasting with time := { coasting.time with mountTime := 40048002001, timeState := .lost } }
    s.time.timeState = .lost ∧ s.EdgeAt 40048000000 ∧ 2000 < |s.edgeError 40048000000| :=
  ⟨rfl, ⟨by decide, by decide, by decide⟩, by decide⟩

theorem witness_SecondsAreCorrectedAndJudged :
    (let s := correcting 0 40000083345 (-12)
     ∃ c, s.time.correction = some c ∧ c.done < c.q.natAbs ∧
       c.start + (c.done + 1) * (1000000 / c.q.natAbs) ≤ s.now) ∧
      (let s := correcting 12 40001000012 0
       ∃ c, s.time.correction = some c ∧ c.q.natAbs ≤ c.done ∧ c.start + 1000000 ≤ s.now) ∧
      (let s : State := { running with time := { lockedAt 40003500000 with misses := 2, judgeSecond := 40003000000 } }
       s.time.timeState = .locked ∧ s.time.judgeSecond + 500000 ≤ s.now ∧ s.time.misses = 2 ∧ Enabled s .timeCoast) ∧
      let s : State :=
        { coasting with time := { coasting.time with mountTime := 40048500000, judgeSecond := 40048000000 } }
      s.time.timeState = .coast ∧ s.time.judgeSecond + 500000 ≤ s.now ∧
        ∃ r, s.time.regainSecond = some r ∧ r < s.time.judgeSecond :=
  ⟨⟨_, rfl, by decide, by decide⟩, ⟨_, rfl, by decide, by decide⟩,
    ⟨rfl, by decide, rfl, by unfold Enabled; decide⟩, ⟨rfl, by decide, ⟨_, rfl, by decide⟩⟩⟩

/-- COAST_MAX is reached at this whole second. -/
def lastCoast : State :=
  { coasting with
    time := { coasting.time with mountTime := 40045000000, nextSecond := 40045000000, coastSeconds := 119 } }

theorem witness_LinkSecondCloses :
    lastCoast.time.nextSecond ≤ lastCoast.now ∧ lastCoast.conf.life ≠ .strapFault ∧
      lastCoast.time.timeState = .coast ∧ lastCoast.items.coastMax ≤ lastCoast.time.coastSeconds + 1 ∧
      lastCoast.conf.life = .run ∧ lastCoast.hold.causes.time = false ∧ Enabled lastCoast .timeLost ∧
      Room lastCoast 3 ∧
      ({ lastCoast with time := { lastCoast.time with coastSeconds := 118 } } : State).time.coastSeconds + 1 <
        lastCoast.items.coastMax := by
  unfold Enabled Room; decide

theorem witness_LinkSecondCloses_grades :
    let s : State := { running with
      time := { running.time with nextSecond := 50000000000 }
      port := { running.port with erroredMark := true, erroredRun := 4 } }
    let u : State := { running with
      time := { running.time with nextSecond := 50000000000 }
      port := { running.port with linkState := .poor, cleanRun := 9 } }
    s.time.nextSecond ≤ s.now ∧ s.port.erroredMark = true ∧ s.port.erroredRun = 4 ∧ s.port.linkState = .clear ∧
      Enabled s .linkPoor ∧ u.time.nextSecond ≤ u.now ∧ u.port.erroredMark = false ∧ u.port.cleanRun = 9 ∧
      u.port.linkState = .poor ∧ Enabled u .linkClear ∧ u.time.timeState ≠ .coast := by
  unfold Enabled; decide

/-- The ordinary steady state: CLEAR with a clean run of 10, and POOR with an errored run of 5. -/
theorem witness_LinkSecondCloses_stays :
    let s : State := { running with port := { running.port with cleanRun := 10 } }
    let u : State := { running with
      port := { running.port with linkState := .poor, erroredMark := true, erroredRun := 5 } }
    (s.port.linkState = .clear → s.port.erroredMark = false ∨ s.port.erroredRun < 4) ∧
      (s.port.linkState = .poor → s.port.erroredMark = true ∨ s.port.cleanRun < 9) ∧
      (u.port.linkState = .clear → u.port.erroredMark = false ∨ u.port.erroredRun < 4) ∧
      (u.port.linkState = .poor → u.port.erroredMark = true ∨ u.port.cleanRun < 9) := by decide

theorem witness_TimeSetIsHeldPending :
    Passes (.timeSet control (timePayload 281474976)) configured ∧
      Passes (.timeSet control (timePayload 281474977)) configured ∧
      Passes (.timeSet control (timePayload 0)) running :=
  ⟨passes _ _ _ rfl (by decide), passes _ _ _ rfl (by decide), passes _ _ _ rfl (by decide)⟩

theorem configured_ranges : configured.Configured := by
  refine ⟨?_, by decide, ⟨by decide, by decide, by decide⟩, ⟨by decide, by decide, by decide⟩, by decide⟩
  intro i
  cases i
  case addr r => cases r <;> decide
  all_goals decide

theorem witness_ConfigurationKeepsItsRanges :
    configured.Configured ∧
      ∃ t, step { configured with pending := [.configItem control (configPayload 8 900)] } = .next t :=
  ⟨configured_ranges, ⟨_, rfl⟩⟩

theorem witness_ConfigItemIsAdmitted :
    configured.Configured ∧ Passes (.configItem control (configPayload 8 900)) configured ∧
      configured.conf.life ≠ .run ∧ configured.hold.causes.estop = false ∧ itemOfNumber 8 = some .tickPeriod ∧
      Passes (.configItem control (configPayload 38 0)) configured ∧
      Passes (.configItem control (configPayload 0 0)) configured ∧
      itemOfNumber 1 = some (.addr .az) ∧ itemOfNumber 37 = some .eventMask :=
  ⟨configured_ranges, passes _ _ _ rfl (by decide), by decide, by decide, by decide, passes _ _ _ rfl (by decide),
    passes _ _ _ rfl (by decide), by decide, by decide⟩

/-- START meets every check; with TIME persisting it takes the hold at once. -/
def lateCause : State :=
  { configured with hold := { configured.hold with causes := ⟨false, false, false, false, true⟩ } }

theorem witness_StartEntersRun :
    Passes (.start control []) configured ∧ startFails configured = none ∧ configured.hold.causes.any = false ∧
      Passes (.start control []) lateCause ∧ startFails lateCause = none ∧ lateCause.hold.causes.has .time = true ∧
      Room lateCause 5 :=
  ⟨passes _ _ _ rfl (by decide), by decide, by decide, passes _ _ _ rfl (by decide), by decide, by decide,
    by unfold Room; decide⟩

/-- STANDING, as RESTART asks. -/
def standing : State := { observing with traj := { observing.traj with motion := .standing 500000 } }

theorem witness_RestartClearsThePlan :
    Passes (.restart control []) standing ∧ standing.conf.life = .run ∧ motionCode standing.traj.motion ∈ [4, 5] ∧
      standing.axis.driveEnable = true ∧ Passes (.restart control []) observing ∧
      motionCode observing.traj.motion ∉ [4, 5] ∧
      ∃ t, exec (.restart control [])
          { standing with hold := { standing.hold with causes := ⟨true, true, true, false, true⟩ } } = .next t ∧
        t.hold.causes.has .drive = true ∧ t.hold.causes.has .time = true ∧ Room standing 2 :=
  ⟨passes _ _ _ rfl (by decide), by decide, by decide, by decide, passes _ _ _ rfl (by decide), by decide,
    ⟨_, rfl, by decide, by decide, by unfold Room; decide⟩⟩

/-! Ticks. -/

/-- A state's tick falls now. -/
theorem tick_now (s : State)
    (h : s.conf.life ≠ .strapFault ∧ s.time.nextTick ≤ s.now ∧ s.store.current ≠ none) : s.TickNow :=
  ⟨h.1, h.2.1, fun _ => h.2.2⟩

theorem witness_TickSamplesAndCounts :
    strapped.conf.life = .strapFault ∧ strapped.time.nextTick ≤ strapped.now ∧ observing.TickNow :=
  ⟨rfl, by decide, tick_now _ (by decide)⟩

/-- A third failed sample, and a following error beyond FE_TRIP for the tenth time. -/
def failing : State :=
  { observing with axis := { observing.axis with failureCount := 2, tripCount := 9, lastEncoder := 0 } }

theorem witness_TickSamplesAndCounts_raises :
    failing.TickNow ∧ 2 ≤ failing.axis.failureCount ∧ (failing.items.feTrip : Int) < |(500000 : Int) - 0| ∧
      failing.items.feTripCount ≤ failing.axis.tripCount + 1 ∧ failing.conf.life = .run :=
  ⟨tick_now _ (by decide), by decide, by decide, by decide, rfl⟩

theorem witness_TicksWithoutATrack :
    running.TickNow ∧ running.items.softLo ≤ running.items.softHi ∧ 3 ≤ motionCode running.traj.motion ∧
      standing.TickNow ∧ standing.traj.motion = .standing 500000 ∧
      releasing.TickNow ∧ 3 ≤ motionCode releasing.traj.motion :=
  ⟨⟨by decide, by decide, by decide⟩, by decide, by decide, tick_now _ (by decide), rfl, tick_now _ (by decide),
    by decide⟩

theorem witness_TicksWithoutATrack_stop :
    let p : StopProfile := ⟨40000000, 2211840, 50002000000, .ratio 2211840 5529600⟩
    (stopAt 50002100000).TickNow ∧ (stopAt 50002100000).traj.motion = .stopping p ∧ 0 < p.stopTime.den ∧
      0 < (stopAt 50002100000).items.holdDecel ∧ (p.elapsed 50002399000).lt p.stopTime = true ∧
      (p.elapsed 50002400000).lt p.stopTime = false :=
  ⟨tick_now _ (by decide), rfl, by decide, by decide, by decide, by decide⟩

/-- A lag beyond LAG_LIMIT on a target whose dwell runs. -/
def lagging : State :=
  { observing with store := { observing.store with current := some (record 211 .planned 9000000) } }

theorem witness_TrackingTick :
    lagging.TickNow ∧ lagging.store.current = some (record 211 .planned 9000000) ∧ lagging.traj.motion = .tracking ∧
      lagging.items.softLo ≤ lagging.items.softHi ∧
      (lagging.items.lagLimit : Int) < |(9000000 : Int) - (500000 + lagging.traj.stepL)| ∧
      inAbandonPhase lagging = true ∧ (record 211 .planned 9000000).dwellDone = false ∧ lagging.round.abandon = none ∧
      lagging.round.abandonSent = false ∧ 0 < lagging.items.tickPeriod ∧ Room lagging 8 :=
  ⟨tick_now _ (by decide), rfl, rfl, by decide, by decide, by decide, rfl, rfl, rfl, by decide, by unfold Room; decide⟩

/-- The same with an ABANDON sent already: the report is dropped. -/
theorem witness_TrackingTick_drops :
    let s : State := { lagging with round := { lagging.round with abandonSent := true } }
    s.TickNow ∧ (s.items.lagLimit : Int) < |(9000000 : Int) - (500000 + s.traj.stepL)| ∧ s.round.abandonSent ≠ false ∧
      Room s 6 :=
  ⟨tick_now _ (by decide), by decide, by decide, by unfold Room; decide⟩

/-- A guide step that meets the total limit. -/
def saturating : State := { observing with traj := { observing.traj with pendingGuide := 3692, guideApplied := 61428 } }

theorem witness_TrackingTick_saturates :
    saturating.TickNow ∧ saturating.store.current = some (record 211 .planned 500000) ∧
      saturating.traj.saturated = false ∧ clampAbs saturating.items.guideTotalMax (61428 + 102) ≠ 61428 + 102 ∧
      Enabled saturating .guideSaturated ∧ Room saturating 8 :=
  ⟨tick_now _ (by decide), rfl, rfl, by decide, by unfold Enabled; decide, by unfold Room; decide⟩

/-- A profile of 8 s from 49,999 s, and one that ends at this tick with A to come. -/
def slewEnd (duration : Nat) : SlewProfile :=
  ⟨211, 49999000000, 49999000000, 50009490000, 0, 500000, 500000, duration, .ofInt 1⟩
def slewingFor (duration : Nat) : State :=
  { observing with
    round :=
      { observing.round with
        plan := some (.observing .slew), dwell := some ⟨211, 50009490000, 50009490000, 50039490000, false, false⟩ }
    traj := { observing.traj with motion := .slewing (slewEnd duration) } }

theorem witness_SlewingTick :
    (slewingFor 1001000).TickNow ∧ (slewingFor 1001000).traj.motion = .slewing (slewEnd 1001000) ∧
      (slewingFor 1001000).items.softLo ≤ (slewingFor 1001000).items.softHi ∧
      (slewingFor 1001000).time.nextTick < (slewEnd 1001000).finish ∧
      (slewingFor 1000000).TickNow ∧ (slewEnd 1000000).finish ≤ (slewingFor 1000000).time.nextTick ∧
      (slewingFor 1000000).store.current = some (record 211 .planned 500000) ∧
      (slewingFor 1000000).round.plan = some (.observing .slew) ∧ (slewingFor 1000000).round.dwell ≠ none :=
  ⟨tick_now _ (by decide), rfl, by decide, by decide, tick_now _ (by decide), by decide, rfl, rfl, by decide⟩

theorem witness_TickRecordsTheTrace :
    (∀ p ∈ [TracePhase.idle, .armed, .recording, .recordingToFull, .postTrigger 64, .postTrigger 1, .stopped],
        (tracing p [entry]).TickNow ∧ (tracing p [entry]).axis.ring.length ≤ 256 ∧ (tracing p [entry]).axis.phase = p) ∧
      (tracing (.postTrigger 64) [entry]).axis.TraceBounded ∧
      Enabled (tracing .armed [entry]) .traceTriggered ∧ Enabled (tracing .armed [entry]) .traceStopped ∧
      Room (tracing .armed [entry]) 8 := by
  refine ⟨?_, ⟨by decide, fun _ h => by cases h; decide⟩, by unfold Enabled; decide, by unfold Enabled; decide,
    by unfold Room; decide⟩
  intro p _
  exact ⟨tick_now _ ⟨show LifeState.run ≠ .strapFault by decide, Nat.le_refl 50002001000, Option.some_ne_none _⟩,
    show 1 ≤ 256 by decide, rfl⟩

/-- 11.7: the fiftieth tick within the window, and the tick of A. -/
def settling (n arrival : Nat) : State :=
  { observing with
    traj := { observing.traj with motion := .settling, arrival := arrival }
    axis := { observing.axis with settle := some ⟨211, arrival, n, false, false⟩ } }

theorem witness_SettlingAndArrivalAreFound :
    (settling 49 50000000000).TickNow ∧
      (settling 49 50000000000).axis.settle = some ⟨211, 50000000000, 49, false, false⟩ ∧
      (settling 49 50000000000).items.settleCount ≤ 49 + 1 ∧ (settling 49 50000000000).modeAtTick = 2 ∧
      (settling 49 50000000001).modeAtTick = 1 ∧ Enabled (settling 49 50000000000) .settled ∧
      Enabled (settling 49 50000000000) .settleLate ∧ Room (settling 49 50000000000) 8 :=
  ⟨tick_now _ (by decide), rfl, by decide, by decide, by decide, by unfold Enabled; decide, by unfold Enabled; decide,
    by unfold Room; decide⟩

theorem witness_SlewsFollowTheirFormulas :
    0 < items.vmax ∧ 0 < items.amax ∧ 0 < items.tickPeriod ∧ 22118400 * items.amax ≤ items.vmax * items.vmax ∧
      ¬ 22118401 * items.amax ≤ items.vmax * items.vmax ∧
      observing.items.softLo ≤ observing.items.softHi ∧
      chooseWrap items (still 1100000000) 0 0 = none ∧ chooseWrap items (still 500000) 0 0 = some 0 ∧
      0 < observing.items.vmax ∧ 0 < observing.items.amax ∧ 0 < observing.items.tickPeriod ∧
      fixProfile items (still 5) 0 (auxRelease 5 0) = .still 5 ∧
      (match fixProfile items (still 22118400) 0 (auxRelease 0 4000000) with
        | .moving p none => some p.duration
        | _ => none) = some 4000000 := by decide

/-! Holds and the Span port. -/

theorem witness_LinesRaiseAndEndTheirCauses :
    observing.conf.life = .run ∧ observing.hold.causes.has .drive = false ∧ observing.axis.driveEnable = true ∧
      Room observing 1 ∧ configured.conf.life = .config ∧ configured.hold.causes.has .estop = false ∧
      strapped.conf.life = .strapFault := by
  unfold Room; decide

theorem witness_HoldsAreTakenAndRepeated :
    Passes (.hold fromDome [1, 0, 212, 1]) beforeHold ∧ beforeHold.conf.life = .run ∧
      fromDome.sender ≠ beforeHold.conf.straps.address ∧ Passes (.hold ⟨2, 0x3E⟩ [1, 0, 212, 1]) beforeHold ∧
      Passes (.hold ⟨4, 0x04⟩ [1, 0, 212, 1]) configured ∧ configured.conf.life ≠ .run :=
  ⟨passes _ _ _ rfl (by decide), rfl, by decide, passes _ _ _ rfl (by decide), passes _ _ _ rfl (by decide), by decide⟩

theorem witness_HoldsAreTakenAndRepeated_timer :
    let s : State := { observing with hold := ⟨⟨false, true, false, false, true⟩, false, some 50000000000⟩ }
    s.hold.repeatTimer = some 50000000000 ∧ 50000000000 ≤ s.now ∧ s.hold.causes.has .encoder = true ∧
      (∀ y, causeCode y < causeCode .encoder → s.hold.causes.has y = false) ∧ Room s 1 :=
  ⟨rfl, by decide, rfl, fun y => by cases y <;> decide, by unfold Room; decide⟩

theorem witness_AttemptsDeadlinesAndDamage :
    withRoll.conf.life ≠ .strapFault ∧ withRoll.port.attempt = none ∧
      (∃ e, withRoll.port.queue = e :: [] ∧ withRoll.now < e.deadline) ∧
      (∃ a e, attempting.port.attempt = some a ∧ e ∈ attempting.port.queue ∧
        (∀ x ∈ attempting.port.queue, x.id = a.entry ↔ x = e) ∧ a.frame = goRollFrame ∧
        attempting.now < e.deadline ∧ ({ attempting with time := lockedAt 50000040000 } : State).now = e.deadline) ∧
      (∃ a, steppedBack.port.attempt = some a ∧ a.reached = true ∧ ∀ e ∈ steppedBack.port.queue,
        steppedBack.now < e.deadline) ∧
      (let evicted : SpanPort := { attempting.port with queue := [] }
       ∃ a, evicted.attempt = some a ∧ ∀ e ∈ evicted.queue, e.id ≠ a.entry) ∧
      running.now < running.time.nextSecond ∧ lastCoast.time.nextSecond ≤ lastCoast.now :=
  ⟨by decide, rfl, ⟨_, rfl, by decide⟩, ⟨_, _, rfl, List.mem_singleton.2 rfl, by decide, rfl, by decide, rfl⟩,
    ⟨_, rfl, rfl, by decide⟩, ⟨_, rfl, nofun⟩, by decide, by decide⟩

theorem fullQueue_ordered : fullQueue.Ordered := by constructor <;> first | decide | nofun

theorem witness_OffersFollowTheQueueRules :
    fullQueue.Ordered ∧ fullQueue.queue.length = 8 ∧
      (∃ low, fullQueue.queue.getLast? = some low ∧ rankOf ⟨.hold, 4, 0x3E, [1]⟩ < rankOf low.frame ∧
        rankOf low.frame ≤ rankOf ⟨.traceData, 4, 0, [3]⟩) ∧
      (∃ old, fullQueue.queue.find? (fun e => decide (e.frame.cls = .status)) = some old ∧
        ∃ a, ({ fullQueue with attempt := some ⟨old.id, old.frame, 0, false, false⟩ } : SpanPort).attempt = some a ∧
          a.entry = old.id) ∧
      SpanPort.afterReset.Ordered ∧ SpanPort.afterReset.queue.length < 8 :=
  ⟨fullQueue_ordered, by decide, ⟨_, rfl, by decide, by decide⟩, ⟨_, rfl, _, rfl, rfl⟩,
    by constructor <;> first | decide | nofun, by decide⟩

theorem witness_UnknownAndMalformedFrames :
    Passes (.goRoll fromAll [1]) inRound ∧ Passes (.planSeg control []) running ∧
      Passes (.timeSet control [1, 2, 3]) configured ∧ Passes (.configItem control (8 :: [1])) configured ∧
      Passes (.configItem control []) configured ∧ Passes (.planHead control [0]) running ∧
      Passes (.traceSet control [0]) running ∧ Passes (.commandUnknownCode control none []) running ∧
      Passes (.commandUnknownCode control (some ⟨255, by decide⟩) []) running ∧ strapped.conf.life = .strapFault ∧
      (Instr.hold fromDome [1, 0, 0, 1]).frame? ≠ none :=
  ⟨passes _ _ _ rfl (by decide), passes _ _ _ rfl (by decide), passes _ _ _ rfl (by decide),
    passes _ _ _ rfl (by decide), passes _ _ _ rfl (by decide), passes _ _ _ rfl (by decide),
    passes _ _ _ rfl (by decide), passes _ _ _ rfl (by decide), passes _ _ _ rfl (by decide), rfl, by decide⟩

/-! Rounds. -/

theorem witness_ResponseFieldCompletesARoll :
    ∃ x r, asserting.port.reception = some x ∧ x.frame.cls = .roll ∧ x.taken = true ∧
      (∀ y, asserting.items.addr.get y ≠ 15 → (0x001A : BitVec 15).getLsbD (asserting.items.addr.get y) = true ∨
        asserting.items.addr.get y = asserting.conf.straps.address.toNat) ∧
      readCall x.frame.payload = some ⟨50000000000, 212, 0, 9450000⟩ ∧ asserting.round.plan = some (.inRound r) ∧
      x.round = some r.number :=
  ⟨_, _, rfl, rfl, rfl, fun y => by cases y <;> decide, by decide, rfl, rfl⟩

theorem witness_RollsAreAsserted :
    Passes (.goRoll fromAll (call 0 4100000)) inRound ∧ Passes (.skipRoll fromAll (call 1 0)) inRound ∧
      inRound.round.plan = some (.inRound elRound) ∧ elRound.verdict = .go ∧ elRound.ownD ≤ 4100000 ∧
      inRound.now < elRound.epoch + inRound.items.tAgree ∧ Passes (.goRoll fromAll (call 0 4100000)) running ∧
      roundOf running = none :=
  ⟨passes _ _ _ rfl (by decide), passes _ _ _ rfl (by decide), rfl, rfl, by decide, by decide,
    passes _ _ _ rfl (by decide), rfl⟩

theorem witness_ProposesAndAbandonsAreTaken :
    Passes (.propose fromDome (call 1 0)) inRound ∧ inRound.round.plan = some (.inRound elRound) ∧
      inRound.now ≤ elRound.epoch + inRound.items.tPropose ∧ elRound.outcome = none ∧
      Passes (.abandon fromAz (abandonPayload ⟨211, 50000000001, 1⟩)) observing ∧ inAbandonPhase observing = true ∧
      observing.now < 50000000001 ∧ observing.store.current = some (record 211 .planned 500000) ∧
      observing.round.abandon = none :=
  ⟨passes _ _ _ rfl (by decide), rfl, by decide, rfl, passes _ _ _ rfl (by decide), by decide, by decide, rfl, rfl⟩

theorem witness_GuideAndOffsetAreTaken :
    Passes (.guide guider (guidePayload ⟨211, 0x04, 0, 5121, 0⟩)) observing ∧
      (∃ r, observing.store.current = some r ∧ r.seq = 211) ∧ observing.round.plan = some (.observing .dwell) ∧
      motionCode observing.traj.motion ∈ [1, 2] ∧ observing.items.guideEnable = 1 ∧ observing.ownRole = some .el ∧
      Enabled observing .guideClipped ∧ Room observing 1 ∧
      Passes (.offset control (2 :: bytesOfInt 4 (-3686400))) observing ∧ planCode observing.round.plan = 3 :=
  ⟨passes _ _ _ rfl (by decide), ⟨_, rfl, rfl⟩, rfl, by decide, rfl, rfl, by unfold Enabled; decide,
    by unfold Room; decide, passes _ _ _ rfl (by decide), rfl⟩

/-! The night plan. -/

/-- The header of 4.5 finds exactly its count free. -/
def lastFree : State := { running with store := { PlanStore.afterReset with free := 3, lastAppended := 303 } }

theorem witness_HeaderOpensAnIntake :
    kindOfCode head304.kind = some .planned ∧ lastFree.AdmitsHeader (headerOf head304 .planned) ∧
      lastFree.ownRole = some .el ∧ Passes (.planHead control (headPayload head304)) lastFree := by
  refine ⟨rfl, ⟨?_, rfl, rfl, rfl, fun h => absurd h (by decide), by decide, by decide, by decide, by decide, by decide,
    ?_, by decide, ?_⟩, rfl, passes _ _ _ rfl (by decide)⟩ <;> intro r <;> cases r <;> decide

theorem witness_HeaderWhileAnIntakeIsOpen :
    (∀ r, head304.counts.get r ≤ 6) ∧ taking.conf.life = .run ∧ taking.hold.causes.estop = false ∧
      (∃ i, taking.store.intake = some i ∧ i.header = headerOf head304 .planned ∧
        i.header ≠ headerOf { head304 with seq := 310 } .planned) ∧
      Passes (.planHead control (headPayload head304)) taking ∧
      Passes (.planHead control (headPayload { head304 with seq := 310 })) taking :=
  ⟨fun r => by cases r <;> decide, rfl, rfl, ⟨_, rfl, rfl, by decide⟩, passes _ _ _ rfl (by decide),
    passes _ _ _ rfl (by decide)⟩

theorem witness_HeadersAreCheckedInOrder :
    Passes (.planHead control (headPayload head304)) lastFree ∧ (∀ r, head304.counts.get r < 2 ^ 8) ∧
      lastFree.store.intake = none ∧ lastFree.ownRole = some .el ∧
      ({ lastFree with store := { lastFree.store with free := 2 } } : State).store.free < head304.counts.get .el :=
  ⟨passes _ _ _ rfl (by decide), fun r => by cases r <;> decide, rfl, rfl, by decide⟩

theorem witness_SegmentsBuildTheRecord :
    let g := seg304 2 60050000000 40000000
    Passes (.planSeg control (segPayload g)) taking ∧ taking.hold.causes.estop = false ∧
      ∃ i, taking.store.intake = some i ∧ g.seq = i.header.seq ∧ g.index = i.nextExpected ∧
        i.reserved ≤ i.nextExpected + 1 ∧ SegmentsFit i.header (i.segments ++ [g.segment]) ∧
        ¬SegmentsFit i.header (i.segments ++ [(seg304 2 60050001000 40000000).segment]) ∧
        Enabled taking .planTaken ∧ Room taking 1 := by
  refine ⟨passes _ _ _ rfl (by decide), rfl, _, rfl, rfl, rfl, by decide, ?_, ?_, by unfold Enabled; decide,
    by unfold Room; decide⟩
  · refine ⟨by decide, ?_, ?_⟩ <;> intro f h <;> cases h <;> decide
  · exact fun h => absurd h.1 (by decide)

/-- The record of seq 212 is the last one committed. -/
theorem witness_SegmentsBuildTheRecord_repeat :
    observing.store.intake = none ∧ observing.store.Ordered ∧
      ∃ r ∈ observing.store.queue, r.seq = observing.store.lastCommitted ∧ r.track.segments.length = 0 + 1 ∧
        r.track.segments.getLast? = some ⟨49990000000, 100000000, 40000000, 0, 0, 0⟩ :=
  ⟨rfl, observing_ordered, _, List.mem_singleton.2 rfl, rfl, rfl, rfl⟩

theorem witness_PlansAreClearedAndIntakesExpire :
    Passes (.planClear control []) observing ∧ planCode observing.round.plan ∈ [0, 3, 4, 5] ∧
      Passes (.planClear control []) inRound ∧ planCode inRound.round.plan ∉ [0, 3, 4, 5] ∧
      (∃ i, taking.store.intake = some i ∧
        i.start + taking.items.intakeTimeout ≤ ({ taking with time := lockedAt 50000249000 } : State).now) ∧
      Enabled taking .intakeTimeout ∧ Room taking 1 :=
  ⟨passes _ _ _ rfl (by decide), by decide, passes _ _ _ rfl (by decide), by decide, ⟨_, rfl, by decide⟩,
    by unfold Enabled; decide, by unfold Room; decide⟩

/-! Commands and instants. -/

theorem witness_TriggerCommandsAreTaken :
    Passes (.go control (bytesOfNat 6 50000000001)) running ∧ running.now < 50000000001 ∧
      0 < running.items.tickPeriod ∧ planCode running.round.plan ∈ [0, 4] ∧
      Passes (.go control (bytesOfNat 6 50000000000)) running ∧
      Passes (.breakIn control (bytesOfNat 6 50000000001)) running ∧ running.store.excursion = none ∧
      Passes (.returnTo control (bytesOfNat 6 50000000001)) observing :=
  ⟨passes _ _ _ rfl (by decide), by decide, by decide, by decide, passes _ _ _ rfl (by decide),
    passes _ _ _ rfl (by decide), rfl, passes _ _ _ rfl (by decide)⟩

theorem witness_ReportsAnswerTheirRequests :
    Passes (.statusReq control [0]) observing ∧ Passes (.statusReq control [1]) observing ∧
      Passes (.statusReq control [2]) observing ∧ Room observing 1 ∧ observing.axis.lastSetpoint = some 500000 ∧
      Passes (.traceSet control (3 :: (bytesOfNat 2 (1024#16).toNat ++ bytesOfNat 2 (1024#16).toNat ++ [1]))) running ∧
      Passes (.traceRead control [0, 1]) (tracing .stopped [entry]) ∧ Room (tracing .stopped [entry]) 4 ∧
      (tracing .stopped [entry]).axis.ring[0]? = some entry :=
  ⟨passes _ _ _ rfl (by decide), passes _ _ _ rfl (by decide), passes _ _ _ rfl (by decide), by unfold Room; decide,
    rfl, passes _ _ _ rfl (by decide), passes _ _ _ rfl (by decide), by unfold Room; decide, rfl⟩

theorem witness_RoundsStartAtTheirEpochs :
    (∃ d, dwellOver.round.dwell = some d ∧ d.dwellEnd ≤ dwellOver.now ∧
      dwellOver.store.choice .ordinary = some (record 211 .planned 500000)) ∧
      dwellOver.round.plan = some (.observing .dwell) ∧ Enabled dwellOver .dwellEnd ∧ Room dwellOver 3 ∧
      ¬dwellOver.Barred ∧ State.Barred { dwellOver with time := { dwellOver.time with timeState := .lost } } ∧
      dwellOver.now < 50000000000 + dwellOver.items.tPropose ∧
      50000000000 + dwellOver.items.tAgree ≤ (record 212 .planned 40000000).header.windowClose := by
  refine ⟨⟨_, rfl, by decide, by decide⟩, rfl, by unfold Enabled; decide, by unfold Room; decide,
    by unfold State.Barred; decide, .inr (.inr rfl), by decide, by decide⟩

/-- The window of the excursion of a BREAK round has closed; the ordinary repeat re-acquires the current record. -/
theorem witness_RoundsStartAtTheirEpochs_closed :
    let closed : Record := { record 900 .excursion 0 with
      header := { (record 900 .excursion 0).header with windowClose := 50000000000 } }
    let s : State := { observing with
      round := { observing.round with trigger := some ⟨.breakIn, 50000000000⟩ }
      store := { observing.store with excursion := some closed } }
    s.store.choice .breakRound = some closed ∧ closed.header.windowClose < 50000000000 + s.items.tAgree ∧
      s.store.choice .ordinary = some (record 211 .planned 500000) ∧ Enabled s .skipped ∧ Room s (1 + 3) ∧
      after .pendingTriggerEpoch s (fun t => (t.store.excursion, (roundOf t).map RoundRecord.selected, (sent t).length)) =
        some (none, some (some 211), 2) :=
  ⟨rfl, by decide, rfl, by unfold Enabled; decide, by unfold Room; decide, by decide +kernel⟩

theorem witness_RoundsStartAtTheirEpochs_commanded :
    let s : State := { running with round := { running.round with trigger := some ⟨.go, 50000000000⟩ } }
    let u : State := { observing with round := { observing.round with abandon := some ⟨211, 50000000000, .limit⟩ } }
    s.round.trigger = some ⟨.go, 50000000000⟩ ∧ 50000000000 ≤ s.now ∧
      u.round.abandon = some ⟨211, 50000000000, .limit⟩ ∧ 50000000000 ≤ u.now ∧ Enabled u .abandoned ∧ Room u 3 :=
  ⟨rfl, by decide, rfl, by decide, by unfold Enabled; decide, by unfold Room; decide⟩

theorem witness_OutcomeIsFormed :
    ∃ r, allHeard.round.plan = some (.inRound r) ∧ r.outcome = none ∧
      r.epoch + allHeard.items.tPropose ≤ allHeard.now ∧ r.selected = some 212 ∧
      (∀ x, allHeard.items.addr.get x ≠ 15 → ∃ d, r.heard.get x = some ⟨212, .go, d⟩) ∧ Room allHeard 1 ∧
      allHeard.now < r.epoch + allHeard.items.tAgree :=
  ⟨_, rfl, rfl, by decide, rfl,
    fun x h => by cases x <;> first | exact ⟨_, rfl⟩ | exact absurd rfl h, by unfold Room; decide, by decide⟩

theorem witness_RoundResultIsTaken :
    ∃ r, atS.round.plan = some (.scheduled r) ∧ r.epoch + atS.items.tAgree ≤ atS.now ∧ r.completeSkip = false ∧
      r.completeGo = some 9450000 ∧ r.selected = some 212 ∧ atS.store.find 212 = some (record 212 .planned 40000000) ∧
      r.epoch + atS.items.tAgree + 9450000 ≤ (record 212 .planned 40000000).header.windowClose ∧
      atS.store.Ordered ∧ Enabled atS .agreed ∧ Room atS 3 ∧ atS.axis.lastSetpoint ≠ none ∧
      motionCode atS.traj.motion ≤ 4 ∧
      5 ≤ motionCode ({ atS with traj := { atS.traj with motion := .braked } } : State).traj.motion :=
  ⟨_, rfl, by decide, rfl, rfl, rfl, by decide, by decide, observing_ordered, by unfold Enabled; decide,
    by unfold Room; decide, by decide, by decide, by decide⟩

theorem witness_RoundResultIsTaken_stall :
    ∃ r, inRound.round.plan = some (.inRound r) ∧
      r.epoch + inRound.items.tAgree ≤ ({ inRound with time := lockedAt 50000040000 } : State).now ∧
      r.completeSkip = false ∧ r.completeGo = none ∧ r.selected ≠ none ∧ inRound.items.addr.get .az ≠ 15 ∧
      r.heard.get .az = none :=
  ⟨_, rfl, by decide, rfl, rfl, by decide, by decide, rfl⟩

theorem witness_BrakeExpiryFixesTheProfile :
    (∃ r, releasing.axis.brakeTimer = some 50000000000 ∧ 50000000000 ≤ releasing.now ∧
      releasing.traj.motion = .releasing r ∧ r.motionStart = 50000000000) ∧
      releasing.store.current = some (record 211 .planned 22118400) ∧
      ∃ r, ({ observing with axis := releasing.axis } : State).traj.motion = r ∧ motionCode r ≠ 6 :=
  ⟨⟨_, rfl, by decide, rfl, rfl⟩, rfl, ⟨_, rfl, by decide⟩⟩

/-- A track that stands at p0 leaves no distance. -/
theorem witness_BrakeExpiryFixesTheProfile_still :
    let s : State := { releasing with
      store := { releasing.store with current := some (record 211 .planned 0) }
      round := { releasing.round with plan := some (.observing .slew) } }
    ∃ r d, s.traj.motion = .releasing r ∧
      fixProfile s.items (record 211 .planned 0).track s.traj.wrapOffset r = .still 0 ∧ s.round.dwell = some d ∧
      d.started = false ∧ r.motionStart < d.arrival :=
  ⟨_, _, rfl, by decide, rfl, rfl, by decide⟩

theorem witness_DwellInstantsMoveThePhase :
    let s : State := { observing with
      round :=
        { observing.round with
          plan := some (.observing .settle), dwell := some ⟨211, 50000000000, 50000000000, 50030000000, true, false⟩ } }
    ∃ d, s.round.dwell = some d ∧ s.round.plan = some (.observing .settle) ∧ d.arrival ≤ s.now ∧ d.started = false ∧
      d.dwellStart ≤ s.now ∧ Enabled s .dwellStart ∧ Room s 1 :=
  ⟨_, rfl, rfl, by decide, rfl, by decide, by unfold Enabled; decide, by unfold Room; decide⟩

end Sys2Proof.Tests
end

section
/-! Mount time and the queue of commands: what each command leaves of the clock (R1, R4, R10 to R12), and hence O10, O4,
O3 and O1. -/

namespace Sys2Proof.Machine

/-- What a command that has no part in the clock leaves alone: the time base, the life state, the queue. -/
structure ClockKept (s t : State) : Prop where
  time : t.time = s.time
  life : t.conf.life = s.conf.life
  pending : t.pending = s.pending

theorem ClockKept.refl (s : State) : ClockKept s s := ⟨rfl, rfl, rfl⟩

theorem ClockKept.trans {s t u : State} (h : ClockKept s t) (k : ClockKept t u) : ClockKept s u :=
  ⟨k.time.trans h.time, k.life.trans h.life, k.pending.trans h.pending⟩

theorem ClockKept.of_next {s t n : State} (k : ClockKept s n)
    (h : (.next n : Host.Outcome State Fault Refusal) = .next t) : ClockKept s t := by
  cases h; exact k

@[simp] theorem refuse_life (r : Reason) (k : FrameClass) (third : Nat) (e : EventKind) (q : Nat) (s : State) :
    (refuse r k third e q s).conf.life = s.conf.life := by
  simp [refuse]

@[simp] theorem refuseCommand_life (r : Reason) (k : FrameClass) (third : Nat) (s : State) :
    (refuseCommand r k third s).conf.life = s.conf.life := by
  simp [refuseCommand]

theorem refuse_clockKept (r : Reason) (k : FrameClass) (third : Nat) (e : EventKind) (q : Nat) (s : State) :
    ClockKept s (refuse r k third e q s) := ⟨by simp, by simp, by simp⟩

theorem refuseCommand_clockKept (r : Reason) (k : FrameClass) (third : Nat) (s : State) :
    ClockKept s (refuseCommand r k third s) := refuse_clockKept ..


theorem raiseCause_clockKept (c : Cause) (s : State) : ClockKept s (raiseCause c s) := ⟨by simp, by simp, by simp⟩

theorem endCause_clockKept (c : Cause) (s : State) : ClockKept s (endCause c s) := ⟨by simp, by simp, by simp⟩

theorem withPins_clockKept (p : Pins) (s : State) : ClockKept s (s.withPins p) := ⟨rfl, rfl, rfl⟩

@[simp] theorem leave_state (s : State) : (leave s).state = s := rfl
@[simp] theorem take_state (s : State) : (take s).state = s := rfl
@[simp] theorem refused_state (r : Reason) (code : Nat) (s : State) :
    (refused r code s).state = refuseCommand r .command code s := rfl
@[simp] theorem refuseHead_state (r : Reason) (q : Nat) (s : State) :
    (refuseHead r q s).state = refuse r .planHead 255 .planRefused q s := rfl

/-! ### Frames heard -/

/-- A frame heard has no part in the clock when its owner's decision has none. -/
theorem hear_clockKept {k : FrameClass} {o : Origin} {p : List Byte} {owner : State → Judged} {s : State}
    (h : ClockKept s (owner s).state) : ClockKept s (hear k o p owner s) := by
  simp only [hear]
  split
  · exact .refl s
  · split
    · exact ⟨h.time, h.life, h.pending⟩
    · exact ⟨rfl, rfl, rfl⟩

theorem hearCommand_clockKept {code len : Nat} {o : Origin} {args : List Byte} {owner : State → Judged} {s : State}
    (h : ClockKept s (owner s).state) : ClockKept s (hearCommand code len o args owner s) := by
  refine hear_clockKept ?_
  split
  · exact h
  · exact refuseCommand_clockKept ..

theorem gateEstop_clockKept {code : Nat} {owner : State → Judged} {s : State} (h : ClockKept s (owner s).state) :
    ClockKept s (gateEstop code owner s).state := by
  simp only [gateEstop]
  split
  · exact refuseCommand_clockKept ..
  · exact h

theorem withEpoch_clockKept {code : Nat} {args : List Byte} {owner : Nat → State → Judged} {s : State}
    (h : ∀ e, ClockKept s (owner e s).state) : ClockKept s (withEpoch code args owner s).state := by
  simp only [withEpoch]
  split
  · exact refuseCommand_clockKept ..
  · exact gateEstop_clockKept (h _)

/-! ### The owners' decisions -/

theorem judgeHold_clockKept (o : Origin) (p : List Byte) (s : State) : ClockKept s (judgeHold o p s).state := by
  simp only [judgeHold]
  (repeat' split) <;> exact ⟨by simp, by simp, by simp⟩

theorem judgeRoll_clockKept (p : List Byte) (s : State) : ClockKept s (judgeRoll p s).state := by
  simp only [judgeRoll, judgeGoRoll, judgeSkipRoll]
  (repeat' split) <;> exact ⟨by simp, by simp, by simp⟩

theorem judgePropose_clockKept (o : Origin) (p : List Byte) (s : State) : ClockKept s (judgePropose o p s).state := by
  simp only [judgePropose]
  (repeat' split) <;> exact ⟨by simp, by simp, by simp⟩

theorem judgeAbandon_clockKept (p : List Byte) (s : State) : ClockKept s (judgeAbandon p s).state := by
  simp only [judgeAbandon]
  (repeat' split) <;> exact ⟨by simp, by simp, by simp⟩

theorem takeGuide_clockKept (x : Int) (s : State) : ClockKept s (takeGuide x s) := by
  simp only [takeGuide, reportClip]
  split <;> exact ⟨by simp, by simp, by simp⟩

theorem judgeGuide_clockKept (p : List Byte) (s : State) : ClockKept s (judgeGuide p s).state := by
  simp only [judgeGuide]
  (repeat' split)
  any_goals exact .refl s
  exact takeGuide_clockKept ..

theorem judgeHeader_clockKept (h : Header) (s : State) : ClockKept s (judgeHeader h s).state := by
  simp only [judgeHeader, takeHeader]
  (repeat' split) <;> exact ⟨by simp, by simp, by simp⟩

theorem judgePlanHead_clockKept (p : List Byte) (s : State) : ClockKept s (judgePlanHead p s).state := by
  simp only [judgePlanHead]
  (repeat' split)
  any_goals exact refuse_clockKept ..
  exact judgeHeader_clockKept ..

theorem finishIntake_clockKept (i : Intake) (g : SegFields) (s : State) : ClockKept s (finishIntake i g s).state := by
  simp only [finishIntake]
  split <;> exact ⟨by simp, by simp, by simp⟩

theorem judgePlanSeg_clockKept (p : List Byte) (s : State) : ClockKept s (judgePlanSeg p s).state := by
  simp only [judgePlanSeg, judgeOpenSegment]
  (repeat' split)
  any_goals exact .refl s
  · exact ⟨rfl, rfl, rfl⟩
  · exact finishIntake_clockKept ..

theorem judgeGo_clockKept (e : Nat) (s : State) : ClockKept s (judgeGo e s).state := by
  simp only [judgeGo]
  split <;> exact ⟨by simp, by simp, by simp⟩

theorem judgeBreak_clockKept (e : Nat) (s : State) : ClockKept s (judgeBreak e s).state := by
  simp only [judgeBreak]
  split <;> exact ⟨by simp, by simp, by simp⟩

theorem judgeReturn_clockKept (e : Nat) (s : State) : ClockKept s (judgeReturn e s).state := by
  simp only [judgeReturn]
  split <;> exact ⟨by simp, by simp, by simp⟩

theorem addressOffset_clockKept (args : List Byte) (s : State) : ClockKept s (addressOffset args s).state := by
  simp only [addressOffset]
  (repeat' split)
  · exact refuseCommand_clockKept ..
  · refine gateEstop_clockKept ?_
    simp only [judgeOffset, commandOffset]
    split <;> exact ⟨by simp, by simp, by simp⟩
  · exact .refl s

theorem judgePlanClear_clockKept (s : State) : ClockKept s (judgePlanClear s).state := by
  simp only [judgePlanClear]
  split <;> exact ⟨by simp, by simp, by simp⟩

theorem judgeRestart_clockKept (s : State) : ClockKept s (judgeRestart s).state := by
  simp only [judgeRestart, takeRestart, clearedBlocks]
  split <;> exact ⟨by simp, by simp, by simp⟩

theorem judgeStatusReq_clockKept (args : List Byte) (s : State) : ClockKept s (judgeStatusReq args s).state := by
  simp only [judgeStatusReq, sendStatus]
  (repeat' split) <;> exact ⟨by simp, by simp, by simp⟩

theorem judgeTraceSet_clockKept (args : List Byte) (s : State) : ClockKept s (judgeTraceSet args s).state := by
  simp only [judgeTraceSet]
  split
  · exact refuseCommand_clockKept ..
  · exact gateEstop_clockKept ⟨rfl, rfl, rfl⟩

theorem sendTraceData_clockKept (l : List (TraceEntry × Nat)) (s : State) :
    ClockKept s (l.foldl sendTraceData s) := by
  induction l generalizing s with
  | nil => exact .refl s
  | cons e l ih =>
    have one : ClockKept s (sendTraceData s e) := by
      simp only [sendTraceData]
      exact ⟨by simp, by simp, by simp⟩
    exact one.trans (ih _)

theorem judgeTraceRead_clockKept (args : List Byte) (s : State) : ClockKept s (judgeTraceRead args s).state := by
  simp only [judgeTraceRead]
  (repeat' split)
  any_goals exact refuseCommand_clockKept ..
  exact sendTraceData_clockKept ..

theorem completeRoll_clockKept (x : Reception) (b : BitVec 15) (s : State) : ClockKept s (completeRoll x b s) := by
  simp only [completeRoll, recordGo, recordSkip]
  (repeat' split) <;> exact ⟨by simp, by simp, by simp⟩

/-! ### The commands -/

/-- The commands that act on the clock: the rows of the time base, those that close a link second or take a tick, and
those that change the life state or the configuration. -/
def actsOnClock : Instr → Bool
  | .hardReset _ _ | .ppsEdge | .unitCorrection | .correctionSecondEnd | .expectedSecondJudgement | .regainRunMiss
  | .linkSecondClose | .servoTick _ | .damagedFrame _ | .timeSet _ _ | .configItem _ _ | .start _ _ => true
  | _ => false

theorem execRoundResult_clockKept {s t : State} (h : execRoundResult s = .next t) : ClockKept s t := by
  simp only [execRoundResult, roundResult] at h
  (repeat' split at h)
  any_goals exact ClockKept.of_next ⟨by simp, by simp, by simp⟩ h
  cases h

theorem execBrakeTimerExpiry_clockKept {s t : State} (h : execBrakeTimerExpiry s = .next t) : ClockKept s t := by
  simp only [execBrakeTimerExpiry, expireBrake] at h
  (repeat' split at h)
  any_goals exact ClockKept.of_next ⟨by simp, by simp, by simp⟩ h
  cases h

/-- Every other command leaves the time base, the life state and the queue alone. -/
theorem exec_clockKept {c : Instr} {s t : State} (hc : actsOnClock c = false) (h : exec c s = .next t) :
    ClockKept s t := by
  cases c
  case hold => exact .of_next (hear_clockKept (judgeHold_clockKept ..)) h
  case goRoll => exact .of_next (hear_clockKept (judgeRoll_clockKept ..)) h
  case skipRoll => exact .of_next (hear_clockKept (judgeRoll_clockKept ..)) h
  case propose => exact .of_next (hear_clockKept (judgePropose_clockKept ..)) h
  case abandon => exact .of_next (hear_clockKept (judgeAbandon_clockKept ..)) h
  case guide => exact .of_next (hear_clockKept (judgeGuide_clockKept ..)) h
  case planHead => exact .of_next (hear_clockKept (judgePlanHead_clockKept ..)) h
  case planSeg => exact .of_next (hear_clockKept (judgePlanSeg_clockKept ..)) h
  case unknownClassFrame => exact .of_next (hear_clockKept (.refl s)) h
  case reportFrameHeard => exact .of_next (hear_clockKept (.refl s)) h
  case commandUnknownCode => exact .of_next (hear_clockKept (refuseCommand_clockKept ..)) h
  case go => exact .of_next (hearCommand_clockKept (withEpoch_clockKept fun e => judgeGo_clockKept e s)) h
  case breakIn => exact .of_next (hearCommand_clockKept (withEpoch_clockKept fun e => judgeBreak_clockKept e s)) h
  case returnTo => exact .of_next (hearCommand_clockKept (withEpoch_clockKept fun e => judgeReturn_clockKept e s)) h
  case offset => exact .of_next (hearCommand_clockKept (addressOffset_clockKept ..)) h
  case planClear => exact .of_next (hearCommand_clockKept (gateEstop_clockKept (judgePlanClear_clockKept s))) h
  case restart => exact .of_next (hearCommand_clockKept (gateEstop_clockKept (judgeRestart_clockKept s))) h
  case statusReq => exact .of_next (hearCommand_clockKept (judgeStatusReq_clockKept ..)) h
  case traceSet => exact .of_next (hearCommand_clockKept (judgeTraceSet_clockKept ..)) h
  case traceRead => exact .of_next (hearCommand_clockKept (judgeTraceRead_clockKept ..)) h
  case responseFieldReport =>
    refine .of_next ?_ h
    split
    · have k := completeRoll_clockKept
      exact ⟨(k ..).time, (k ..).life, (k ..).pending⟩
    · exact .refl s
  case roundResult => exact execRoundResult_clockKept h
  case brakeTimerExpiry => exact execBrakeTimerExpiry_clockKept h
  case driveFaultAsserted => exact .of_next ((withPins_clockKept ..).trans (raiseCause_clockKept ..)) h
  case driveFaultDeasserted => exact .of_next ((withPins_clockKept ..).trans (endCause_clockKept ..)) h
  case emergencyStopAsserted => exact .of_next ((withPins_clockKept ..).trans (raiseCause_clockKept ..)) h
  case emergencyStopDeasserted => exact .of_next ((withPins_clockKept ..).trans (endCause_clockKept ..)) h
  case holdRepeat =>
    refine .of_next ?_ h
    simp only [repeatHold]
    (repeat' split) <;> exact ⟨by simp, by simp, by simp⟩
  case attemptStart =>
    refine .of_next ?_ h
    split <;> exact ⟨rfl, rfl, rfl⟩
  case attemptEnd =>
    refine .of_next ?_ h
    split <;> exact ⟨rfl, rfl, rfl⟩
  case txDeadline =>
    exact .of_next (n := s.withPort (s.port.expire s.now)) ⟨rfl, rfl, rfl⟩ h
  case intakeTimeout =>
    refine .of_next ?_ h
    simp only [expireIntake]
    (repeat' split) <;> exact ⟨by simp, by simp, by simp⟩
  case pendingTriggerEpoch =>
    refine .of_next ?_ h
    split <;> exact ⟨by simp, by simp, by simp⟩
  case ownOutcome =>
    refine .of_next ?_ h
    split <;> exact ⟨by simp, by simp, by simp⟩
  case arrival =>
    refine .of_next ?_ h
    split <;> exact ⟨by simp, by simp, by simp⟩
  case dwellStart =>
    refine .of_next ?_ h
    split <;> exact ⟨by simp, by simp, by simp⟩
  case dwellEnd =>
    refine .of_next ?_ h
    split <;> exact ⟨by simp, by simp, by simp⟩
  case abandonEpoch =>
    refine .of_next ?_ h
    split <;> exact ⟨by simp, by simp, by simp⟩
  all_goals cases hc


/-! ### The commands that act on the clock -/

@[simp] theorem hear_pending (k : FrameClass) (o : Origin) (p : List Byte) (owner : State → Judged) (s : State)
    (h : (owner s).state.pending = s.pending) : (hear k o p owner s).pending = s.pending := by
  simp only [hear]
  (repeat' split) <;> simp [h]

theorem judgeTimeSet_pending (p : List Byte) (s : State) : (judgeTimeSet p s).state.pending = s.pending := by
  simp only [judgeTimeSet]
  (repeat' split) <;> simp

theorem judgeConfig_pending (p : List Byte) (s : State) : (judgeConfig p s).state.pending = s.pending := by
  simp only [judgeConfig, takeItem]
  (repeat' split) <;> simp

theorem judgeStart_pending (s : State) : (gateEstop 1 judgeStart s).state.pending = s.pending := by
  simp only [gateEstop, judgeStart, takeStart]
  (repeat' split) <;> simp

@[simp] theorem lockFromFree_pending (s : State) : (lockFromFree s).pending = s.pending := by
  simp [lockFromFree]

@[simp] theorem regainLock_pending (s : State) : (regainLock s).pending = s.pending := by
  simp [regainLock]

theorem edgeByState_pending (s : State) : (edgeByState s).pending = s.pending := by
  simp only [edgeByState, edgeFree, edgeLocked, edgeRegain, applySet, correctAt]
  (repeat' split) <;> simp

theorem judgeExpected_pending (s : State) : (judgeExpected s).pending = s.pending := by
  simp only [judgeExpected, enterCoast]
  (repeat' split) <;> simp

theorem execServoTick_pending {r : EncoderReply} {s t : State} (h : execServoTick r s = .next t) :
    t.pending = s.pending := by
  simp only [execServoTick, tickAt] at h
  split at h
  · split at h
    · cases h; simp
    · split at h
      · rename_i n hn
        cases h; simp [liveTick_pending _ _ _ _ hn]
      · cases h
  · cases h; rfl

/-- R1 (log 1): no command reaches the queue. -/
theorem exec_pending {c : Instr} {s t : State} (h : exec c s = .next t) : t.pending = s.pending := by
  cases hc : actsOnClock c
  · exact (exec_clockKept hc h).pending
  cases c <;> simp only [actsOnClock, reduceCtorEq] at hc
  case hardReset => cases h; rfl
  case ppsEdge => cases h; exact edgeByState_pending s
  case unitCorrection => cases h; split <;> rfl
  case correctionSecondEnd => cases h; split <;> rfl
  case expectedSecondJudgement => cases h; split; exacts [judgeExpected_pending s, rfl]
  case regainRunMiss => cases h; split <;> rfl
  case linkSecondClose => cases h; split; exacts [closeSecond_pending s, rfl]
  case servoTick => exact execServoTick_pending h
  case damagedFrame =>
    cases h
    simp only [hearDamage]
    (repeat' split) <;> simp
  case timeSet => cases h; exact hear_pending _ _ _ _ _ (judgeTimeSet_pending ..)
  case configItem => cases h; exact hear_pending _ _ _ _ _ (judgeConfig_pending ..)
  case start =>
    cases h
    refine hear_pending _ _ _ _ _ ?_
    split
    · exact judgeStart_pending s
    · simp


/-! ### Mount time under the commands -/

/-- What a command that neither steps nor advances mount time leaves of the clock. -/
structure ClockHeld (s t : State) : Prop where
  now : t.now = s.now
  locked : s.time.timeState ≠ .free → t.time.timeState ≠ .free
  pendingSet : t.time.pendingSet = s.time.pendingSet
  life : t.conf.life = s.conf.life

/-- What a step keeps of mount time (R1, R4, R12). -/
structure ClockGoes (s t : State) : Prop where
  timed : t.Timed
  onward : s.conf.life = .run → s.now ≤ t.now ∧ t.now ≤ s.now + 2

theorem ClockKept.held {s t : State} (k : ClockKept s t) : ClockHeld s t where
  now := by simp [State.now, k.time]
  locked := by simp [k.time]
  pendingSet := by simp [k.time]
  life := k.life

theorem ClockHeld.goes {s t : State} (k : ClockHeld s t) (h : s.Timed) : ClockGoes s t where
  timed :=
    { range := k.now.trans_le h.range
      noStep := fun hr =>
        have hs := h.noStep (k.life ▸ hr)
        ⟨k.locked hs.1, k.pendingSet.trans hs.2⟩ }
  onward := fun _ => by simp [k.now]

theorem ClockHeld.refl (s : State) : ClockHeld s s := (ClockKept.refl s).held

theorem ClockHeld.trans {s t u : State} (h : ClockHeld s t) (k : ClockHeld t u) : ClockHeld s u :=
  ⟨k.now.trans h.now, fun hs => k.locked (h.locked hs), k.pendingSet.trans h.pendingSet, k.life.trans h.life⟩

theorem coastSecond_held (s : State) : ClockHeld s (coastSecond s) := by
  simp only [coastSecond, enterLost]
  (repeat' split) <;> exact ⟨by simp [State.now], by simp, by simp, by simp⟩

theorem closeSecond_held (s : State) : ClockHeld s (closeSecond s) :=
  .trans ⟨by simp [State.now], by simp, by simp, by simp⟩ (coastSecond_held _)

theorem judgeExpected_held (s : State) : ClockHeld s (judgeExpected s) := by
  simp only [judgeExpected, enterCoast]
  (repeat' split) <;> exact ⟨by simp [State.now], by simp, by simp, by simp⟩

theorem checkRegain_held (s : State) : ClockHeld s (s.withTime (checkRegain s.time)) := by
  simp only [checkRegain]
  split <;> exact ⟨rfl, id, rfl, rfl⟩

theorem endCorrection_held (s : State) : ClockHeld s (s.withTime (endCorrection s.time)) := by
  simp only [endCorrection]
  split <;> exact ⟨rfl, id, rfl, rfl⟩

theorem execServoTick_held {r : EncoderReply} {s t : State} (h : execServoTick r s = .next t) : ClockHeld s t := by
  simp only [execServoTick, tickAt] at h
  split at h
  · split at h
    · cases h; exact ⟨rfl, id, rfl, rfl⟩
    · split at h
      · rename_i n hn
        cases h
        have ht := liveTick_time _ _ _ _ hn
        exact ⟨by simp [State.now, ht, advanceTick], by simp [ht, advanceTick], by simp [ht, advanceTick],
          by simp [liveTick_conf _ _ _ _ hn]⟩
      · cases h
  · cases h; exact .refl s

theorem withPort_held (p : SpanPort) (s : State) : ClockHeld s (s.withPort p) := ⟨rfl, id, rfl, rfl⟩

/-- A frame that acts on the clock only by its owner's decision. -/
theorem hear_held {k : FrameClass} {o : Origin} {p : List Byte} {owner : State → Judged} {s : State}
    (h : ClockHeld s (owner s).state) : ClockHeld s (hear k o p owner s) := by
  simp only [hear]
  (repeat' split)
  · exact .refl s
  · exact h.trans (withPort_held ..)
  · exact withPort_held ..

/-- A new TICK_PERIOD alone moves the next tick; nothing else of the time base follows the configuration (R14). -/
theorem takeItem_time (i : Item) (v : Int) (s : State) :
    (takeItem i v s).time =
      if (putItem i v s.conf).items.tickPeriod = s.items.tickPeriod then s.time
      else { s.time with nextTick := nextMultiple (putItem i v s.conf).items.tickPeriod s.now } := rfl

theorem takeItem_life (i : Item) (v : Int) (s : State) : (takeItem i v s).conf.life = s.conf.life := by
  cases i <;> rfl

theorem takeItem_held (i : Item) (v : Int) (s : State) : ClockHeld s (takeItem i v s) := by
  have ht := takeItem_time i v s
  split at ht <;> exact ⟨by simp [State.now, ht], by simp [ht], by simp [ht], takeItem_life i v s⟩

theorem judgeConfig_held (p : List Byte) (s : State) : ClockHeld s (judgeConfig p s).state := by
  simp only [judgeConfig]
  (repeat' split)
  any_goals exact (refuseCommand_clockKept ..).held
  exact takeItem_held ..

/-- An edge in RUN finds the time base neither FREE nor with a pending set. -/
theorem edgeByState_held (s : State) (hf : s.time.timeState ≠ .free) (hp : s.time.pendingSet = none) :
    ClockHeld s (edgeByState s) := by
  simp only [edgeByState]
  split
  · contradiction
  · simp only [edgeLocked, hp, correctAt]
    split <;> exact ⟨rfl, id, by simp [hp], rfl⟩
  all_goals
    simp only [edgeRegain, regainLock]
    (repeat' split) <;> exact ⟨by simp [State.now], by simp, by simp, by simp⟩

@[simp] theorem stepTo_time (t : Nat) (s : State) :
    (stepTo t s).time = steppedTime s.items.tickPeriod t s.time := by
  simp [stepTo]

@[simp] theorem edgeByState_life (s : State) : (edgeByState s).conf.life = s.conf.life := by
  simp only [edgeByState, edgeFree, lockFromFree, edgeLocked, applySet, correctAt, edgeRegain, regainLock]
  (repeat' split) <;> simp

/-- No edge takes mount time past its top. -/
theorem edgeByState_range (s : State) (h : s.time.mountTime ≤ Config.timeMax) :
    (edgeByState s).time.mountTime ≤ Config.timeMax := by
  simp only [edgeByState, edgeFree, lockFromFree, edgeLocked, applySet, correctAt, edgeRegain, regainLock]
  (repeat' split) <;> simp [h, steppedTime]

theorem execPpsEdge_goes {s t : State} (h : s.Timed) (he : execPpsEdge s = .next t) : ClockGoes s t := by
  cases he
  by_cases hr : s.conf.life = .run
  · obtain ⟨hf, hp⟩ := h.noStep hr
    have k := edgeByState_held s hf hp
    exact ClockHeld.goes ⟨k.now, k.locked, k.pendingSet, k.life⟩ h
  · exact ⟨⟨edgeByState_range s h.range, fun hn => absurd (by simpa using hn) hr⟩, fun hn => absurd hn hr⟩

/-- The microseconds that pass at once hold mount time at its top. -/
theorem advanceTime_goes {n : Nat} {s : State} {b : TimeBase} (hn : n ≤ 2) (h : s.Timed)
    (hm : b.mountTime = min (s.now + n) Config.timeMax) (hf : b.timeState = s.time.timeState)
    (hp : b.pendingSet = s.time.pendingSet) : ClockGoes s (s.withTime b) where
  timed := ⟨by simp [hm], fun hr => by simpa [hf, hp] using h.noStep hr⟩
  onward := fun _ => by
    have := h.range
    simp only [State.now, State.withTime_time] at hm ⊢
    omega

theorem execUnitCorrection_goes {s t : State} (h : s.Timed) (he : execUnitCorrection s = .next t) :
    ClockGoes s t := by
  cases he
  split
  · simp only [unitCorrection]
    split
    · exact advanceTime_goes (by split <;> omega) h rfl rfl rfl
    · exact (ClockHeld.refl s).goes h
  · exact (ClockHeld.refl s).goes h

theorem passMicrosecond_goes {s : State} (h : s.Timed) : ClockGoes s (passMicrosecond s) :=
  advanceTime_goes (by omega) h rfl rfl rfl

theorem judgeTimeSet_goes (p : List Byte) {s : State} (h : s.Timed) : ClockGoes s (judgeTimeSet p s).state := by
  simp only [judgeTimeSet, State.inRun, decide_eq_true_eq]
  (repeat' split)
  any_goals exact (refuseCommand_clockKept ..).held.goes h
  rename_i hr _ _
  exact ⟨⟨h.range, fun hn => absurd hn hr⟩, fun hn => absurd hn hr⟩

/-- A frame keeps of mount time what its owner's decision keeps. -/
theorem hear_goes {k : FrameClass} {o : Origin} {p : List Byte} {owner : State → Judged} {s : State} (hs : s.Timed)
    (h : ClockGoes s (owner s).state) : ClockGoes s (hear k o p owner s) := by
  simp only [hear]
  (repeat' split)
  · exact (ClockHeld.refl s).goes hs
  · exact ⟨⟨h.timed.range, h.timed.noStep⟩, h.onward⟩
  · exact (withPort_held ..).goes hs

/-- START enters RUN only in LOCKED, and discards the pending set (R177). -/
theorem judgeStart_goes {s : State} (h : s.Timed) : ClockGoes s (judgeStart s).state := by
  simp only [judgeStart]
  split
  · exact (refuseCommand_clockKept ..).held.goes h
  · rename_i hf
    simp only [startFails] at hf
    (repeat' split at hf) <;> try contradiction
    rename_i hl
    rw [not_or, not_not] at hl
    exact ⟨⟨by simpa [takeStart] using h.range, by simp [takeStart, hl.1]⟩, by simp [takeStart, State.now]⟩

theorem execStart_goes {o : Origin} {args : List Byte} {s t : State} (h : s.Timed)
    (he : execStart o args s = .next t) : ClockGoes s t := by
  cases he
  refine hear_goes h ?_
  split
  · simp only [gateEstop]
    split
    · exact (refuseCommand_clockKept ..).held.goes h
    · exact judgeStart_goes h
  · exact (refuseCommand_clockKept ..).held.goes h

theorem exec_goes {c : Instr} {s t : State} (hc : isHardReset c = false) (h : s.Timed) (he : exec c s = .next t) :
    ClockGoes s t := by
  cases ha : actsOnClock c
  · exact (exec_clockKept ha he).held.goes h
  cases c <;> simp only [actsOnClock, reduceCtorEq] at ha
  case hardReset => cases hc
  case ppsEdge => exact execPpsEdge_goes h he
  case unitCorrection => exact execUnitCorrection_goes h he
  case correctionSecondEnd => cases he; split; exacts [(endCorrection_held s).goes h, (ClockHeld.refl s).goes h]
  case expectedSecondJudgement => cases he; split; exacts [(judgeExpected_held s).goes h, (ClockHeld.refl s).goes h]
  case regainRunMiss => cases he; split; exacts [(checkRegain_held s).goes h, (ClockHeld.refl s).goes h]
  case linkSecondClose => cases he; split; exacts [(closeSecond_held s).goes h, (ClockHeld.refl s).goes h]
  case servoTick => exact (execServoTick_held he).goes h
  case damagedFrame =>
    cases he
    have mark : ∀ u, ClockHeld u (hearDamage u) := fun u => ⟨rfl, id, rfl, rfl⟩
    (repeat' split)
    · exact (ClockHeld.refl s).goes h
    · exact ((closeSecond_held s).trans (mark _)).goes h
    · exact (mark s).goes h
  case timeSet => cases he; exact hear_goes h (judgeTimeSet_goes _ h)
  case configItem => cases he; exact (hear_held (judgeConfig_held ..)).goes h
  case start => exact execStart_goes h he

/-- The unusable roles are 0 and those from 6 on (R172). -/
theorem LifeState.ofStraps_strapFault_iff (x : Straps) :
    LifeState.ofStraps x = .strapFault ↔ x.address = 15 ∨ x.role = 0 ∨ 6 ≤ x.role.toNat := by
  have hr : 6 ≤ x.role.toNat ↔ x.role = 6 ∨ x.role = 7 := by bv_omega
  rw [hr, LifeState.ofStraps]
  split <;> simp_all

theorem LifeState.ofStraps_config_or (x : Straps) :
    LifeState.ofStraps x = .config ∨ LifeState.ofStraps x = .strapFault := by
  rw [LifeState.ofStraps]
  split
  · exact .inr rfl
  · exact .inl rfl

theorem execHardReset_timed {a : BitVec 4} {r : BitVec 3} {s t : State} (he : exec (.hardReset a r) s = .next t) :
    t.Timed := by
  cases he
  refine ⟨Nat.zero_le _, fun hr => ?_⟩
  rcases LifeState.ofStraps_config_or ⟨a, r⟩ with h | h <;> cases h.symm.trans hr

/-- What is due stands in the schedule. -/
theorem mem_schedule_of_due {s : State} {c : Instr} (h : due s = some c) : c ∈ (schedule s).map Prod.snd := by
  simp only [due, Option.map_eq_some_iff] at h
  obtain ⟨x, hf, rfl⟩ := h
  exact List.mem_map_of_mem (List.mem_of_find?_eq_some hf)

/-- A hard reset is never due by itself: it comes from outside. -/
theorem isHardReset_of_due {s : State} {c : Instr} (h : due s = some c) : isHardReset c = false := by
  have hm := mem_schedule_of_due h
  cases c
  case hardReset => simp [schedule] at hm
  all_goals rfl

/-- The tick that is due has the free reply that its draw numbers (log 1). -/
theorem reply_of_due {s : State} {r : EncoderReply} (h : due s = some (.servoTick r)) : r = freeReply s.freeDraws := by
  simpa [schedule] using mem_schedule_of_due h

theorem step_of_waiting {s : State} {c : Instr} {rest : List Instr} (h : s.pending = c :: rest) :
    step s = exec c (s.withPending rest) := by
  simp only [step, h]

theorem step_of_empty {s : State} (h : s.pending = []) : step s = idle s := by
  simp only [step, h]

theorem idle_of_due {s : State} {c : Instr} (h : due s = some c) : idle s = exec c (drawReply c s) := by
  simp only [idle, h]

theorem idle_of_none {s : State} (h : due s = none) : idle s = .next (passMicrosecond s) := by
  simp only [idle, h]

theorem drawReply_held (c : Instr) (s : State) : ClockHeld s (drawReply c s) := by
  simp only [drawReply]
  split <;> exact ⟨rfl, id, rfl, rfl⟩

theorem idle_goes {s t : State} (h : s.Timed) (he : idle s = .next t) : ClockGoes s t := by
  cases hd : due s with
  | none =>
    rw [idle_of_none hd] at he
    cases he; exact passMicrosecond_goes h
  | some c =>
    rw [idle_of_due hd] at he
    have k := drawReply_held c s
    have g := exec_goes (isHardReset_of_due hd) (k.goes h).timed he
    exact ⟨g.timed, fun hr => k.now ▸ g.onward (k.life.trans hr)⟩

end Sys2Proof.Machine

namespace Sys2Proof.Proofs
open Sys2Proof.Machine

/-- Settles O4: a command without a part in the clock keeps the queue with it, and the others do one by one. -/
theorem commandsLeaveTheQueueAlone : Obligations.CommandsLeaveTheQueueAlone :=
  fun _ _ _ h => exec_pending h

/-- Settles O10: in RUN nothing steps mount time; the idle microsecond and the unit correction alone advance it. -/
theorem mountTimeNeverDecreasesInRun : Obligations.MountTimeNeverDecreasesInRun := by
  intro s t h he
  cases hp : s.pending with
  | nil =>
    obtain ⟨ht, ho⟩ := idle_goes h (step_of_empty hp ▸ he)
    exact ⟨ht, fun hr _ => ho hr⟩
  | cons c rest =>
    rw [step_of_waiting hp] at he
    have hs : (s.withPending rest).Timed := ⟨h.range, h.noStep⟩
    cases hc : isHardReset c
    · obtain ⟨ht, ho⟩ := exec_goes hc hs he
      exact ⟨ht, fun hr _ => ho hr⟩
    · cases c <;> cases hc
      exact ⟨execHardReset_timed he, fun _ hf => absurd hf (by simp [frontIs, hp, isHardReset])⟩

/-- Settles O3: the front command, else the event that is due, else the microsecond. -/
theorem stepRunsTheFrontCommand : Obligations.StepRunsTheFrontCommand := by
  refine ⟨fun c s rest hp => step_of_waiting hp, fun s c hp hd hc => ?_, fun s reply hp hd => ⟨?_, ?_⟩,
    fun s hp hd => ?_⟩
  · rw [step_of_empty hp, idle_of_due hd]
    cases c
    case servoTick r => exact absurd rfl (hc r)
    all_goals rfl
  · rw [step_of_empty hp, idle_of_due hd]; rfl
  · rw [reply_of_due hd, freeReply]
    cases Config.encoderSample s.freeDraws <;> rfl
  · rw [step_of_empty hp, idle_of_none hd]; rfl

/-- Settles O1: every item by the definitions of the reset values; the life state by the sixteen addresses and the
eight roles. -/
theorem hardResetGivesResetValues : Obligations.HardResetGivesResetValues := by
  intro a r s
  refine ⟨_, rfl, ?_, ?_, ?_, ?_, ?_, ?_, ?_, ?_, ?_, ?_, rfl, rfl⟩
  · exact ⟨rfl, rfl, rfl, rfl, rfl, rfl, rfl, rfl, rfl, rfl, rfl⟩
  · exact ⟨rfl, rfl, rfl, rfl, rfl, rfl, rfl, rfl, rfl, rfl⟩
  · exact ⟨rfl, rfl, rfl, rfl, rfl, rfl, rfl, rfl⟩
  · exact ⟨rfl, rfl, rfl, rfl, rfl⟩
  · exact ⟨rfl, rfl, rfl, rfl, rfl, rfl, rfl, rfl, rfl, rfl⟩
  · exact ⟨rfl, rfl, rfl⟩
  · exact ⟨rfl, rfl, rfl, rfl, rfl, rfl, rfl, rfl, rfl, rfl, rfl, rfl, rfl⟩
  · exact ⟨rfl, rfl, rfl, rfl, rfl⟩
  · exact LifeState.ofStraps_strapFault_iff ⟨a, r⟩
  · exact LifeState.ofStraps_config_or ⟨a, r⟩

end Sys2Proof.Proofs
end

section
/-! What frames that replace nothing do to the transmit queue, and what the grading of a link second leads to (R15, R28,
R31 to R33). -/

namespace Sys2Proof.Machine

/-! ### Frames that join -/

/-- At most `n` frames, each with `P`, have joined the queue of `p` and none has replaced an entry (R28, R29). -/
structure Joins (P : Frame → Nat → Prop) (n : Nat) (p q : SpanPort) : Prop where
  attempt : q.attempt = p.attempt
  joined : ∀ e ∈ q.queue, e ∈ p.queue ∨ P e.frame e.deadline
  left : p.queue.length + n ≤ 8 → p.queue.Sublist q.queue
  length : p.queue.length + n ≤ 8 → q.queue.length ≤ p.queue.length + n

theorem Joins.of_queue {P : Frame → Nat → Prop} {n : Nat} {p q : SpanPort} (ha : q.attempt = p.attempt)
    (hq : q.queue = p.queue) : Joins P n p q :=
  ⟨ha, fun _ he => .inl (hq ▸ he), fun _ => hq ▸ .refl _, fun _ => by simp [hq]⟩

theorem Joins.refl {P : Frame → Nat → Prop} {n : Nat} (p : SpanPort) : Joins P n p p := .of_queue rfl rfl

theorem Joins.trans {P : Frame → Nat → Prop} {n m : Nat} {p q r : SpanPort} (h : Joins P n p q)
    (k : Joins P m q r) : Joins P (n + m) p r where
  attempt := k.attempt.trans h.attempt
  joined := fun e he => (k.joined e he).elim (h.joined e) .inr
  left := fun hr =>
    have hl := h.length (by omega)
    (h.left (by omega)).trans (k.left (by omega))
  length := fun hr => by
    have hl := h.length (by omega)
    have hk := k.length (by omega)
    omega

theorem Joins.mono {P Q : Frame → Nat → Prop} {n m : Nat} {p q : SpanPort} (h : Joins P n p q) (hn : n ≤ m)
    (hP : ∀ f d, P f d → Q f d) : Joins Q m p q where
  attempt := h.attempt
  joined := fun e he => (h.joined e he).imp_right (hP _ _)
  left := fun hr => h.left (by omega)
  length := fun hr => (h.length (by omega)).trans (by omega)

/-- What is queued outlives the frames that join with room. -/
theorem Queued.of_joins {P : Frame → Nat → Prop} {n : Nat} {s t : State} {f : Frame} {d : Nat} (q : Queued s f d)
    (j : Joins P n s.port t.port) (room : s.port.queue.length + n ≤ 8) : Queued t f d := by
  obtain ⟨e, he, h⟩ := q
  exact ⟨e, (j.left room).subset he, h⟩

theorem sublist_insertByRank (e : Entry) (q : List Entry) : q.Sublist (insertByRank e q) := by
  obtain ⟨b, a, h, hq⟩ := insertByRank_split e q
  rw [h, ← hq]
  exact (List.Sublist.refl b).append (List.sublist_cons_self e a)

theorem SpanPort.offer_joins (p : SpanPort) (f : Frame) (now d : Nat) (h1 : f.cls ≠ .status)
    (h2 : f.cls ≠ .propose) : Joins (fun g e => g = f ∧ e = d) 1 p (p.offer f now d) := by
  have hn : p.queue.find? (replaces f) = none := by simp [replaces, h1, h2]
  by_cases hd : d ≤ now
  · simp only [SpanPort.offer, hd, if_true]
    exact .of_queue rfl rfl
  by_cases hl : p.queue.length < Config.queueCapacity
  · simp only [SpanPort.offer, hd, if_false, hn, hl, if_true]
    refine ⟨rfl, fun e he => ?_, fun _ => sublist_insertByRank .., fun _ => by simp [SpanPort.join]⟩
    simp only [SpanPort.join, mem_insertByRank] at he
    rcases he with rfl | he
    · exact .inr ⟨rfl, rfl⟩
    · exact .inl he
  · simp only [SpanPort.offer, hd, if_false, hn, hl]
    rw [Config.queueCapacity] at hl
    refine ⟨?_, fun e he => ?_, fun _ => by omega, fun _ => by omega⟩
    · simp only [SpanPort.offerFull]
      (repeat' split) <;> rfl
    · simp only [SpanPort.offerFull, SpanPort.join] at he
      (repeat' split at he)
      · simp only [mem_insertByRank] at he
        rcases he with rfl | he
        · exact .inr ⟨rfl, rfl⟩
        · exact .inl (List.mem_of_mem_dropLast he)
      all_goals exact .inl he

theorem offerFrame_joins (k : FrameClass) (x : List Byte) (d : Nat) (s : State) (h1 : k ≠ .status)
    (h2 : k ≠ .propose) : Joins (fun g e => g = ownFrame s k x ∧ e = d) 1 s.port (offerFrame k x d s).port := by
  simp only [offerFrame]
  split
  · exact .refl _
  · exact s.port.offer_joins _ _ _ (by simpa) (by simpa)

theorem report_joins (e : EventKind) (q : Nat) (v : BitVec 32) (s : State) :
    Joins (fun f d => f = eventFrame s e q v ∧ d = s.now + 1000000) 1 s.port (report e q v s).port := by
  simp only [report]
  split
  · exact offerFrame_joins .event _ _ s (by decide) (by decide)
  · exact .refl _

/-- A frame offered with its deadline ahead counts as no expired one. -/
theorem SpanPort.offer_txExpired (p : SpanPort) (f : Frame) (now d : Nat) (h : now < d) :
    (p.offer f now d).txExpired = p.txExpired := by
  simp only [SpanPort.offer, SpanPort.offerFull, Nat.not_le.mpr h, if_false]
  (repeat' split) <;> rfl

@[simp] theorem report_txExpired (e : EventKind) (q : Nat) (v : BitVec 32) (s : State) :
    (report e q v s).port.txExpired = s.port.txExpired := by
  simp only [report, offerFrame]
  (repeat' split)
  · rfl
  · exact s.port.offer_txExpired _ _ _ (by omega)
  · rfl

/-! ### The link monitor -/

/-- The items of the link monitor (R32, R33) are the same. -/
structure SameLink (p q : SpanPort) : Prop where
  state : q.linkState = p.linkState
  errored : q.erroredRun = p.erroredRun
  clean : q.cleanRun = p.cleanRun
  mark : q.erroredMark = p.erroredMark

theorem SameLink.refl (p : SpanPort) : SameLink p p := ⟨rfl, rfl, rfl, rfl⟩

theorem SameLink.trans {p q r : SpanPort} (h : SameLink p q) (k : SameLink q r) : SameLink p r :=
  ⟨k.state.trans h.state, k.errored.trans h.errored, k.clean.trans h.clean, k.mark.trans h.mark⟩

theorem SpanPort.offer_sameLink (p : SpanPort) (f : Frame) (now d : Nat) : SameLink p (p.offer f now d) := by
  simp only [SpanPort.offer, SpanPort.offerFull]
  (repeat' split) <;> exact ⟨rfl, rfl, rfl, rfl⟩

theorem offerFrame_sameLink (k : FrameClass) (x : List Byte) (d : Nat) (s : State) :
    SameLink s.port (offerFrame k x d s).port := by
  simp only [offerFrame]
  split
  · exact .refl _
  · exact s.port.offer_sameLink ..

theorem report_sameLink (e : EventKind) (q : Nat) (v : BitVec 32) (s : State) :
    SameLink s.port (report e q v s).port := by
  simp only [report]
  split
  · exact offerFrame_sameLink ..
  · exact .refl _

/-- The event of the grading, where the link state changes (R33). -/
theorem judgeLink_poor {s : State} (h : s.port.erroredRun = 5) (hc : s.port.linkState = .clear) :
    judgeLink s = report .linkPoor 0 (valueU s.port.damaged) (s.withPort { s.port with linkState := .poor }) := by
  simp [judgeLink, h, hc]

theorem judgeLink_clear {s : State} (h : s.port.cleanRun = 10) (hc : s.port.linkState = .poor) :
    judgeLink s = report .linkClear 0 (valueU s.port.damaged) (s.withPort { s.port with linkState := .clear }) := by
  simp [judgeLink, h, hc]

theorem judgeLink_same {s : State} (h : s.port.linkState = .clear → s.port.erroredRun ≠ 5)
    (hc : s.port.linkState = .poor → s.port.cleanRun ≠ 10) : judgeLink s = s := by
  simp only [judgeLink]
  rw [if_neg fun k => h k.2 k.1, if_neg fun k => hc k.2 k.1]

/-- The runs of a grading outlive its event. -/
theorem judgeLink_runs (s : State) :
    (judgeLink s).port.erroredRun = s.port.erroredRun ∧ (judgeLink s).port.cleanRun = s.port.cleanRun ∧
      (judgeLink s).port.erroredMark = s.port.erroredMark := by
  simp only [judgeLink]
  (repeat' split)
  · obtain ⟨_, he, hc, hm⟩ :=
      report_sameLink .linkPoor 0 (valueU s.port.damaged) (s.withPort { s.port with linkState := .poor })
    exact ⟨he, hc, hm⟩
  · obtain ⟨_, he, hc, hm⟩ :=
      report_sameLink .linkClear 0 (valueU s.port.damaged) (s.withPort { s.port with linkState := .clear })
    exact ⟨he, hc, hm⟩
  · exact ⟨rfl, rfl, rfl⟩

/-- What joins when an event is composed at an instant (R28, R43). -/
def EventAt (now : Nat) (f : Frame) (d : Nat) : Prop := f.cls = .event ∧ d = now + 1000000

theorem report_joins_event (e : EventKind) (q : Nat) (v : BitVec 32) (s : State) :
    Joins (EventAt s.now) 1 s.port (report e q v s).port :=
  (report_joins e q v s).mono le_rfl fun _ _ h => ⟨h.1 ▸ rfl, h.2⟩

theorem judgeLink_joins (s : State) : Joins (EventAt s.now) 1 s.port (judgeLink s).port := by
  have moved : ∀ x, Joins (EventAt s.now) 0 s.port { s.port with linkState := x } := fun _ => .of_queue rfl rfl
  simp only [judgeLink]
  (repeat' split)
  · exact (moved .poor).trans
      (report_joins_event .linkPoor 0 (valueU s.port.damaged) (s.withPort { s.port with linkState := .poor }))
  · exact (moved .clear).trans
      (report_joins_event .linkClear 0 (valueU s.port.damaged) (s.withPort { s.port with linkState := .clear }))
  · exact .refl _

@[simp] theorem SpanPort.gradeRuns_queue (p : SpanPort) : p.gradeRuns.queue = p.queue := by
  simp only [SpanPort.gradeRuns]; split <;> rfl

@[simp] theorem SpanPort.gradeRuns_attempt (p : SpanPort) : p.gradeRuns.attempt = p.attempt := by
  simp only [SpanPort.gradeRuns]; split <;> rfl

@[simp] theorem SpanPort.gradeRuns_linkState (p : SpanPort) : p.gradeRuns.linkState = p.linkState := by
  simp only [SpanPort.gradeRuns]; split <;> rfl

@[simp] theorem SpanPort.gradeRuns_damaged (p : SpanPort) : p.gradeRuns.damaged = p.damaged := by
  simp only [SpanPort.gradeRuns]; split <;> rfl

@[simp] theorem SpanPort.gradeRuns_txExpired (p : SpanPort) : p.gradeRuns.txExpired = p.txExpired := by
  simp only [SpanPort.gradeRuns]; split <;> rfl

@[simp] theorem SpanPort.gradeRuns_mark (p : SpanPort) : p.gradeRuns.erroredMark = false := by
  simp only [SpanPort.gradeRuns]; split <;> rfl

theorem SpanPort.gradeRuns_errored {p : SpanPort} (h : p.erroredMark = true) :
    p.gradeRuns.cleanRun = 0 ∧ p.gradeRuns.erroredRun = min (p.erroredRun + 1) 5 := by
  simp [SpanPort.gradeRuns, h]

theorem SpanPort.gradeRuns_clean {p : SpanPort} (h : p.erroredMark = false) :
    p.gradeRuns.erroredRun = 0 ∧ p.gradeRuns.cleanRun = min (p.cleanRun + 1) 10 := by
  simp [SpanPort.gradeRuns, h]

theorem gradeLink_joins (s : State) :
    Joins (EventAt s.now) 1 s.port (gradeLink s).port := by
  simp only [gradeLink]
  split
  · exact .refl _
  · exact (Joins.of_queue (n := 0) (by simp) (by simp)).trans (judgeLink_joins (s.withPort s.port.gradeRuns))

@[simp] theorem gradeLink_txExpired (s : State) : (gradeLink s).port.txExpired = s.port.txExpired := by
  simp only [gradeLink, judgeLink]
  (repeat' split) <;> simp

@[simp] theorem gradeLink_strapFault {s : State} (h : s.conf.life = .strapFault) : gradeLink s = s := by
  simp [gradeLink, State.inStrapFault, h]

theorem gradeLink_live {s : State} (h : s.conf.life ≠ .strapFault) :
    gradeLink s = judgeLink (s.withPort s.port.gradeRuns) := by
  simp [gradeLink, State.inStrapFault, h]

/-- The grading of the link second of `n`, which has the monitor's items and the configuration of `s` and no entry that
`s` has not. -/
theorem gradeLink_graded {room : Prop} {s n : State} (live : s.conf.life ≠ .strapFault) (hc : n.conf = s.conf)
    (hl : SameLink s.port n.port) (hd : n.port.damaged = s.port.damaged) (hq : ∀ e ∈ n.port.queue, e ∈ s.port.queue)
    (hr : room → n.port.queue.length + 1 ≤ 8) : LinkGraded room s (gradeLink n) := by
  have hlive : n.conf.life ≠ .strapFault := hc ▸ live
  obtain ⟨hre, hrc, hrm⟩ := judgeLink_runs (n.withPort n.port.gradeRuns)
  rw [← gradeLink_live hlive] at hre hrc hrm
  simp only [State.withPort_port] at hre hrc hrm
  have hnow : (gradeLink n).now = n.now := by simp [State.now]
  refine ⟨by simp [hrm], fun hm => ?_, fun hm => ?_, fun hm he hs => ?_, fun hm he hs => ?_, fun h1 h2 => ?_⟩
  · rw [hre, hrc, ← hl.errored]
    exact n.port.gradeRuns_errored (hl.mark.trans hm)
  · rw [hre, hrc, ← hl.clean]
    exact n.port.gradeRuns_clean (hl.mark.trans hm)
  · obtain ⟨_, hrun⟩ := n.port.gradeRuns_errored (hl.mark.trans hm)
    rw [hl.errored, he] at hrun
    have hj := judgeLink_poor (s := n.withPort n.port.gradeRuns) hrun (by simp [hl.state, hs])
    rw [hnow, gradeLink_live hlive, hj]
    refine ⟨(report_sameLink ..).state, fun hE hroom => ?_⟩
    have := hr hroom
    have hq := report_queued .linkPoor 0 (valueU n.port.damaged)
      ((n.withPort n.port.gradeRuns).withPort { n.port.gradeRuns with linkState := .poor })
      ⟨by simpa [hc] using hE.1, by simpa [State.items, hc] using hE.2⟩ (by simp; omega)
    simpa [eventFrame, hc, valueU, hd, State.now] using hq
  · obtain ⟨_, hrun⟩ := n.port.gradeRuns_clean (hl.mark.trans hm)
    rw [hl.clean, he] at hrun
    have hj := judgeLink_clear (s := n.withPort n.port.gradeRuns) hrun (by simp [hl.state, hs])
    rw [hnow, gradeLink_live hlive, hj]
    refine ⟨(report_sameLink ..).state, fun hE hroom => ?_⟩
    have := hr hroom
    have hq := report_queued .linkClear 0 (valueU n.port.damaged)
      ((n.withPort n.port.gradeRuns).withPort { n.port.gradeRuns with linkState := .clear })
      ⟨by simpa [hc] using hE.1, by simpa [State.items, hc] using hE.2⟩ (by simp; omega)
    simpa [eventFrame, hc, valueU, hd, State.now] using hq
  · have hj : judgeLink (n.withPort n.port.gradeRuns) = n.withPort n.port.gradeRuns := by
      refine judgeLink_same (fun hk => ?_) (fun hk => ?_)
      · have hs : s.port.linkState = .clear := by simpa [hl.state] using hk
        cases hm : s.port.erroredMark
        · rw [State.withPort_port, (n.port.gradeRuns_clean (hl.mark.trans hm)).1]; decide
        · have := (h1 hs).resolve_left (by simp [hm])
          rw [State.withPort_port, (n.port.gradeRuns_errored (hl.mark.trans hm)).2, hl.errored]
          omega
      · have hs : s.port.linkState = .poor := by simpa [hl.state] using hk
        cases hm : s.port.erroredMark
        · have := (h2 hs).resolve_left (by simp [hm])
          rw [State.withPort_port, (n.port.gradeRuns_clean (hl.mark.trans hm)).2, hl.clean]
          omega
        · rw [State.withPort_port, (n.port.gradeRuns_errored (hl.mark.trans hm)).1]; decide
    rw [gradeLink_live hlive, hj]
    exact ⟨by simp [hl.state], fun e he hne => absurd (hq e (by simpa using he)) hne⟩

/-- Frames that join after a grading, none of them a LINK event, leave it as it is. -/
theorem LinkGraded.of_joins {room room' : Prop} {s u t : State} {P : Frame → Nat → Prop} {n : Nat}
    (h : LinkGraded room s u) (j : Joins P n u.port t.port) (hl : SameLink u.port t.port) (hnow : t.now = u.now)
    (hr : room' → room ∧ u.port.queue.length + n ≤ 8)
    (hP : ∀ f d, P f d → ∀ q v, f ≠ eventFrame s .linkPoor q v ∧ f ≠ eventFrame s .linkClear q v) :
    LinkGraded room' s t where
  cleared := hl.mark.trans h.cleared
  errored := fun hm => by rw [hl.clean, hl.errored]; exact h.errored hm
  clean := fun hm => by rw [hl.clean, hl.errored]; exact h.clean hm
  toPoor := fun hm he hs => by
    obtain ⟨hst, hq⟩ := h.toPoor hm he hs
    exact ⟨hl.state.trans hst, fun hE hroom => hnow ▸ (hq hE (hr hroom).1).of_joins j (hr hroom).2⟩
  toClear := fun hm he hs => by
    obtain ⟨hst, hq⟩ := h.toClear hm he hs
    exact ⟨hl.state.trans hst, fun hE hroom => hnow ▸ (hq hE (hr hroom).1).of_joins j (hr hroom).2⟩
  same := fun h1 h2 => by
    obtain ⟨hst, hq⟩ := h.same h1 h2
    exact ⟨hl.state.trans hst, fun e he hne => (j.joined e he).elim (fun hu => hq e hu hne) (hP _ _)⟩

theorem LinkGraded.of_port {room : Prop} {s u t : State} (h : LinkGraded room s u) (hp : t.port = u.port)
    (hnow : t.now = u.now) : LinkGraded room s t where
  cleared := hp ▸ h.cleared
  errored := hp ▸ h.errored
  clean := hp ▸ h.clean
  toPoor := by simpa only [Queued, hp, hnow] using h.toPoor
  toClear := by simpa only [Queued, hp, hnow] using h.toClear
  same := hp ▸ h.same

/-- The category is the first byte of an event's payload (R43). -/
theorem category_of_eventFrame {s u : State} {e k : EventKind} {q r : Nat} {v w : BitVec 32}
    (h : eventFrame s e q v = eventFrame u k r w) : e.category = k.category := by
  have lt : ∀ x : EventKind, x.category < 256 := by intro x; cases x <;> decide
  simp only [eventFrame, eventPayload, bytesOfNat, Frame.mk.injEq, List.cons_append,
    List.nil_append, List.cons.injEq, pow_zero, Nat.div_one] at h
  have hb := congrArg BitVec.toNat h.2.2.2.1
  simpa [Nat.mod_eq_of_lt (lt _)] using hb

/-- A TIME event is no LINK event. -/
theorem eventFrame_not_link {s u : State} {e : EventKind} (h : e.category ≠ 5) (q : Nat) (v : BitVec 32) (f : Frame)
    (hf : f = eventFrame u e q v) (r : Nat) (w : BitVec 32) :
    f ≠ eventFrame s .linkPoor r w ∧ f ≠ eventFrame s .linkClear r w :=
  ⟨fun k => h (category_of_eventFrame (hf.symm.trans k)), fun k => h (category_of_eventFrame (hf.symm.trans k))⟩

end Sys2Proof.Machine
end

section
/-! The time base: steps of mount time, PPS edges, corrections and judgements (R3 to R15), and hence O23 to O26
and O28. -/

namespace Sys2Proof.Machine

/-! ### Seconds and errors (R3, R10) -/

/-- The nearest whole second of an edge is the one that the statements name. -/
theorem State.EdgeAt.wholeSecond {s : State} {w : Int} (h : s.EdgeAt w) :
    Machine.wholeSecond (correctedCapture s.time) = w := by
  obtain ⟨⟨k, rfl⟩, ha, hb⟩ := h
  simp only [State.now] at ha hb
  simp only [Machine.wholeSecond, correctedCapture, Config.halfSecond, Config.second]
  push_cast
  omega

theorem State.EdgeAt.captureError {s : State} {w : Int} (h : s.EdgeAt w) :
    Machine.captureError s.time = s.edgeError w := by
  simp only [Machine.captureError, h.wholeSecond]
  rfl

theorem beginCorrection_eq (t : Nat) (r : Int) : beginCorrection t r = correctionFrom t r := by
  have hz : clampAbs 100 r = 0 ↔ r = 0 := by simp only [clampAbs, clampInt]; omega
  simp only [beginCorrection, correctionFrom, hz]
  rfl

theorem valueS_of_small {x : Int} (h1 : -2147483648 ≤ x) (h2 : x ≤ 2147483647) : valueS x = BitVec.ofInt 32 x := by
  rw [valueS, sat32, min_eq_left h2, max_eq_right h1]

theorem natAbs_le_iff (x : Int) (n : Nat) : x.natAbs ≤ n ↔ |x| ≤ n := by
  rw [← Int.natCast_natAbs]; norm_cast

/-! ### Steps of mount time (R13) -/

theorem ceilTo_spec {p : Nat} (hp : 0 < p) (x : Nat) : p ∣ ceilTo p x ∧ x ≤ ceilTo p x ∧ ceilTo p x < x + p := by
  have hm := Nat.mod_lt (x + p - 1) hp
  have hd := Nat.div_add_mod' (x + p - 1) p
  refine ⟨Nat.dvd_mul_left _ _, ?_, ?_⟩ <;> simp only [ceilTo] <;> omega

theorem secondAfter_spec (t : Nat) :
    1000000 ∣ secondAfter t ∧ t < secondAfter t ∧ secondAfter t ≤ t + 1000000 := by
  simp only [secondAfter, Config.second]
  omega

theorem expire_queue (s : State) (n : Nat) : (s.port.expire n).queue = s.leftAt n := by
  simp only [SpanPort.expire, State.leftAt]
  refine List.filter_congr fun e _ => ?_
  have hd : decide (n < e.deadline) = !decide (e.deadline ≤ n) := by
    simp only [← decide_not, not_le]
  cases ha : s.port.attempt <;> simp [SpanPort.leavesNow, SpanPort.copying, ha, hd]

theorem expire_attempt (s : State) (n : Nat) : (s.port.expire n).attempt = s.attemptBy n := by
  simp [SpanPort.expire, SpanPort.attemptAt, State.attemptBy]

/-- The mount time that a step to `x` gives (log 41). -/
theorem stepTo_now (x : Nat) (s : State) : (stepTo x s).now = min x Config.timeMax := by
  simp [State.now, steppedTime]

/-- The state in which a step grades its link second: the time stepped, the passed entries gone. -/
def passedBy (x : Nat) (s : State) : State :=
  expireQueue (max s.now (min x Config.timeMax)) (s.withTime (steppedTime s.items.tickPeriod x s.time))

theorem stepTo_eq (x : Nat) (s : State) : stepTo x s = emptyTrace (gradeLink (passedBy x s)) := rfl

theorem stepTo_port (x : Nat) (s : State) : (stepTo x s).port = (gradeLink (passedBy x s)).port := by
  simp [stepTo_eq]

theorem passedBy_queue (x : Nat) (s : State) :
    (passedBy x s).port.queue = s.leftAt (max s.now (min x Config.timeMax)) :=
  expire_queue s _

theorem stepTo_joins (x : Nat) (s : State) :
    Joins (EventAt (stepTo x s).now) 1 (s.port.expire (max s.now (stepTo x s).now)) (stepTo x s).port := by
  rw [stepTo_now, stepTo_port]
  exact gradeLink_joins (passedBy x s)

/-- A step of mount time without further events. -/
theorem stepTo_stepped (x : Nat) (s : State) : Stepped 1 s (stepTo x s) := by
  have j := stepTo_joins x s
  have hq := expire_queue s (max s.now (stepTo x s).now)
  refine ⟨?_, fun hp => ?_, fun hl => ?_, ?_, ?_, ?_, fun hr => ?_, fun e he => ?_, ?_⟩
  · rw [stepTo_now, stepTo_time]; exact secondAfter_spec _
  · rw [stepTo_now, stepTo_time]; exact ceilTo_spec hp _
  · rw [stepTo_now]
    refine LinkGraded.of_port (u := gradeLink (passedBy x s)) ?_ (stepTo_port x s) (by simp [State.now, stepTo_eq])
    exact gradeLink_graded hl rfl ⟨rfl, rfl, rfl, rfl⟩ rfl (fun e he => List.mem_of_mem_filter he)
      (fun hr => by rwa [passedBy_queue])
  · simp [stepTo_eq, emptyTrace, passedBy]
  · simp only [stepTo_eq, emptyTrace, passedBy, State.withAxis_axis, gradeLink_axis, expireQueue_axis,
      State.withTime_axis]
    cases s.axis.setting.mode <;> rfl
  · rw [← hq, stepTo_port, gradeLink_txExpired, stepTo_now]
    exact s.port.expire_counts _
  · rw [← hq] at hr ⊢; exact j.left hr
  · rw [← hq]; exact j.joined e he
  · rw [j.attempt, expire_attempt]

/-- What a step leaves alone beside the time base, the port and the trace. -/
theorem stepTo_axis (x : Nat) (s : State) :
    (stepTo x s).axis = { s.axis with ring := [], phase := (stepTo x s).axis.phase } := by
  simp [stepTo_eq, emptyTrace, passedBy]

/-- A step of mount time changes the time base, the port and the trace alone. -/
theorem stepTo_frame (x : Nat) (s : State) :
    stepTo x s =
      { s with
        time := (stepTo x s).time, port := (stepTo x s).port
        axis := { s.axis with ring := [], phase := (stepTo x s).axis.phase } } := by
  refine State.eq_of_fields rfl rfl ?_ ?_ ?_ ?_ (stepTo_axis x s) ?_ ?_ ?_ ?_ <;> simp

/-- A state that differs from the stepped one in nothing that the step is judged by. -/
theorem Stepped.of_same {n : Nat} {s u t : State} (h : Stepped n s u) (hnow : t.now = u.now)
    (hs : t.time.nextSecond = u.time.nextSecond) (ht : t.time.nextTick = u.time.nextTick) (hp : t.port = u.port)
    (hr : t.axis.ring = u.axis.ring) (hset : t.axis.setting = u.axis.setting) (hph : t.axis.phase = u.axis.phase) :
    Stepped n s t where
  second := by rw [hs, hnow]; exact h.second
  tick := by rw [ht, hnow]; exact h.tick
  graded := fun hl => hnow ▸ (h.graded hl).of_port hp hnow
  ring := by rw [hr, hset]; exact h.ring
  phase := hph ▸ h.phase
  expired := by rw [hp, hnow]; exact h.expired
  left := by rw [hp, hnow]; exact h.left
  joined := by rw [hp, hnow]; exact h.joined
  attempt := by rw [hp, hnow]; exact h.attempt

/-- An event of the edge, none of the link monitor's, composed after the step. -/
theorem Stepped.report {s u : State} (h : Stepped 1 s u) (e : EventKind) (q : Nat) (v : BitVec 32)
    (hc : e.category ≠ 5)
    (hl : (s.leftAt (max s.now u.now)).length + 1 ≤ 8 →
      u.port.queue.length ≤ (s.leftAt (max s.now u.now)).length + 1) : Stepped 2 s (Machine.report e q v u) := by
  have hnow : (Machine.report e q v u).now = u.now := by simp [State.now]
  have j := report_joins e q v u
  refine ⟨?_, ?_, fun hlive => ?_, ?_, ?_, ?_, fun hr => ?_, fun a ha => ?_, ?_⟩
  · simpa [hnow] using h.second
  · simpa [hnow] using h.tick
  · rw [hnow]
    refine (h.graded hlive).of_joins j (report_sameLink ..) hnow (fun hr => ?_)
      fun f d hf => eventFrame_not_link hc q v f hf.1
    have := hl (by omega)
    exact ⟨by omega, by omega⟩
  · simpa using h.ring
  · simpa using h.phase
  · simpa [hnow] using h.expired
  · rw [hnow] at hr ⊢
    have := hl (by omega)
    exact (h.left (by omega)).trans (j.left (by omega))
  · rw [hnow]
    rcases j.joined a ha with hu | ⟨hf, hd⟩
    · exact h.joined a hu
    · exact .inr ⟨hf ▸ rfl, hd⟩
  · rw [hnow, j.attempt, h.attempt]

theorem stepTo_length (x : Nat) (s : State) (h : (s.leftAt (max s.now (stepTo x s).now)).length + 1 ≤ 8) :
    (stepTo x s).port.queue.length ≤ (s.leftAt (max s.now (stepTo x s).now)).length + 1 := by
  rw [← expire_queue] at h ⊢
  exact (stepTo_joins x s).length h

/-! ### Edges (R3 to R5, R8, R12) -/

/-- The count after an edge in FREE by whether it is spaced (R4). -/
theorem qualifyCount_spaced {c : Items} {b : TimeBase} {l : Nat} (hl : b.lastCapture = some l)
    (h : |(b.mountTime : Int) - l - 1000000| ≤ c.lockWindow) : qualifyCount c b = b.qualifying + 1 := by
  have hn : ((b.mountTime : Int) - l - Config.second).natAbs ≤ c.lockWindow := (natAbs_le_iff _ _).mpr h
  simp only [qualifyCount, hl, hn, if_true]

theorem qualifyCount_apart {c : Items} {b : TimeBase}
    (h : ¬∃ l, b.lastCapture = some l ∧ |(b.mountTime : Int) - l - 1000000| ≤ c.lockWindow) :
    qualifyCount c b = 1 := by
  simp only [qualifyCount]
  split
  · rfl
  · rename_i l hl
    exact if_neg fun hn => h ⟨l, hl, (natAbs_le_iff _ _).mp hn⟩

theorem execPpsEdge_eq (s : State) :
    exec .ppsEdge s =
      .next ((edgeByState s).withTime { (edgeByState s).time with lastCapture := some s.time.mountTime }) := rfl

theorem edgeByState_free {s : State} (h : s.time.timeState = .free) : edgeByState s = edgeFree s := by
  simp only [edgeByState, h]

theorem edgeByState_locked {s : State} (h : s.time.timeState = .locked) : edgeByState s = edgeLocked s := by
  simp only [edgeByState, h]

theorem edgeByState_regain {s : State} (h : s.time.timeState = .coast ∨ s.time.timeState = .lost) :
    edgeByState s = edgeRegain s := by
  rcases h with h | h <;> simp only [edgeByState, h]

theorem edgeFree_lock {s : State} (h : qualifyCount s.items s.time = 4) : edgeFree s = lockFromFree s := if_pos h

theorem edgeFree_count {s : State} (h : qualifyCount s.items s.time ≠ 4) :
    edgeFree s = s.withTime { s.time with qualifying := qualifyCount s.items s.time } := if_neg h

/-- TIME ends with a lock (R9). -/
theorem endCause_time_hold {s : State} (h : s.conf.life ≠ .strapFault) :
    (endCause .time s).hold = { s.hold with causes := { s.hold.causes with time := false } } := by
  simp [endCause, State.inStrapFault, h, CauseSet.set]

/-- The end of a cause moves the outputs alone (R160). -/
theorem endCause_axis (c : Cause) (s : State) :
    ∃ on brake link, (endCause c s).axis = { s.axis with driveEnable := on, brakeApplied := brake, link := link } := by
  simp only [endCause]
  split
  · exact ⟨_, _, _, rfl⟩
  · exact ⟨_, _, _, rfl⟩


/-! #### FREE -/

/-- What the fourth edge in FREE leads to: the step onto its whole second, the lock, its event, the end of TIME. -/
structure LocksFromFree (w : Int) (s t : State) : Prop where
  time : t.time =
    { s.time with
      mountTime := min w.toNat Config.timeMax, timeState := .locked, qualifying := 0, misses := 0, residue := 0
      correction := none, goodSeconds := [w], judgeSecond := w + 1000000, nextSecond := t.time.nextSecond
      nextTick := t.time.nextTick }
  stepped : Stepped 2 s t
  hold : s.conf.life ≠ .strapFault → t.hold = { s.hold with causes := { s.hold.causes with time := false } }
  told : Enabled s .timeLocked → (s.leftAt (max s.now t.now)).length + 2 ≤ 8 →
    Queued t (eventFrame s .timeLocked 0 (BitVec.ofInt 32 (s.edgeError w))) (t.now + 1000000)
  rest : t.store = s.store ∧ t.round = s.round ∧ t.traj = s.traj ∧ t.conf = s.conf ∧ t.pins = s.pins

/-- The state in which the lock's event is composed: stepped onto the whole second `w`, and LOCKED. -/
def steppedLock (w : Int) (s : State) : State :=
  (stepTo w.toNat s).withTime
    { (stepTo w.toNat s).time with
      timeState := .locked, qualifying := 0, misses := 0, goodSeconds := [w], judgeSecond := w + Config.second }

theorem lockFromFree_locks {s : State} {w : Int} (hres : s.time.residue = 0) (h : s.EdgeAt w) :
    LocksFromFree w s (lockFromFree s) := by
  have herr := h.captureError
  have hval : valueS (s.edgeError w) = BitVec.ofInt 32 (s.edgeError w) := by
    have := h.above; have := h.below
    simp only [State.edgeError]
    exact valueS_of_small (by omega) (by omega)
  have hx : ((s.time.mountTime : Int) - s.edgeError w).toNat = w.toNat := by
    simp only [State.edgeError, hres, State.now]; omega
  obtain ⟨u, hu⟩ : ∃ u, u = steppedLock w s := ⟨_, rfl⟩
  have hlock : lockFromFree s =
      endCause .time (report .timeLocked 0 (BitVec.ofInt 32 (s.edgeError w)) u) := by
    simp only [lockFromFree, herr, h.wholeSecond, hx, hval, hu, steppedLock]
  have hunow : u.now = (stepTo w.toNat s).now := by simp [hu, steppedLock, State.now]
  have hconf : u.conf = s.conf := by simp [hu, steppedLock]
  have hstep : Stepped 1 s u := by
    rw [hu]
    exact (stepTo_stepped w.toNat s).of_same rfl rfl rfl rfl rfl rfl rfl
  have hlen : (s.leftAt (max s.now u.now)).length + 1 ≤ 8 →
      u.port.queue.length ≤ (s.leftAt (max s.now u.now)).length + 1 := by
    rw [hunow, hu]; exact stepTo_length w.toNat s
  have hrep := hstep.report .timeLocked 0 (BitVec.ofInt 32 (s.edgeError w)) (by decide) hlen
  have hnow : (lockFromFree s).now = u.now := by simp [hlock, State.now]
  rw [hlock] at hnow ⊢
  refine ⟨?_, ?_, fun hl => ?_, fun hE hroom => ?_, ?_⟩
  · simp [hu, steppedLock, steppedTime, Config.second]
  · obtain ⟨on, brake, link, ha⟩ := endCause_axis .time (report .timeLocked 0 (BitVec.ofInt 32 (s.edgeError w)) u)
    exact hrep.of_same (by simp [State.now]) (by simp) (by simp) (by simp) (by simp [ha]) (by simp [ha]) (by simp [ha])
  · rw [endCause_time_hold (by simpa [hconf] using hl)]
    simp [hu, steppedLock]
  · rw [hnow] at hroom ⊢
    have hq := report_queued .timeLocked 0 (BitVec.ofInt 32 (s.edgeError w)) u
      ⟨hconf ▸ hE.1, by simpa [State.items, hconf] using hE.2⟩ (by have := hlen (by omega); omega)
    refine Queued.of_port (s := report .timeLocked 0 (BitVec.ofInt 32 (s.edgeError w)) u) ?_ (by simp)
    simpa [eventFrame, hconf] using hq
  · simp [hu, steppedLock]

/-! #### LOCKED -/

/-- An edge in LOCKED that is no first good edge of its whole second (R5). -/
theorem edgeLocked_ignored {s : State} {w : Int} (h : s.EdgeAt w)
    (hbad : (s.items.lockWindow : Int) < |s.edgeError w| ∨ w ∈ s.time.goodSeconds) : edgeLocked s = s := by
  simp only [edgeLocked, h.captureError, h.wholeSecond, natAbs_le_iff]
  refine if_neg fun hg => ?_
  rcases hbad with hb | hb
  · exact absurd hg.1 (not_le.mpr hb)
  · exact hg.2 hb

theorem edgeLocked_corrects {s : State} {w : Int} (h : s.EdgeAt w) (hw : |s.edgeError w| ≤ s.items.lockWindow)
    (hn : w ∉ s.time.goodSeconds) (hp : s.time.pendingSet = none) : edgeLocked s = correctAt s := by
  simp only [edgeLocked, h.captureError, h.wholeSecond, natAbs_le_iff, hp]
  exact if_pos ⟨hw, hn⟩

theorem edgeLocked_sets {s : State} {w : Int} {n : Nat} (h : s.EdgeAt w) (hw : |s.edgeError w| ≤ s.items.lockWindow)
    (hn : w ∉ s.time.goodSeconds) (hp : s.time.pendingSet = some n) : edgeLocked s = applySet n s := by
  simp only [edgeLocked, h.captureError, h.wholeSecond, natAbs_le_iff, hp]
  exact if_pos ⟨hw, hn⟩

/-- The correction of the whole error (R5, R10). -/
theorem correctAt_eq {s : State} {w : Int} (h : s.EdgeAt w) :
    correctAt s =
      s.withTime
        { s.time with
          misses := 0, residue := w - s.now, correction := correctionFrom s.now (w - s.now)
          goodSeconds := w :: s.time.goodSeconds.filter fun g => decide (s.time.judgeSecond ≤ g) } := by
  have hr : s.time.residue - s.edgeError w = w - s.now := by simp only [State.edgeError]; omega
  simp only [correctAt, h.captureError, h.wholeSecond, beginCorrection_eq, hr, takeGood]
  rfl

/-- A step to a whole second with the items of the time base that R12 sets. -/
theorem applySet_eq (n : Nat) (s : State) :
    applySet n s =
      (stepTo (n * 1000000) s).withTime
        { (stepTo (n * 1000000) s).time with
          pendingSet := none, setTaken := true, misses := 0, goodSeconds := [((n * 1000000 : Nat) : Int)]
          judgeSecond := ((n * 1000000 : Nat) : Int) + 1000000 } := by
  simp only [applySet, Config.second, Nat.cast_ofNat]

/-! #### COAST and LOST -/

theorem edgeRegain_ignored {s : State} {w : Int} (h : s.EdgeAt w)
    (hbad : 2000 < |s.edgeError w| ∨ s.time.regainSecond = some w) : edgeRegain s = s := by
  simp only [edgeRegain, h.captureError, h.wholeSecond]
  refine if_pos (hbad.imp_left fun hb => ?_)
  rw [← not_le, natAbs_le_iff]
  exact not_le.mpr hb

theorem edgeRegain_good {s : State} {w : Int} (h : s.EdgeAt w) (hw : |s.edgeError w| ≤ 2000)
    (hn : s.time.regainSecond ≠ some w) :
    edgeRegain s =
      if regainCount w s.time = 4 then regainLock s
      else s.withTime { s.time with qualifying := regainCount w s.time, regainSecond := some w } := by
  simp only [edgeRegain, h.captureError, h.wholeSecond]
  refine if_neg (not_or.mpr ⟨?_, hn⟩)
  rw [not_lt, natAbs_le_iff]
  exact hw

/-- The time base of the lock after a regain for the whole second `w` (R8, R10). -/
def relocked (w : Int) (s : State) : TimeBase :=
  { s.time with
    timeState := .locked, residue := w - s.now, correction := correctionFrom s.now (w - s.now), misses := 0
    qualifying := 0, coastSeconds := 0, regainSecond := none, goodSeconds := [w]
    judgeSecond := max s.time.judgeSecond (w + 1000000) }

/-- The lock of the fourth regain edge, its event, and the end of TIME (R8, R9). -/
theorem regainLock_eq {s : State} {w : Int} (h : s.EdgeAt w) :
    regainLock s =
      endCause .time
        (report .timeLocked 0 (BitVec.ofInt 32 (s.edgeError w)) (s.withTime (relocked w s))) := by
  have hval : valueS (s.edgeError w) = BitVec.ofInt 32 (s.edgeError w) := by
    have := h.above; have := h.below
    simp only [State.edgeError]
    exact valueS_of_small (by omega) (by omega)
  have hr : s.time.residue - s.edgeError w = w - s.now := by simp only [State.edgeError]; omega
  simp only [regainLock, h.captureError, h.wholeSecond, beginCorrection_eq, hr, hval]
  rfl

/-! ### Corrections and judgements (R6, R8, R10) -/

/-- A unit correction at its instant: two counts or none, the residue one nearer to 0. -/
theorem execUnitCorrection_due {s : State} {c : Correction} (hc : s.time.correction = some c)
    (hq : c.done < c.q.natAbs) (hd : c.start + (c.done + 1) * (1000000 / c.q.natAbs) ≤ s.now) :
    exec .unitCorrection s = .next (s.withTime
      { s.time with
        mountTime := min (s.now + (if 0 < c.q then 2 else 0)) Config.timeMax, residue := towardZero s.time.residue
        correction := some { c with done := c.done + 1 } }) := by
  have hu : unitDue s.time = true := by
    simp only [unitDue, hc, Bool.and_eq_true, decide_eq_true_eq]
    exact ⟨hq, hd⟩
  simp only [exec, execUnitCorrection, hu, if_true, unitCorrection, hc]
  rfl

theorem towardZero_cases (x : Int) :
    (0 < x → towardZero x = x - 1) ∧ (x < 0 → towardZero x = x + 1) ∧ (x = 0 → towardZero x = 0) := by
  simp only [towardZero, signOf]
  refine ⟨fun h => ?_, fun h => ?_, fun h => ?_⟩ <;> split <;> (try split) <;> omega

theorem execCorrectionSecondEnd_due {s : State} {c : Correction} (hc : s.time.correction = some c)
    (hq : c.q.natAbs ≤ c.done) (hd : c.start + 1000000 ≤ s.now) :
    exec .correctionSecondEnd s =
      .next (s.withTime { s.time with correction := correctionFrom (c.start + 1000000) s.time.residue }) := by
  have hu : correctionEndDue s.time = true := by
    simp only [correctionEndDue, hc, Bool.and_eq_true, decide_eq_true_eq]
    exact ⟨hq, hd⟩
  simp only [exec, execCorrectionSecondEnd, hu, if_true, endCorrection, hc, beginCorrection_eq]
  rfl

theorem halfReached_of {s : State} (h : s.time.judgeSecond + 500000 ≤ s.now) : halfReached s.time = true := by
  simp only [halfReached, decide_eq_true_eq]
  exact h

theorem execExpectedSecondJudgement_due {s : State} (hl : s.time.timeState = .locked)
    (hd : s.time.judgeSecond + 500000 ≤ s.now) : exec .expectedSecondJudgement s = .next (judgeExpected s) := by
  have hu : judgementDue s.time = true := by simp [judgementDue, hl, halfReached_of hd]
  simp only [exec, execExpectedSecondJudgement, hu, if_true]

theorem execRegainRunMiss_due {s : State} (hl : s.time.timeState = .coast ∨ s.time.timeState = .lost)
    (hd : s.time.judgeSecond + 500000 ≤ s.now) :
    exec .regainRunMiss s = .next (s.withTime (checkRegain s.time)) := by
  have hu : regainCheckDue s.time = true := by simp [regainCheckDue, hl, halfReached_of hd]
  simp only [exec, execRegainRunMiss, hu, if_true]

theorem runMissed_of_lt {w r : Int} {b : TimeBase} (h : b.regainSecond = some r) (hr : r < w) :
    runMissed w b = true := by
  simp [runMissed, h, hr]

theorem runMissed_of_forall {w : Int} {b : TimeBase} (h : ∀ r, b.regainSecond = some r → w ≤ r) :
    runMissed w b = false := by
  simp only [runMissed]
  split
  · rename_i r hr
    simpa using h r hr
  · rfl

/-! ### TIME_SET (R11) -/

theorem readTime_timePayload {n : Nat} (h : n < 2 ^ 32) : readTime (timePayload n) = some n := by
  have hl : (timePayload n).length = 4 := bytesOfNat_length 4 n
  have hb : fieldBytes (timePayload n) 0 4 = bytesOfNat 4 n := by
    rw [fieldBytes, List.drop_zero, List.take_of_length_le hl.le]; rfl
  rw [readTime, if_pos hl, fieldU, hb, natOfBytes_bytesOfNat, Nat.mod_eq_of_lt (by simpa using h)]

end Sys2Proof.Machine

namespace Sys2Proof.Proofs
open Sys2Proof.Machine

/-- Settles O23: by the qualifying count; the fourth edge by `lockFromFree_locks`. -/
theorem ppsEdgeInFree : Obligations.PpsEdgeInFree := by
  intro s w hf hres h spaced
  refine ⟨_, execPpsEdge_eq s, fun hsp => ?_, fun ⟨l, hl, hw⟩ hq => ?_, fun ⟨l, hl, hw⟩ hq => ?_⟩
  · have hc : qualifyCount s.items s.time = 1 := qualifyCount_apart hsp
    rw [edgeByState_free hf, edgeFree_count (by simp [hc]), hc]
    rfl
  · have hc : qualifyCount s.items s.time = s.time.qualifying + 1 := qualifyCount_spaced hl hw
    rw [edgeByState_free hf, edgeFree_count (by rw [hc]; omega), hc]
    rfl
  · have hc : qualifyCount s.items s.time = s.time.qualifying + 1 := qualifyCount_spaced hl hw
    rw [edgeByState_free hf, edgeFree_lock (by rw [hc, hq])]
    obtain ⟨ht, hs, hh, hq, hr⟩ := lockFromFree_locks hres h
    refine ⟨?_, hs.of_same rfl rfl rfl rfl rfl rfl rfl, hh, hq, hr⟩
    rw [State.withTime_time, ht]
    rfl

/-- Settles O24: an ignored edge, a correction, or a step with the pending set. -/
theorem ppsEdgeInLocked : Obligations.PpsEdgeInLocked := by
  intro s w hl h
  refine ⟨_, execPpsEdge_eq s, fun hbad => ?_, fun hw hn => ⟨fun hp => ?_, fun n hp => ?_⟩⟩
  · rw [edgeByState_locked hl, edgeLocked_ignored h hbad]
    rfl
  · rw [edgeByState_locked hl, edgeLocked_corrects h hw hn hp]
    simp only [correctAt_eq h]
    rfl
  · rw [edgeByState_locked hl, edgeLocked_sets h hw hn hp]
    simp only [applySet_eq]
    have hs := stepTo_stepped (n * 1000000) s
    have ht := stepTo_time (n * 1000000) s
    have hf := stepTo_frame (n * 1000000) s
    generalize stepTo (n * 1000000) s = u at hs ht hf ⊢
    refine ⟨?_, hs.of_same rfl rfl rfl rfl rfl rfl rfl, ?_⟩
    · simp only [State.withTime_time, ht, steppedTime]
      rfl
    · rw [hf]; rfl

/-- Settles O25: an ignored edge, a counted one, or the lock without a step. -/
theorem ppsEdgeInCoastOrLost : Obligations.PpsEdgeInCoastOrLost := by
  intro s w hst h count
  have hcount : regainCount w s.time = count := rfl
  refine ⟨_, execPpsEdge_eq s, fun hbad => ?_, fun hw hn => ⟨fun hc => ?_, fun hc => ?_⟩⟩
  · rw [edgeByState_regain hst, edgeRegain_ignored h hbad]
    rfl
  · rw [edgeByState_regain hst, edgeRegain_good h hw hn, hcount, if_neg hc]
    rfl
  · rw [edgeByState_regain hst, edgeRegain_good h hw hn, hcount, if_pos hc, regainLock_eq h]
    refine ⟨by simp [State.now, relocked], fun hl => ?_, fun hE hroom => ?_, by simp⟩
    · rw [State.withTime_hold, endCause_time_hold (by simpa using hl)]
      simp
    · have hq := report_queued .timeLocked 0 (BitVec.ofInt 32 (s.edgeError w)) (s.withTime (relocked w s))
        ⟨hE.1, hE.2⟩ (by simp only [Room] at hroom; simp only [State.withTime_port]; omega)
      exact hq.of_port (by simp)

/-- Settles O26: each instant by what its command does when it is due. -/
theorem secondsAreCorrectedAndJudged : Obligations.SecondsAreCorrectedAndJudged := by
  refine ⟨fun s c hc hq hd => ?_, fun s c hc hq hd => execCorrectionSecondEnd_due hc hq hd, fun s hl hd => ?_,
    fun s hl hd => ?_⟩
  · obtain ⟨hpos, hneg, hzero⟩ := towardZero_cases s.time.residue
    exact ⟨_, _, execUnitCorrection_due hc hq hd, hpos, hneg, hzero, rfl⟩
  · refine ⟨_, execExpectedSecondJudgement_due hl hd, fun hw => ?_, fun hw hm => ?_, fun hw hm => ⟨?_, fun hE hr => ?_⟩⟩
    · simp only [judgeExpected, hw, if_true]; rfl
    · simp only [judgeExpected, hw, if_false]
      rw [if_neg (by omega)]; rfl
    · simp only [judgeExpected, hw, if_false, hm, if_true, enterCoast]
      apply State.eq_of_fields <;> simp [Config.second]
    · simp only [judgeExpected, hw, if_false, hm, if_true, enterCoast]
      exact report_queued .timeCoast 0 (valueU 3) (State.withTime (s.withTime _) _) ⟨hE.1, hE.2⟩
        (by simp only [Room] at hr; simp only [State.withTime_port]; omega)
  · refine ⟨_, execRegainRunMiss_due hl hd, fun r hr hlt => ?_, fun hr => ?_⟩
    · simp only [checkRegain, runMissed_of_lt hr hlt, if_true]; rfl
    · simp only [checkRegain, runMissed_of_forall hr]; rfl

/-- Settles O28: the owner's decision on a second of 32 bits, by the order of its refusals. -/
theorem timeSetIsHeldPending : Obligations.TimeSetIsHeldPending := by
  intro o n s hn hp c
  have hx : exec c s = .next ((judgeTimeSet (timePayload n) s).state.receiving
      (heardAs c (judgeTimeSet (timePayload n) s).taken s)) :=
    congrArg Host.Outcome.next (hear_of_passes (judgeTimeSet (timePayload n)) hp rfl)
  refine ⟨_, hx, ?_⟩
  simp only [judgeTimeSet, readTime_timePayload hn, State.inRun, decide_eq_true_eq]
  have refuses : ∀ r,
      Refuses c s ((refuseCommand r .time 255 s).receiving (heardAs c false s)) r .commandRefused 0 5 255 :=
    fun r => refuse_refuses c s r .time 255 .commandRefused 0
  by_cases hr : s.conf.life = .run
  · simp only [hr, if_true]; exact refuses .locked
  by_cases he : s.hold.causes.estop = true
  · simp only [hr, he, if_true, if_false]; exact refuses .state
  by_cases hs : Config.secondMax < n
  · have hs' : 281474976 < n := hs
    simp only [hr, he, hs, hs', if_true, if_false]; exact refuses .range
  · have hs' : ¬281474976 < n := hs
    simp only [hr, he, hs, hs', if_false]; rfl

end Sys2Proof.Proofs
end

section
/-! Holds and causes (R132 to R136, R140), and the closing of a link second (R7, R9, R15), hence O27. -/

namespace Sys2Proof.Machine

/-! ### Taking a hold (R134 to R136) -/

/-- The outputs follow the mode and the line causes (R160). -/
theorem settleOutputs_outputsSafe (s : State) : (settleOutputs s).OutputsSafe := ⟨rfl, rfl⟩

theorem takeHold_round (line : Bool) (s : State) :
    (takeHold line s).round = { s.round with plan := some .held, trigger := none, abandon := none, dwell := none } := by
  simp [takeHold, holdPlan]

theorem takeHold_settle (line : Bool) (s : State) : (takeHold line s).axis.settle = none := by
  simp only [takeHold, enterMotion, settleOutputs, stopBrakeTimer, State.withAxis_axis, State.withTraj_axis]
  split <;> rfl

/-- The mode after a hold (R135, R136). -/
theorem takeHold_traj (line : Bool) (s : State) :
    (takeHold line s).traj = { s.traj with motion := if line then .braked else motionUnderHold s } := by
  have same : motionUnderHold (stopBrakeTimer (dropSettle (holdPlan s))) = motionUnderHold s := by
    simp only [motionUnderHold, stopMotion, stopBrakeTimer]
    cases hm : s.traj.motion <;> simp [hm, State.lastSetpoint, dropSettle, holdPlan, State.items]
  simp only [takeHold, enterMotion, settleOutputs_traj, same]
  simp

theorem takeHold_brakeTimer {line : Bool} {s : State} {r : Release} (h : s.traj.motion = .releasing r) :
    (takeHold line s).axis.brakeTimer = none := by
  simp [takeHold, enterMotion, settleOutputs, stopBrakeTimer, h]

theorem lastSetpoint_of_some {s : State} {x : Int} (h : s.axis.lastSetpoint = some x) : s.lastSetpoint = x := by
  simp only [State.lastSetpoint, h]

theorem motionUnderHold_moving {s : State} (h : motionCode s.traj.motion ≤ 2) :
    motionUnderHold s = stopMotion s := by
  simp only [motionUnderHold]
  cases hm : s.traj.motion <;> simp [hm, motionCode] at h ⊢

theorem motionUnderHold_resting {s : State} (h1 : 3 ≤ motionCode s.traj.motion) (h2 : motionCode s.traj.motion ≤ 5) :
    motionUnderHold s = s.traj.motion := by
  simp only [motionUnderHold]
  cases hm : s.traj.motion <;> simp [hm, motionCode] at h1 h2 ⊢

theorem takeHold_holdTaken (line : Bool) (s : State) : HoldTaken line s (takeHold line s) where
  plan := takeHold_round line s
  settle := takeHold_settle line s
  store := by simp
  traj := by simp [takeHold_traj]
  outputs := settleOutputs_outputsSafe _
  braked := fun hl => by simp [takeHold_traj, hl]
  released := fun r hr => ⟨by simp [takeHold_traj, motionUnderHold, hr], takeHold_brakeTimer hr⟩
  kept := fun hl h1 h2 => by simp [takeHold_traj, hl, motionUnderHold_resting h1 h2]
  stopped := fun hl h hf =>
    ⟨_, by simp only [takeHold_traj, hl, motionUnderHold_moving h, stopMotion, hf]; rfl, rfl, rfl, rfl,
      fun _ hx => lastSetpoint_of_some hx⟩
  stood := fun hl h hf =>
    ⟨_, by simp only [takeHold_traj, hl, motionUnderHold_moving h, stopMotion, hf]; rfl,
      fun _ hx => lastSetpoint_of_some hx⟩

/-- A hold is judged by the blocks it reads and writes. -/
theorem HoldTaken.of_same {line : Bool} {s s' t t' : State} (h : HoldTaken line s t) (hr : s'.round = s.round)
    (hst : s'.store = s.store) (hj : s'.traj = s.traj) (hx : s'.axis = s.axis) (hc : s'.conf = s.conf)
    (tr : t'.round = t.round) (tst : t'.store = t.store) (tj : t'.traj = t.traj) (tx : t'.axis = t.axis)
    (th : t'.hold.causes = t.hold.causes) : HoldTaken line s' t' where
  plan := by rw [tr, hr]; exact h.plan
  settle := by rw [tx]; exact h.settle
  store := by rw [tst, hst]; exact h.store
  traj := by rw [tj, hj]; exact h.traj
  outputs := by
    have := h.outputs
    simpa only [State.OutputsSafe, tx, tj, th] using this
  braked := by rw [tj]; exact h.braked
  released := by rw [tj, tx, hj]; exact h.released
  kept := by rw [tj, hj]; exact h.kept
  stopped := by simp only [State.items, tj, hj, hx, hc]; exact h.stopped
  stood := by rw [tj, hj, hx]; exact h.stood

/-! ### Raising a cause (R132, R133, R140) -/

theorem CauseSet.set_of_has {x : CauseSet} {c : Cause} (h : x.has c = true) : x.set true c = x := by
  cases c <;> simp only [CauseSet.has] at h <;> simp [CauseSet.set, ← h]

theorem raiseCause_of_has {c : Cause} {s : State} (h : s.hold.causes.has c = true) : raiseCause c s = s := by
  simp [raiseCause, h]

theorem raiseCause_of_run {c : Cause} {s : State} (hr : s.conf.life = .run) (h : s.hold.causes.has c = false) :
    raiseCause c s = actOnCause c (addCause c s) := by
  simp [raiseCause, State.inStrapFault, State.inRun, hr, h]

theorem raiseCause_of_config {c : Cause} {s : State} (hr : s.conf.life = .config) (h : s.hold.causes.has c = false) :
    raiseCause c s = settleOutputs (addCause c s) := by
  simp [raiseCause, State.inStrapFault, State.inRun, hr, h]

@[simp] theorem actOnCause_causes (c : Cause) (s : State) : (actOnCause c s).hold.causes = s.hold.causes := by
  simp [actOnCause, startRepeat]

@[simp] theorem addCause_causes (c : Cause) (s : State) :
    (addCause c s).hold.causes = s.hold.causes.set true c := rfl

/-- Outside STRAP_FAULT a raised cause is a member of the set, and no other cause changes. -/
theorem raiseCause_causes {c : Cause} {s : State} (h : s.conf.life ≠ .strapFault) :
    (raiseCause c s).hold.causes = s.hold.causes.set true c := by
  cases hh : s.hold.causes.has c
  · cases hl : s.conf.life
    case strapFault => exact absurd hl h
    case config => simp [raiseCause_of_config hl hh]
    case run => simp [raiseCause_of_run hl hh]
  · rw [raiseCause_of_has hh, CauseSet.set_of_has hh]

theorem actOnCause_repeatTimer (c : Cause) (s : State) :
    (actOnCause c s).hold.repeatTimer = some (s.now + s.items.holdRepeat) := by
  simp [actOnCause, startRepeat, State.now, State.items]

theorem actOnCause_holdTaken (c : Cause) (s : State) : HoldTaken c.isLine s (actOnCause c s) :=
  (takeHold_holdTaken c.isLine s).of_same rfl rfl rfl rfl rfl (by simp [actOnCause]) (by simp [actOnCause])
    (by simp [actOnCause]) (by simp [actOnCause]) (by simp)

/-- What joins when a hold is sent for a cause (R140). -/
def HoldAt (f : Frame) (_ : Nat) : Prop := f.cls = .hold

theorem sendHold_joins (c : Cause) (s : State) : Joins HoldAt 1 s.port (sendHold c s).port :=
  (offerFrame_joins .hold _ _ s (by decide) (by decide)).mono le_rfl fun _ _ h => by simp [HoldAt, h.1]

theorem actOnCause_joins (c : Cause) (s : State) : Joins HoldAt 1 s.port (actOnCause c s).port := by
  have j := sendHold_joins c (takeHold c.isLine s)
  rw [takeHold_port] at j
  simpa [actOnCause] using j

theorem raiseCause_joins (c : Cause) (s : State) : Joins HoldAt 1 s.port (raiseCause c s).port := by
  simp only [raiseCause]
  (repeat' split)
  · exact .refl _
  · exact actOnCause_joins c (addCause c s)
  · exact .of_queue (by simp) (by simp)

theorem raiseCause_sameLink (c : Cause) (s : State) : SameLink s.port (raiseCause c s).port := by
  simp only [raiseCause]
  (repeat' split)
  · exact .refl _
  · have h := offerFrame_sameLink .hold (holdPayload ⟨causeCode c, (takeHold c.isLine (addCause c s)).currentSeq,
      causeBits (takeHold c.isLine (addCause c s)).hold.causes⟩) ((takeHold c.isLine (addCause c s)).now + 50000)
      (takeHold c.isLine (addCause c s))
    simpa [actOnCause, sendHold] using h
  · simpa using SameLink.refl s.port

/-- With room, the HOLD of a cause is queued, with the whole set and the seq of the current record (R38, R140). -/
theorem actOnCause_queued (c : Cause) {s : State} (h : s.conf.life ≠ .strapFault) (room : s.port.queue.length < 8) :
    Queued (actOnCause c s)
      ⟨.hold, s.conf.straps.address, 0x3E, holdPayload ⟨causeCode c, s.currentSeq, causeBits s.hold.causes⟩⟩
      (s.now + 50000) := by
  have q := offerFrame_queued .hold
    (holdPayload ⟨causeCode c, (takeHold c.isLine s).currentSeq, causeBits (takeHold c.isLine s).hold.causes⟩)
    ((takeHold c.isLine s).now + 50000) (takeHold c.isLine s) (by simpa using h) (by omega) (by simpa using room)
  have hs : (takeHold c.isLine s).currentSeq = s.currentSeq := by simp [State.currentSeq]
  have q := q.of_port (t := actOnCause c s) (by simp [actOnCause, sendHold])
  rw [hs] at q
  simpa [ownFrame, State.now, everyRole] using q

/-! ### Whole seconds (R7, R9, R15) -/

theorem execLinkSecondClose_due {s : State} (h : s.time.nextSecond ≤ s.now) :
    exec .linkSecondClose s = .next (closeSecond s) := by
  have hd : linkCloseDue s.time = true := by simpa [linkCloseDue, State.now] using h
  simp only [exec, execLinkSecondClose, hd, if_true]

/-- The next whole second is a second on (R15). -/
def moveSecond (s : State) : State := s.withTime { s.time with nextSecond := s.time.nextSecond + 1000000 }

/-- The state after the grading of the second that closes. -/
def gradedSecond (s : State) : State := gradeLink (moveSecond s)

theorem closeSecond_eq (s : State) : closeSecond s = coastSecond (gradedSecond s) := rfl

@[simp] theorem gradedSecond_time (s : State) :
    (gradedSecond s).time = { s.time with nextSecond := s.time.nextSecond + 1000000 } := by
  simp [gradedSecond, moveSecond]

@[simp] theorem gradedSecond_now (s : State) : (gradedSecond s).now = s.now := by simp [State.now]
@[simp] theorem gradedSecond_conf (s : State) : (gradedSecond s).conf = s.conf := by simp [gradedSecond, moveSecond]

theorem gradedSecond_frame (s : State) :
    gradedSecond s = { s with time := (gradedSecond s).time, port := (gradedSecond s).port } := by
  refine State.eq_of_fields rfl rfl ?_ ?_ ?_ ?_ ?_ ?_ ?_ ?_ ?_ <;> simp [gradedSecond, moveSecond]

theorem gradedSecond_joins (s : State) : Joins (EventAt s.now) 1 s.port (gradedSecond s).port :=
  gradeLink_joins (moveSecond s)

theorem gradedSecond_graded {s : State} {room : Prop} (h : s.conf.life ≠ .strapFault) (hr : room → Room s 1) :
    LinkGraded room s (gradedSecond s) :=
  gradeLink_graded h rfl ⟨rfl, rfl, rfl, rfl⟩ rfl (fun _ he => he) hr

theorem gradedSecond_strapFault {s : State} (h : s.conf.life = .strapFault) : (gradedSecond s).port = s.port := by
  rw [gradedSecond, gradeLink_strapFault (s := moveSecond s) h]; rfl

theorem coastSecond_other {s : State} (h : s.time.timeState ≠ .coast) : coastSecond s = s := by
  simp [coastSecond, h]

theorem coastSecond_on {s : State} (h : s.time.timeState = .coast) (hc : s.time.coastSeconds + 1 < s.items.coastMax) :
    coastSecond s = s.withTime { s.time with coastSeconds := s.time.coastSeconds + 1 } := by
  simp [coastSecond, h, Nat.not_le.mpr hc]

/-- The second in which the coast seconds reach COAST_MAX (R7, R9). -/
theorem coastSecond_lost {s : State} (h : s.time.timeState = .coast)
    (hc : s.items.coastMax ≤ s.time.coastSeconds + 1) :
    coastSecond s =
      raiseCause .time (report .timeLost 0 (valueU s.items.coastMax)
        (s.withTime { s.time with coastSeconds := s.time.coastSeconds + 1, timeState := .lost })) := by
  simp only [coastSecond, h, if_true, if_pos hc, enterLost]
  rfl

/-- The time base when the coast seconds have reached COAST_MAX (R7). -/
def lastCoast (s : State) : State :=
  (gradedSecond s).withTime { (gradedSecond s).time with coastSeconds := s.time.coastSeconds + 1, timeState := .lost }

/-- The state in which TIME is raised: LOST, with its event. -/
def lostState (s : State) : State := report .timeLost 0 (valueU s.items.coastMax) (lastCoast s)

@[simp] theorem lastCoast_now (s : State) : (lastCoast s).now = s.now := by simp [lastCoast, State.now]
@[simp] theorem lastCoast_conf (s : State) : (lastCoast s).conf = s.conf := by simp [lastCoast]
theorem lastCoast_port (s : State) : (lastCoast s).port = (gradedSecond s).port := rfl

theorem closeSecond_lost {s : State} (h : s.time.timeState = .coast)
    (hc : s.items.coastMax ≤ s.time.coastSeconds + 1) : closeSecond s = raiseCause .time (lostState s) := by
  have hi : (gradedSecond s).items = s.items := by simp [State.items]
  rw [closeSecond_eq, coastSecond_lost (by simpa using h) (by simpa [hi] using hc), hi]
  simp only [lostState, lastCoast, gradedSecond_time]

@[simp] theorem lostState_time (s : State) :
    (lostState s).time =
      { s.time with
        nextSecond := s.time.nextSecond + 1000000, coastSeconds := s.time.coastSeconds + 1, timeState := .lost } := by
  simp [lostState, lastCoast]

@[simp] theorem lostState_now (s : State) : (lostState s).now = s.now := by simp [State.now]

theorem lostState_frame (s : State) :
    lostState s = { s with time := (lostState s).time, port := (lostState s).port } := by
  refine State.eq_of_fields rfl rfl ?_ ?_ ?_ ?_ ?_ ?_ ?_ ?_ ?_ <;> simp [lostState, lastCoast, gradedSecond, moveSecond]

theorem lostState_joins (s : State) : Joins (EventAt s.now) 2 s.port (lostState s).port := by
  have j := report_joins_event .timeLost 0 (valueU s.items.coastMax) (lastCoast s)
  rw [lastCoast_now] at j
  exact (gradedSecond_joins s).trans j

theorem lostState_graded {s : State} (h : s.conf.life ≠ .strapFault) : LinkGraded (Room s 2) s (lostState s) := by
  have hg : LinkGraded (Room s 1) s (lastCoast s) := (gradedSecond_graded h id).of_port rfl (by simp)
  refine hg.of_joins (report_joins .timeLost 0 (valueU s.items.coastMax) (lastCoast s)) (report_sameLink ..) (by simp)
    (fun hr => ?_) fun f d hf => eventFrame_not_link (by decide) _ _ f hf.1
  have hl := (gradedSecond_joins s).length
  simp only [Room] at hr ⊢
  rw [lastCoast_port]
  exact ⟨by omega, by have := hl (by omega); omega⟩

theorem lostState_told {s : State} (hE : Enabled s .timeLost) (hr : Room s 2) :
    Queued (lostState s) (eventFrame s .timeLost 0 (BitVec.ofNat 32 s.items.coastMax)) (s.now + 1000000) := by
  simp only [Room] at hr
  have hlen := (gradedSecond_joins s).length (by omega)
  have q := report_queued .timeLost 0 (valueU s.items.coastMax) (lastCoast s)
    ⟨by simpa using hE.1, by simpa [State.items] using hE.2⟩ (by rw [lastCoast_port]; omega)
  rw [lastCoast_now] at q
  simpa [eventFrame, valueU, lostState] using q

theorem report_strapFault {s : State} (h : s.conf.life = .strapFault) (e : EventKind) (q : Nat) (v : BitVec 32) :
    report e q v s = s := by
  simp [report, offerFrame, State.inStrapFault, h]

theorem raiseCause_strapFault {s : State} (h : s.conf.life = .strapFault) (c : Cause) : raiseCause c s = s := by
  simp [raiseCause, State.inStrapFault, h]

theorem lostState_strapFault {s : State} (h : s.conf.life = .strapFault) : (lostState s).port = s.port := by
  rw [lostState, report_strapFault (by simpa using h), lastCoast_port, gradedSecond_strapFault h]

theorem HoldAt.not_link {f : Frame} {d : Nat} (h : HoldAt f d) (s : State) (q : Nat) (v : BitVec 32) :
    f ≠ eventFrame s .linkPoor q v ∧ f ≠ eventFrame s .linkClear q v := by
  simp only [HoldAt] at h
  refine ⟨?_, ?_⟩ <;> rintro rfl <;> cases h

end Sys2Proof.Machine

namespace Sys2Proof.Proofs
open Sys2Proof.Machine

/-- Settles O27: the grading, then by the time state and the coast seconds. -/
theorem linkSecondCloses : Obligations.LinkSecondCloses := by
  intro s hd
  have hconf := gradedSecond_conf s
  refine ⟨_, execLinkSecondClose_due hd, ?_⟩
  by_cases hc : s.time.timeState = .coast
  case neg =>
    have ht : closeSecond s = gradedSecond s := by rw [closeSecond_eq, coastSecond_other (by simpa using hc)]
    rw [ht]
    refine ⟨by simp, gradedSecond_strapFault, fun hl => gradedSecond_graded hl (fun hr => ?_), fun _ => ?_,
      fun h => absurd h hc, fun h => absurd h hc⟩
    · simp only [Room] at hr ⊢; omega
    · simpa using gradedSecond_frame s
  by_cases hm : s.items.coastMax ≤ s.time.coastSeconds + 1
  case neg =>
    have hlt := not_le.mp hm
    have ht : closeSecond s =
        (gradedSecond s).withTime { (gradedSecond s).time with coastSeconds := s.time.coastSeconds + 1 } := by
      rw [closeSecond_eq, coastSecond_on (by simpa using hc) (by simpa [State.items] using hlt), gradedSecond_time]
    rw [ht]
    refine ⟨by simp, fun hs => gradedSecond_strapFault hs, fun hl => ?_, fun h => absurd hc h, fun _ _ => ?_,
      fun _ h => absurd h hm⟩
    · have hg : LinkGraded (Room s 3) s (gradedSecond s) :=
        gradedSecond_graded hl fun hr => by simp only [Room] at hr ⊢; omega
      exact hg.of_port rfl (by simp [State.now])
    · rw [gradedSecond_frame s]; simp [State.withTime]
  rw [closeSecond_lost hc hm]
  have hf := lostState_frame s
  have hlife : (lostState s).conf = s.conf := by rw [hf]
  have hhold : (lostState s).hold = s.hold := by rw [hf]
  have hnow : (raiseCause .time (lostState s)).now = s.now := by simp [State.now]
  have hlen := (lostState_joins s).length
  refine ⟨by simp, fun hs => ?_, fun hl => ?_, fun h => absurd hc h, fun _ h => absurd hm (not_le.mpr h),
    fun _ _ => ⟨by simp, fun hl => ?_, fun hr hn => ⟨?_, ?_, fun hroom => ?_⟩, fun hE hroom => ?_⟩⟩
  · rw [raiseCause_strapFault (by rwa [hlife]), lostState_strapFault hs]
  · refine (lostState_graded hl).of_joins (raiseCause_joins .time (lostState s)) (raiseCause_sameLink ..)
      (by simp [State.now])
      (fun hr => ?_) fun f d hf => hf.not_link s
    simp only [Room] at hr ⊢
    exact ⟨by omega, by have := hlen (by omega); omega⟩
  · rw [raiseCause_causes (by rwa [hlife]), hhold]; rfl
  · rw [raiseCause_of_run (by rwa [hlife]) (by rw [hhold]; exact hn)]
    refine (actOnCause_holdTaken .time (addCause .time (lostState s))).of_same ?_ ?_ ?_ ?_ ?_ rfl rfl rfl rfl rfl <;>
      rw [hf] <;> rfl
  · rw [raiseCause_of_run (by rwa [hlife]) (by rw [hhold]; exact hn), actOnCause_repeatTimer]
    simp [State.now, State.items, hlife]
  · rw [raiseCause_of_run (by rwa [hlife]) (by rw [hhold]; exact hn)]
    simp only [Room] at hroom
    have q := actOnCause_queued .time (s := addCause .time (lostState s)) (by simp [hlife, hr])
      (by have := hlen (by omega); simp only [addCause_port]; omega)
    have hs : (addCause .time (lostState s)).currentSeq = s.currentSeq := by rw [hf]; rfl
    rw [hs] at q
    simpa [HoldQueued, State.now, hlife] using q
  · simp only [Room] at hroom
    exact (lostState_told hE (by simp only [Room]; omega)).of_joins (raiseCause_joins .time (lostState s))
      (by have := hlen (by omega); omega)

end Sys2Proof.Proofs
end

section
/-! CONFIG_ITEM: the items read back after one is put, the durations formed as ticks (R174, R175), and hence O30. -/

namespace Sys2Proof.Machine

/-! ### The payload (R35) -/

theorem readConfig_configPayload {n : Nat} {v : Int} (hn : n < 2 ^ 8) (h1 : -2 ^ 31 ≤ v) (h2 : v < 2 ^ 31) :
    readConfig (configPayload n v) = some (n, v) := by
  have hl : (configPayload n v).length = 5 := by simp [configPayload]
  have hu : fieldBytes (configPayload n v) 0 1 = bytesOfNat 1 n := by
    rw [fieldBytes, List.drop_zero, configPayload]
    exact List.take_left' (bytesOfNat_length 1 n)
  have hs : fieldBytes (configPayload n v) 1 4 = bytesOfInt 4 v := by
    rw [fieldBytes, configPayload, List.drop_left' (bytesOfNat_length 1 n)]
    exact List.take_of_length_le (bytesOfInt_length 4 v).le
  rw [readConfig, if_pos hl, fieldU, fieldS, hu, hs, natOfBytes_bytesOfNat, Nat.mod_eq_of_lt (by simpa using hn),
    intOfBytes_bytesOfInt 4 v (by norm_num; linarith) (by norm_num; linarith)]

/-! ### Items read and put -/

theorem PerRole.get_ofFn {α : Type} (f : Role → α) (r : Role) : (PerRole.ofFn f).get r = f r := by cases r <;> rfl

theorem PerRole.get_set {α : Type} (x : PerRole α) (r q : Role) (v : α) :
    (x.set r v).get q = if q = r then v else x.get q := by
  rw [PerRole.set, PerRole.get_ofFn]

/-- An item reads back the value put, which is not below its range. -/
theorem Items.read_put_same (c : Items) {v : Int} {i : Item} (h : i.lo ≤ v) : (c.put v i).read i = v := by
  cases i <;> simp only [Item.lo] at h <;> simp only [Items.put, Items.read, PerRole.get_set, if_true] <;> omega

/-- Putting an item leaves every other item as it was. -/
theorem Items.read_put_other (c : Items) (v : Int) {i j : Item} (h : j ≠ i) : (c.put v i).read j = c.read j := by
  cases i
  case addr r =>
    cases j
    case addr q =>
      have hq : q ≠ r := fun e => h (e ▸ rfl)
      simp only [Items.put, Items.read, PerRole.get_set, hq, if_false]
    all_goals rfl
  all_goals
    cases j <;> first | rfl | exact absurd rfl h

/-! ### The admitted value (R174) -/

theorem Item.lo_le_hi (i : Item) : i.lo ≤ i.hi := by cases i <;> simp [Item.lo, Item.hi]

theorem Item.clamp_range (i : Item) (v : Int) : i.lo ≤ max i.lo (min v i.hi) ∧ max i.lo (min v i.hi) ≤ i.hi := by
  have := i.lo_le_hi
  omega

theorem Item.admitted_of_ne {i : Item} (h : i ≠ .tickPeriod) (v : Int) : i.admitted v = max i.lo (min v i.hi) := by
  simp only [Item.admitted, h, if_false, clampInt]

/-- TICK_PERIOD is stepped down to a multiple of 250. -/
theorem Item.admitted_tickPeriod (v : Int) :
    250 ∣ Item.tickPeriod.admitted v ∧
      Item.tickPeriod.admitted v ≤ max Item.tickPeriod.lo (min v Item.tickPeriod.hi) ∧
      max Item.tickPeriod.lo (min v Item.tickPeriod.hi) < Item.tickPeriod.admitted v + 250 := by
  simp only [Item.admitted, clampInt, if_true]
  omega

theorem Item.admitted_range (i : Item) (v : Int) : i.lo ≤ i.admitted v ∧ i.admitted v ≤ i.hi := by
  have hc := i.clamp_range v
  by_cases h : i = .tickPeriod
  · subst h
    obtain ⟨hd, hle, hlt⟩ := Item.admitted_tickPeriod v
    simp only [Item.lo, Item.hi] at hc hle hlt ⊢
    omega
  · rw [Item.admitted_of_ne h]; exact hc

/-! ### Durations formed as ticks (R174) -/

theorem tickForm_formed {p : Nat} (hp : 0 < p) (m r : Nat) : TickFormed p m r (tickForm p m r) := by
  obtain ⟨hd, hle, hlt⟩ := ceilTo_spec hp r
  simp only [tickForm]
  split
  · exact ⟨hd, ‹_›, .inl ⟨hle, hlt⟩⟩
  · have hm := Nat.div_add_mod' m p
    have := Nat.mod_lt m hp
    exact ⟨Nat.dvd_mul_left _ _, by omega, .inr ⟨by omega, by omega⟩⟩

/-- Two multiples of a period less than a period apart are the same. -/
theorem multiple_unique {p x y : Nat} (hx : p ∣ x) (hy : p ∣ y) (h1 : x < y + p) (h2 : y < x + p) : x = y := by
  obtain ⟨a, rfl⟩ := hx
  obtain ⟨b, rfl⟩ := hy
  have hab : a < b + 1 := by by_contra h; nlinarith
  have hba : b < a + 1 := by by_contra h; nlinarith
  rw [show a = b by omega]

/-- What a received duration forms is fixed by the period and the maximum. -/
theorem TickFormed.unique {p m r x y : Nat} (hx : TickFormed p m r x) (hy : TickFormed p m r y) : x = y := by
  obtain ⟨dx, mx, cx⟩ := hx
  obtain ⟨dy, my, cy⟩ := hy
  exact multiple_unique dx dy (by omega) (by omega)

/-! ### The configuration block after an item (R173, R174) -/

@[simp] theorem putReceived_items (v : Nat) (i : Item) (b : ConfigBlock) : (putReceived v i b).items = b.items := by
  cases i <;> rfl

theorem putReceived_settle (v : Nat) (i : Item) (b : ConfigBlock) :
    (putReceived v i b).receivedSettle = if i = .settleAllow then v else b.receivedSettle := by
  cases i <;> rfl

theorem putReceived_brake (v : Nat) (i : Item) (b : ConfigBlock) :
    (putReceived v i b).receivedBrake = if i = .brakeDelay then v else b.receivedBrake := by
  cases i <;> rfl

/-- Forming the durations anew reaches no other item. -/
theorem reformTicks_read (b : ConfigBlock) {j : Item} (h1 : j ≠ .settleAllow) (h2 : j ≠ .brakeDelay) :
    (reformTicks b).items.read j = b.items.read j := by
  cases j
  case settleAllow => exact absurd rfl h1
  case brakeDelay => exact absurd rfl h2
  all_goals rfl

section
variable (i : Item) (v : Int) (b : ConfigBlock)

theorem putItem_read_same (h1 : i ≠ .settleAllow) (h2 : i ≠ .brakeDelay) :
    (putItem i v b).items.read i = i.admitted v := by
  simp only [putItem, reformTicks_read _ h1 h2, putReceived_items]
  exact Items.read_put_same _ (i.admitted_range v).1

theorem putItem_read_other {j : Item} (h : j ≠ i) (h1 : j ≠ .settleAllow) (h2 : j ≠ .brakeDelay) :
    (putItem i v b).items.read j = b.items.read j := by
  simp only [putItem, reformTicks_read _ h1 h2, putReceived_items]
  exact Items.read_put_other _ _ h

theorem putItem_receivedSettle :
    (putItem i v b).receivedSettle = if i = .settleAllow then (i.admitted v).toNat else b.receivedSettle :=
  putReceived_settle ..

theorem putItem_receivedBrake :
    (putItem i v b).receivedBrake = if i = .brakeDelay then (i.admitted v).toNat else b.receivedBrake :=
  putReceived_brake ..

theorem putItem_conf :
    putItem i v b =
      { b with
        items := (putItem i v b).items, receivedSettle := (putItem i v b).receivedSettle
        receivedBrake := (putItem i v b).receivedBrake } := by
  cases i <;> rfl

theorem putItem_tickPeriod_same : ((putItem .tickPeriod v b).items.tickPeriod : Int) = Item.tickPeriod.admitted v :=
  putItem_read_same .tickPeriod v b (by decide) (by decide)

theorem putItem_tickPeriod_other (h : i ≠ .tickPeriod) : (putItem i v b).items.tickPeriod = b.items.tickPeriod := by
  have := putItem_read_other i v b (j := .tickPeriod) (Ne.symm h) (by decide) (by decide)
  simpa [Items.read] using this

end

/-! ### The state after an item (R14, R77, R174) -/

theorem takeItem_conf (i : Item) (v : Int) (s : State) : (takeItem i v s).conf = putItem i v s.conf := rfl

theorem takeItem_items (i : Item) (v : Int) (s : State) : (takeItem i v s).items = (putItem i v s.conf).items := rfl

theorem State.Configured.tickPeriod_pos {s : State} (h : s.Configured) : 0 < s.items.tickPeriod := by
  have := (h.ranges .tickPeriod).1
  simp only [Items.read, Item.lo] at this
  omega

/-- The period stays a positive multiple of 250 in its range. -/
theorem takeItem_tickPeriod (i : Item) (v : Int) {s : State} (h : s.Configured) :
    250 ∣ (takeItem i v s).items.tickPeriod ∧ 0 < (takeItem i v s).items.tickPeriod := by
  by_cases hi : i = .tickPeriod
  · subst hi
    have hr := putItem_tickPeriod_same v s.conf
    obtain ⟨hd, -, -⟩ := Item.admitted_tickPeriod v
    have hlo := (Item.admitted_range .tickPeriod v).1
    rw [← hr] at hd hlo
    simp only [Item.lo] at hlo
    rw [takeItem_items]
    omega
  · rw [takeItem_items, putItem_tickPeriod_other i v s.conf hi]
    exact ⟨h.step, h.tickPeriod_pos⟩

theorem takeItem_configured (i : Item) (v : Int) {s : State} (h : s.Configured) : (takeItem i v s).Configured := by
  obtain ⟨hstep, hpos⟩ := takeItem_tickPeriod i v h
  have hs : TickFormed (takeItem i v s).items.tickPeriod 10000000 (takeItem i v s).conf.receivedSettle
      (takeItem i v s).items.settleAllow := tickForm_formed hpos _ _
  have hb : TickFormed (takeItem i v s).items.tickPeriod 2000000 (takeItem i v s).conf.receivedBrake
      (takeItem i v s).items.brakeDelay := tickForm_formed hpos _ _
  refine ⟨fun j => ?_, hstep, hs, hb, rfl⟩
  by_cases h1 : j = .settleAllow
  · subst h1
    simp only [Items.read, Item.lo, Item.hi]
    have := hs.2.1
    omega
  by_cases h2 : j = .brakeDelay
  · subst h2
    simp only [Items.read, Item.lo, Item.hi]
    have := hb.2.1
    omega
  rw [takeItem_items]
  by_cases hj : j = i
  · subst hj
    rw [putItem_read_same j v s.conf h1 h2]
    exact j.admitted_range v
  · rw [putItem_read_other i v s.conf hj h1 h2]
    exact h.ranges j

/-- No item changes but the one put and, with a new tick, the two durations. -/
theorem takeItem_read_other (i : Item) (v : Int) {s : State} (h : s.Configured) {j : Item} (hj : j ≠ i)
    (ht : i = .tickPeriod → j ≠ .settleAllow ∧ j ≠ .brakeDelay) :
    (takeItem i v s).items.read j = s.items.read j := by
  have hc := takeItem_configured i v h
  by_cases h1 : j = .settleAllow
  · subst h1
    have hi : i ≠ .tickPeriod := fun e => (ht e).1 rfl
    have hp := putItem_tickPeriod_other i v s.conf hi
    have hr : (putItem i v s.conf).receivedSettle = s.conf.receivedSettle := by
      rw [putItem_receivedSettle, if_neg hj.symm]
    have hs := hc.settle
    rw [takeItem_conf, hr, takeItem_items, hp] at hs
    exact congrArg _ (hs.unique h.settle)
  by_cases h2 : j = .brakeDelay
  · subst h2
    have hi : i ≠ .tickPeriod := fun e => (ht e).2 rfl
    have hp := putItem_tickPeriod_other i v s.conf hi
    have hr : (putItem i v s.conf).receivedBrake = s.conf.receivedBrake := by
      rw [putItem_receivedBrake, if_neg hj.symm]
    have hb := hc.brake
    rw [takeItem_conf, hr, takeItem_items, hp] at hb
    exact congrArg _ (hb.unique h.brake)
  exact putItem_read_other i v s.conf hj h1 h2

theorem State.Configured.receiving {s : State} (h : s.Configured) (r : Option Reception) : (s.receiving r).Configured :=
  ⟨h.ranges, h.step, h.settle, h.brake, h.rate⟩

/-- The received value of SETTLE_ALLOW is that of a taken one, clamped (R173). -/
theorem takeItem_receivedSettle (i : Item) (v : Int) (s : State) :
    (takeItem i v s).conf.receivedSettle =
      if i = .settleAllow then (max i.lo (min v i.hi)).toNat else s.conf.receivedSettle := by
  rw [takeItem_conf, putItem_receivedSettle]
  by_cases h : i = .settleAllow
  · rw [if_pos h, if_pos h, Item.admitted_of_ne (by simp [h])]
  · rw [if_neg h, if_neg h]

theorem takeItem_receivedBrake (i : Item) (v : Int) (s : State) :
    (takeItem i v s).conf.receivedBrake =
      if i = .brakeDelay then (max i.lo (min v i.hi)).toNat else s.conf.receivedBrake := by
  rw [takeItem_conf, putItem_receivedBrake]
  by_cases h : i = .brakeDelay
  · rw [if_pos h, if_pos h, Item.admitted_of_ne (by simp [h])]
  · rw [if_neg h, if_neg h]

theorem takeItem_time_same {i : Item} {v : Int} {s : State}
    (h : (takeItem i v s).items.tickPeriod = s.items.tickPeriod) : (takeItem i v s).time = s.time :=
  (takeItem_time i v s).trans (if_pos h)

theorem takeItem_time_new {i : Item} {v : Int} {s : State}
    (h : (takeItem i v s).items.tickPeriod ≠ s.items.tickPeriod) :
    (takeItem i v s).time = { s.time with nextTick := nextMultiple (takeItem i v s).items.tickPeriod s.now } :=
  (takeItem_time i v s).trans (if_neg h)

theorem nextMultiple_spec {p : Nat} (hp : 0 < p) (t : Nat) :
    p ∣ nextMultiple p t ∧ t < nextMultiple p t ∧ nextMultiple p t ≤ t + p := by
  have hd := Nat.div_add_mod' t p
  have := Nat.mod_lt t hp
  refine ⟨Nat.dvd_mul_left _ _, ?_, ?_⟩ <;> simp only [nextMultiple, Nat.add_mul] <;> omega

theorem itemOfNumber_none {n : Nat} (h : n = 0 ∨ 37 < n) : itemOfNumber n = none := by
  cases n with
  | zero => rfl
  | succ n =>
    refine List.getElem?_eq_none ?_
    simp only [itemOrder, List.length_cons, List.length_nil]
    omega

theorem itemOfNumber_some {n : Nat} (h1 : 1 ≤ n) (h2 : n ≤ 37) : ∃ i, itemOfNumber n = some i := by
  cases n with
  | zero => omega
  | succ n =>
    have hl : n < itemOrder.length := by
      simp only [itemOrder, List.length_cons, List.length_nil]
      omega
    exact ⟨_, List.getElem?_eq_getElem hl⟩

end Sys2Proof.Machine

namespace Sys2Proof.Proofs
open Sys2Proof.Machine

/-- Settles O30: the refusals in their order, then the taken item. -/
theorem configItemIsAdmitted : Obligations.ConfigItemIsAdmitted := by
  intro o n v s hn h1 h2 hconf hp c
  have hx : exec c s = .next ((judgeConfig (configPayload n v) s).state.receiving
      (heardAs c (judgeConfig (configPayload n v) s).taken s)) :=
    congrArg Host.Outcome.next (hear_of_passes (judgeConfig (configPayload n v)) hp rfl)
  refine ⟨_, hx, ?_⟩
  simp only [judgeConfig, readConfig_configPayload hn h1 h2, State.inRun, decide_eq_true_eq]
  have refuses : ∀ r,
      Refuses c s ((refuseCommand r .config n s).receiving (heardAs c false s)) r .commandRefused 0 7 n :=
    fun r => refuse_refuses c s r .config n .commandRefused 0
  by_cases hr : s.conf.life = .run
  · simp only [hr, if_true]; exact refuses .locked
  by_cases he : s.hold.causes.estop = true
  · simp only [hr, he, if_true, if_false]; exact refuses .state
  rw [Bool.not_eq_true] at he
  simp only [hr, he, Bool.false_eq_true, if_false]
  refine ⟨fun hu => ?_, fun h1 h2 => itemOfNumber_some h1 h2, fun i hi => ?_⟩
  · simp only [itemOfNumber_none hu]; exact refuses .unknown
  simp only [hi, take]
  have hcf := takeItem_configured i v hconf
  obtain ⟨-, hpos⟩ := takeItem_tickPeriod i v hconf
  refine ⟨hcf.receiving _, fun ht hs hb => ?_, fun ht => ?_, takeItem_receivedSettle i v s,
    takeItem_receivedBrake i v s, fun j hj ht => takeItem_read_other i v hconf hj ht, takeItem_time_same,
    fun hne => ?_, rfl, putItem_conf i v s.conf, rfl, rfl⟩
  · exact (putItem_read_same i v s.conf hs hb).trans (Item.admitted_of_ne ht v)
  · subst ht
    have hv := putItem_tickPeriod_same v s.conf
    obtain ⟨-, hle, hlt⟩ := Item.admitted_tickPeriod v
    rw [← hv] at hle hlt
    exact ⟨hle, hlt⟩
  · have ht := takeItem_time_new hne
    obtain ⟨hd, hlt, hle⟩ := nextMultiple_spec hpos s.now
    refine ⟨by rw [State.receiving_time, ht], ?_⟩
    rw [State.receiving_time, ht]
    exact ⟨hd, hlt, hle⟩

end Sys2Proof.Proofs
end

section
/-! The servo tick: the sample, the counters, the causes raised and ended, the transfer (R158 to R164), and hence
O33. -/

namespace Sys2Proof.Machine

/-! ### What the measurements of a tick outlive -/

/-- The items of the axis interface that steps 1 to 3 of a tick measure, and the last setpoint, are the same. -/
structure SameMeasures (a b : AxisInterface) : Prop where
  lastSetpoint : b.lastSetpoint = a.lastSetpoint
  lastEncoder : b.lastEncoder = a.lastEncoder
  fe : b.fe = a.fe
  failureCount : b.failureCount = a.failureCount
  goodRun : b.goodRun = a.goodRun
  tripCount : b.tripCount = a.tripCount

theorem SameMeasures.refl (a : AxisInterface) : SameMeasures a a := ⟨rfl, rfl, rfl, rfl, rfl, rfl⟩

theorem SameMeasures.trans {a b c : AxisInterface} (h : SameMeasures a b) (k : SameMeasures b c) : SameMeasures a c :=
  ⟨k.lastSetpoint.trans h.lastSetpoint, k.lastEncoder.trans h.lastEncoder, k.fe.trans h.fe,
    k.failureCount.trans h.failureCount, k.goodRun.trans h.goodRun, k.tripCount.trans h.tripCount⟩

theorem settleOutputs_measures (s : State) : SameMeasures s.axis (settleOutputs s).axis :=
  ⟨rfl, rfl, rfl, rfl, rfl, rfl⟩

theorem enterMotion_measures (m : Motion) (s : State) : SameMeasures s.axis (enterMotion m s).axis :=
  ⟨rfl, rfl, rfl, rfl, rfl, rfl⟩

theorem endMotion_measures (g : Int) (a t : Nat) (s : State) : SameMeasures s.axis (endMotion g a t s).axis := by
  rw [endMotion, reportMotionEnd_axis]
  exact ⟨rfl, rfl, rfl, rfl, rfl, rfl⟩

theorem takeHold_measures (line : Bool) (s : State) : SameMeasures s.axis (takeHold line s).axis := by
  refine .trans ?_ (enterMotion_measures _ _)
  simp only [stopBrakeTimer]
  split <;> simp only [dropSettle, holdPlan] <;> exact ⟨rfl, rfl, rfl, rfl, rfl, rfl⟩

theorem actOnCause_measures (c : Cause) (s : State) : SameMeasures s.axis (actOnCause c s).axis := by
  simpa [actOnCause] using takeHold_measures c.isLine s

theorem raiseCause_measures (c : Cause) (s : State) : SameMeasures s.axis (raiseCause c s).axis := by
  simp only [raiseCause]
  (repeat' split)
  · exact .refl _
  · exact actOnCause_measures c (addCause c s)
  · exact settleOutputs_measures (addCause c s)

theorem endCause_measures (c : Cause) (s : State) : SameMeasures s.axis (endCause c s).axis := by
  simp only [endCause]
  split
  · exact .refl _
  · exact ⟨rfl, rfl, rfl, rfl, rfl, rfl⟩

/-! ### The trajectory unit's work (R89, R118, R138, R139) -/

theorem reportSaturated_motion (b : Trajectory) (s : State) : (reportSaturated b s).traj.motion = s.traj.motion := by
  simp only [reportSaturated]
  split <;> simp

theorem trackingTick_motion (rec : Record) (t : Nat) (s : State) :
    (trackingTick rec t s).state.traj.motion = s.traj.motion := by
  simp [trackingTick, reportSaturated_motion, stepGuide, stepOffset, stepTrack]

theorem plainTick_motion (s : State) (h : Handover) : (plainTick s h).state.traj.motion = s.traj.motion := rfl

theorem endMotion_motion (g : Int) (a t : Nat) (s : State) :
    (endMotion g a t s).traj.motion = modeAtMotionEnd a t := by
  simp [endMotion, enterMotion]

/-- The work of a tick is done when the record it needs is held (R118). -/
theorem tickWork_answers {t : Nat} {s : State} (h : onRecord s.traj.motion = true → s.store.current ≠ none) :
    ∃ w, tickWork t s = some w := by
  have held : ∀ u : State, u.store = s.store → onRecord s.traj.motion = true → ∃ w, tickOnRecord t u = some w := by
    intro u hu hm
    obtain ⟨rec, hr⟩ := Option.ne_none_iff_exists'.mp (h hm)
    exact ⟨_, by rw [tickOnRecord, hu, hr]; rfl⟩
  simp only [tickWork]
  split
  case h_1 p hm =>
    simp only [slewingTick]
    split
    · exact ⟨_, rfl⟩
    · exact held _ (by simp) (by simp [hm, onRecord])
  case h_2 hm => exact held _ (by split <;> simp) (by simp [hm, onRecord])
  case h_3 hm => exact held _ rfl (by simp [hm, onRecord])
  all_goals exact ⟨_, rfl⟩

theorem tickOnRecord_motion {t : Nat} {s : State} {w : TickWork} (h : tickOnRecord t s = some w) :
    w.state.traj.motion = s.traj.motion := by
  simp only [tickOnRecord, Option.map_eq_some_iff] at h
  obtain ⟨rec, -, rfl⟩ := h
  exact trackingTick_motion ..

/-- The mode in force at step 4 of a tick (R117). -/
theorem tickWork_mode {s u : State} {w : TickWork} (h : tickWork u.time.nextTick s = some w) (hu : u.traj = s.traj) :
    motionCode w.state.traj.motion = u.modeAtTick := by
  simp only [State.modeAtTick, hu]
  simp only [tickWork] at h
  cases hm : s.traj.motion <;> simp only [hm] at h ⊢
  case slewing p =>
    simp only [slewingTick] at h
    split at h
    case isTrue hlt =>
      cases h
      rw [if_pos hlt, plainTick_motion, hm]; rfl
    case isFalse hlt =>
      rw [if_neg hlt, tickOnRecord_motion h, endMotion_motion, modeAtMotionEnd]
      split <;> rfl
  case settling =>
    rw [tickOnRecord_motion h]
    split
    · rfl
    · rw [hm]; rfl
  case tracking => rw [tickOnRecord_motion h, hm]; rfl
  case stopping p =>
    cases h
    simp only [stoppingTick]
    split
    · rw [plainTick_motion, hm]; rfl
    · rfl
  all_goals cases h; rw [plainTick_motion, hm]; rfl

theorem trackingTick_axis (rec : Record) (t : Nat) (s : State) : (trackingTick rec t s).state.axis = s.axis := by
  simp [trackingTick]

theorem tickOnRecord_axis {t : Nat} {s : State} {w : TickWork} (h : tickOnRecord t s = some w) :
    w.state.axis = s.axis := by
  simp only [tickOnRecord, Option.map_eq_some_iff] at h
  obtain ⟨rec, -, rfl⟩ := h
  exact trackingTick_axis ..

/-- The work of a tick reaches the outputs of the axis interface alone. -/
theorem tickWork_measures {t : Nat} {s : State} {w : TickWork} (h : tickWork t s = some w) :
    SameMeasures s.axis w.state.axis := by
  simp only [tickWork] at h
  cases hm : s.traj.motion <;> simp only [hm] at h
  case slewing p =>
    simp only [slewingTick] at h
    split at h
    · cases h; exact .refl _
    · rw [tickOnRecord_axis h]; exact endMotion_measures ..
  case settling =>
    rw [tickOnRecord_axis h]
    split
    · exact enterMotion_measures ..
    · exact .refl _
  case tracking => rw [tickOnRecord_axis h]; exact .refl _
  case stopping p =>
    cases h
    simp only [stoppingTick]
    split
    · exact .refl _
    · exact enterMotion_measures _ s
  all_goals cases h; exact .refl _

/-- Any frame may join. -/
def AnyFrame (_ : Frame) (_ : Nat) : Prop := True

theorem report_joins_any {p : SpanPort} {s : State} (h : s.port = p) (e : EventKind) (q : Nat) (v : BitVec 32) :
    Joins AnyFrame 1 p (report e q v s).port :=
  h ▸ (report_joins e q v s).mono le_rfl fun _ _ _ => trivial

theorem reportSaturated_joins {p : SpanPort} (b : Trajectory) {s : State} (h : s.port = p) :
    Joins AnyFrame 1 p (reportSaturated b s).port := by
  simp only [reportSaturated]
  split
  · refine report_joins_any ?_ _ _ _
    exact h
  · exact .of_queue (h ▸ rfl) (h ▸ rfl)

theorem reportAbandonCause_joins (c : AbandonCause) (s : State) :
    Joins AnyFrame 1 s.port (reportAbandonCause c s).port := by
  have offered : ∀ u : State, u.port = s.port → ∀ x d, Joins AnyFrame 1 s.port (offerFrame .abandon x d u).port :=
    fun u hu x d => hu ▸ (offerFrame_joins .abandon x d u (by decide) (by decide)).mono le_rfl fun _ _ _ => trivial
  simp only [reportAbandonCause]
  split
  · refine offered _ ?_ _ _
    rfl
  · exact .refl _

theorem reportLosses_joins (limited : Bool) (s : State) : Joins AnyFrame 2 s.port (reportLosses limited s).port := by
  have first : Joins AnyFrame 1 s.port
      (if (s.items.lagLimit : Int) < |s.traj.lag| then reportAbandonCause .trackLost s else s).port := by
    split
    · exact reportAbandonCause_joins ..
    · exact .refl _
  simp only [reportLosses]
  split
  · exact first.trans (reportAbandonCause_joins ..)
  · exact first.mono (by omega) fun _ _ _ => trivial

theorem tickOnRecord_joins {t : Nat} {s : State} {w : TickWork} (h : tickOnRecord t s = some w) :
    Joins AnyFrame 3 s.port w.state.port := by
  simp only [tickOnRecord, Option.map_eq_some_iff] at h
  obtain ⟨rec, -, rfl⟩ := h
  simp only [trackingTick]
  refine Joins.trans (n := 1) (m := 2) ?_ (reportLosses_joins _ _)
  exact reportSaturated_joins _ (State.withTraj_port ..)

/-- GUIDE SATURATED and one ABANDON for each loss: no more joins the queue at the work of a tick. -/
theorem tickWork_joins {t : Nat} {s : State} {w : TickWork} (h : tickWork t s = some w) :
    Joins AnyFrame 3 s.port w.state.port := by
  simp only [tickWork] at h
  cases hm : s.traj.motion <;> simp only [hm] at h
  case slewing p =>
    simp only [slewingTick] at h
    split at h
    · cases h; exact .refl _
    · simpa using tickOnRecord_joins h
  case settling =>
    have j := tickOnRecord_joins h
    split at j
    · simpa using j
    · exact j
  case tracking => exact tickOnRecord_joins h
  case stopping p =>
    cases h
    refine .of_queue ?_ ?_ <;> simp only [stoppingTick] <;> split <;> simp [plainTick]
  all_goals cases h; exact .refl _

/-! ### Causes raised and ended at a tick (R162, R164) -/

@[simp] theorem endCause_causes {c : Cause} {s : State} (h : s.conf.life ≠ .strapFault) :
    (endCause c s).hold.causes = s.hold.causes.set false c := by
  simp [endCause, State.inStrapFault, h]

section
variable {good : Bool} {n : Nat} {m : Motion} {s : State}

/-- ENCODER after a tick (R162). -/
theorem reportEncoder_causes (h : s.conf.life ≠ .strapFault) :
    (reportEncoder good n s).hold.causes =
      { s.hold.causes with
        encoder := (!good && decide (s.axis.failureCount = 3)) ||
          (s.hold.causes.encoder && !(good && decide (n + 1 = 3))) } := by
  simp only [reportEncoder]
  split
  case isTrue hr => rw [raiseCause_causes h, hr]; rfl
  case isFalse hr =>
    rw [Bool.not_eq_true] at hr
    rw [hr, Bool.false_or]
    split
    case isTrue he =>
      simp only [Bool.and_eq_true] at he
      obtain ⟨⟨hg, hE⟩, hn⟩ := he
      rw [endCause_causes h, hg, hE, hn]
      rfl
    case isFalse he =>
      have hk : (s.hold.causes.encoder && !(good && decide (n + 1 = 3))) = s.hold.causes.encoder := by
        cases hE : s.hold.causes.encoder
        · rfl
        · cases good
          · rfl
          · simpa [hE] using he
      rw [hk]

/-- FOLLOWING after a tick (R164). -/
theorem reportFollowing_causes (h : s.conf.life ≠ .strapFault) :
    (reportFollowing m s).hold.causes =
      { s.hold.causes with
        following := (feOver s.items s.axis && decide (s.axis.tripCount = s.items.feTripCount)) ||
          (s.hold.causes.following && !(!feOver s.items s.axis && decide (motionCode m = 4))) } := by
  simp only [reportFollowing]
  split
  case isTrue hr => rw [raiseCause_causes h, hr]; rfl
  case isFalse hr =>
    rw [Bool.not_eq_true] at hr
    rw [hr, Bool.false_or]
    split
    case isTrue he =>
      simp only [Bool.and_eq_true] at he
      obtain ⟨⟨hF, ho⟩, hm⟩ := he
      rw [endCause_causes h, hF, ho, hm]
      rfl
    case isFalse he =>
      have hk : (s.hold.causes.following && !(!feOver s.items s.axis && decide (motionCode m = 4))) =
          s.hold.causes.following := by
        cases hF : s.hold.causes.following
        · rfl
        · cases ho : feOver s.items s.axis
          · simpa [hF, ho] using he
          · rfl
      rw [hk]

/-- Where ENCODER is raised in RUN, a hold is taken for it. -/
theorem reportEncoder_raised (hr : s.conf.life = .run) (hn : s.hold.causes.encoder = false)
    (ht : (reportEncoder good n s).hold.causes.encoder = true) :
    reportEncoder good n s = actOnCause .encoder (addCause .encoder s) := by
  rw [reportEncoder_causes (by simp [hr]), hn, Bool.false_and, Bool.or_false] at ht
  simp only at ht
  rw [reportEncoder, if_pos ht, raiseCause_of_run (c := .encoder) hr hn]

theorem reportFollowing_raised (hr : s.conf.life = .run) (hn : s.hold.causes.following = false)
    (ht : (reportFollowing m s).hold.causes.following = true) :
    reportFollowing m s = actOnCause .following (addCause .following s) := by
  rw [reportFollowing_causes (by simp [hr]), hn, Bool.false_and, Bool.or_false] at ht
  simp only at ht
  rw [reportFollowing, if_pos ht, raiseCause_of_run (c := .following) hr hn]

/-- Where ENCODER stays as it was, nothing is done. -/
theorem reportEncoder_same (h : s.conf.life ≠ .strapFault)
    (he : (reportEncoder good n s).hold.causes.encoder = s.hold.causes.encoder) : reportEncoder good n s = s := by
  simp only [reportEncoder] at he ⊢
  split
  case isTrue hr =>
    rw [if_pos hr, raiseCause_causes h] at he
    exact raiseCause_of_has (c := .encoder) he.symm
  case isFalse hr =>
    rw [if_neg hr] at he
    split
    case isTrue hq =>
      rw [if_pos hq, endCause_causes h] at he
      simp only [Bool.and_eq_true] at hq
      rw [hq.1.2] at he
      cases he
    case isFalse => rfl

theorem reportFollowing_same (h : s.conf.life ≠ .strapFault)
    (he : (reportFollowing m s).hold.causes.following = s.hold.causes.following) : reportFollowing m s = s := by
  simp only [reportFollowing] at he ⊢
  split
  case isTrue hr =>
    rw [if_pos hr, raiseCause_causes h] at he
    exact raiseCause_of_has (c := .following) he.symm
  case isFalse hr =>
    rw [if_neg hr] at he
    split
    case isTrue hq =>
      rw [if_pos hq, endCause_causes h] at he
      simp only [Bool.and_eq_true] at hq
      rw [hq.1.1] at he
      cases he
    case isFalse => rfl

theorem raiseCause_joins_any (c : Cause) (s : State) : Joins AnyFrame 1 s.port (raiseCause c s).port :=
  (raiseCause_joins c s).mono le_rfl fun _ _ _ => trivial

theorem reportEncoder_joins : Joins AnyFrame 1 s.port (reportEncoder good n s).port := by
  simp only [reportEncoder]
  (repeat' split)
  · exact raiseCause_joins_any ..
  · exact .of_queue (by simp) (by simp)
  · exact .refl _

theorem reportFollowing_joins : Joins AnyFrame 1 s.port (reportFollowing m s).port := by
  simp only [reportFollowing]
  (repeat' split)
  · exact raiseCause_joins_any ..
  · exact .of_queue (by simp) (by simp)
  · exact .refl _

theorem reportEncoder_measures : SameMeasures s.axis (reportEncoder good n s).axis := by
  simp only [reportEncoder]
  (repeat' split)
  · exact raiseCause_measures ..
  · exact endCause_measures ..
  · exact .refl _

theorem reportFollowing_measures : SameMeasures s.axis (reportFollowing m s).axis := by
  simp only [reportFollowing]
  (repeat' split)
  · exact raiseCause_measures ..
  · exact endCause_measures ..
  · exact .refl _

/-- A raised cause changes the mode alone of the trajectory unit (R136). -/
theorem raiseCause_lastTick (c : Cause) (s : State) : (raiseCause c s).traj.lastTick = s.traj.lastTick := by
  simp only [raiseCause]
  (repeat' split)
  · rfl
  · simp [actOnCause, takeHold_traj]
  · simp

theorem reportEncoder_lastTick : (reportEncoder good n s).traj.lastTick = s.traj.lastTick := by
  simp only [reportEncoder]
  (repeat' split)
  · exact raiseCause_lastTick ..
  · simp
  · rfl

theorem reportFollowing_lastTick : (reportFollowing m s).traj.lastTick = s.traj.lastTick := by
  simp only [reportFollowing]
  (repeat' split)
  · exact raiseCause_lastTick ..
  · simp
  · rfl

/-- The plan is HELD, no settle record is held, and the repeat timer runs to an instant (R134, R140). -/
structure HeldUntil (x : Nat) (s : State) : Prop where
  plan : s.round.plan = some .held
  settle : s.axis.settle = none
  timer : s.hold.repeatTimer = some x

theorem actOnCause_heldUntil (c : Cause) (s : State) : HeldUntil (s.now + s.items.holdRepeat) (actOnCause c s) where
  plan := by rw [(actOnCause_holdTaken c s).plan]
  settle := (actOnCause_holdTaken c s).settle
  timer := actOnCause_repeatTimer c s

theorem endCause_heldUntil {x : Nat} (c : Cause) (h : HeldUntil x s) : HeldUntil x (endCause c s) where
  plan := by simpa using h.plan
  settle := by
    obtain ⟨on, brake, link, ha⟩ := endCause_axis c s
    rw [ha]; exact h.settle
  timer := by
    simp only [endCause]
    split
    · exact h.timer
    · simpa using h.timer

/-- A hold taken at a tick lasts through FOLLOWING, whether it is raised or ended. -/
theorem reportFollowing_heldUntil (h : HeldUntil (s.now + s.items.holdRepeat) s) :
    HeldUntil (s.now + s.items.holdRepeat) (reportFollowing m s) := by
  simp only [reportFollowing]
  (repeat' split)
  · simp only [raiseCause]
    (repeat' split)
    · exact h
    · exact actOnCause_heldUntil .following (addCause .following s)
    · exact ⟨by simpa using h.plan, h.settle, by simpa [addCause] using h.timer⟩
  · exact endCause_heldUntil _ h
  · exact h

end

/-! ### Steps 3, 5 and 6 (R159, R162 to R168) -/

theorem composeEvents_joins (l : List TickEvent) (s : State) :
    Joins AnyFrame l.length s.port (l.foldl composeEvent s).port := by
  induction l generalizing s with
  | nil => exact .refl _
  | cons e l ih =>
    rw [List.length_cons, Nat.add_comm]
    exact (report_joins_any rfl e.kind e.seq e.value).trans (ih (composeEvent s e))

/-- Steps 5 and 6: the transfer, the last feedforward and tick, the trace. -/
def handOver (t : Nat) (h : Handover) (s : State) : State :=
  let s := s.withAxis (transfer h s.axis)
  let s := s.withTraj { s.traj with lastFeedforward := h.feedforward, lastTick := t }
  s.withAxis { s.axis with
    ring := (traceStep t (tickEntry t h s) s.axis).ring, phase := (traceStep t (tickEntry t h s) s.axis).phase }

/-- The trace composes one event at most (R168). -/
theorem traceStep_events (t : Nat) (e : TraceEntry) (a : AxisInterface) : (traceStep t e a).events.length ≤ 1 := by
  simp only [traceStep, stopWhen]
  (repeat' split) <;> simp

theorem settleEvents_length (b a : Option SettleRecord) (fe : Int) (t : Nat) : (settleEvents b a fe t).length ≤ 2 := by
  simp only [settleEvents]
  (repeat' split) <;> simp

/-- Step 7: the causes, then the events of steps 3 and 6. -/
theorem finishTick_eq (t : Nat) (good : Bool) (n : Nat) (found : List TickEvent) (h : Handover) (s : State) :
    ∃ l : List TickEvent, l.length ≤ found.length + 1 ∧
      finishTick t good n found h s =
        l.foldl composeEvent (reportFollowing s.traj.motion (reportEncoder good n (handOver t h s))) := by
  refine ⟨_, ?_, rfl⟩
  rw [List.length_append]
  exact Nat.add_le_add_left (traceStep_events ..) _

section
variable (t : Nat) (h : Handover) (s : State)

@[simp] theorem handOver_time : (handOver t h s).time = s.time := rfl
@[simp] theorem handOver_port : (handOver t h s).port = s.port := rfl
@[simp] theorem handOver_store : (handOver t h s).store = s.store := rfl
@[simp] theorem handOver_round : (handOver t h s).round = s.round := rfl
@[simp] theorem handOver_hold : (handOver t h s).hold = s.hold := rfl
@[simp] theorem handOver_conf : (handOver t h s).conf = s.conf := rfl
@[simp] theorem handOver_pins : (handOver t h s).pins = s.pins := rfl

end

section
variable (c : Items) (persists counts good : Bool) (t : Nat) (a : AxisInterface)

theorem countSample_other : (countSample good persists a).lastSetpoint = a.lastSetpoint ∧
    (countSample good persists a).lastEncoder = a.lastEncoder ∧ (countSample good persists a).fe = a.fe ∧
    (countSample good persists a).tripCount = a.tripCount := by
  simp only [countSample]
  split <;> exact ⟨rfl, rfl, rfl, rfl⟩

/-- The counters of step 3 (R162, R164) over the sample of steps 1 and 2. -/
theorem countAxis_counts :
    (countAxis c persists counts good t a).lastSetpoint = a.lastSetpoint ∧
    (countAxis c persists counts good t a).lastEncoder = a.lastEncoder ∧
    (countAxis c persists counts good t a).fe = a.fe ∧
    (countAxis c persists counts good t a).failureCount = (if good then 0 else min (a.failureCount + 1) 3) ∧
    (countAxis c persists counts good t a).goodRun =
      (if !good then 0 else if !persists then a.goodRun else if a.goodRun = 2 then 0 else a.goodRun + 1) ∧
    (countAxis c persists counts good t a).tripCount =
      (if feOver c a then min (a.tripCount + 1) c.feTripCount else 0) := by
  obtain ⟨hsp, hen, hfe, htr⟩ := countSample_other persists good a
  refine ⟨hsp, hen, hfe, ?_, ?_, ?_⟩
  · cases good <;> rfl
  · have h3 : a.goodRun + 1 = 3 ↔ a.goodRun = 2 := by omega
    cases good <;> cases persists <;> simp [countAxis, countTrip, countSample, h3]
  · have ho : feOver c (countSample good persists a) = feOver c a := by simp only [feOver, hfe]
    simp only [countAxis, countTrip, ho, htr]

end

/-! ### A tick in CONFIG or RUN (R158) -/

/-- The state before step 7: the work done, the counters of step 3 taken, the setpoint handed over. -/
def countedTick (t : Nat) (good : Option Int) (w : TickWork) : State :=
  handOver t w.out (w.state.withAxis
    (countAxis w.state.items w.state.hold.causes.encoder (tracks w.state.traj.motion) good.isSome t w.state.axis))

/-- Step 7 of a tick whose good run stood at `n` and whose mode at step 4 is `m`, with the events found. -/
def closeTick (good : Bool) (n : Nat) (m : Motion) (l : List TickEvent) (u : State) : State :=
  l.foldl composeEvent (reportFollowing m (reportEncoder good n u))

theorem countAndFinish_eq (t : Nat) (good : Option Int) (w : TickWork) :
    ∃ l : List TickEvent, l.length ≤ 3 ∧
      countAndFinish t good w =
        closeTick good.isSome w.state.axis.goodRun w.state.traj.motion l (countedTick t good w) := by
  obtain ⟨l, hl, he⟩ := finishTick_eq t good.isSome w.state.axis.goodRun
    (settleEvents w.state.axis.settle
      (countAxis w.state.items w.state.hold.causes.encoder (tracks w.state.traj.motion) good.isSome t
        w.state.axis).settle
      (countAxis w.state.items w.state.hold.causes.encoder (tracks w.state.traj.motion) good.isSome t w.state.axis).fe
      t) w.out
    (w.state.withAxis
      (countAxis w.state.items w.state.hold.causes.encoder (tracks w.state.traj.motion) good.isSome t w.state.axis))
  have := settleEvents_length w.state.axis.settle
    (countAxis w.state.items w.state.hold.causes.encoder (tracks w.state.traj.motion) good.isSome t w.state.axis).settle
    (countAxis w.state.items w.state.hold.causes.encoder (tracks w.state.traj.motion) good.isSome t w.state.axis).fe t
  exact ⟨l, by omega, he⟩

/-- What a tick has brought about before step 7, from `s` to `u`: the sample, the counters, the transfer, and at most
three frames of the trajectory unit's work. -/
structure TickCounted (good : Option Int) (s u : State) : Prop where
  time : u.time = { s.time with nextTick := s.time.nextTick + s.items.tickPeriod }
  store : u.store = s.store
  hold : u.hold = s.hold
  conf : u.conf = s.conf
  pins : u.pins = s.pins
  lastTick : u.traj.lastTick = s.time.nextTick
  lastEncoder : u.axis.lastEncoder = good.getD s.axis.lastEncoder
  fe : u.axis.fe = followingError s.axis.lastSetpoint (good.getD s.axis.lastEncoder)
  failureCount : u.axis.failureCount = if good.isSome then 0 else min (s.axis.failureCount + 1) 3
  goodRun : u.axis.goodRun =
    if !good.isSome then 0 else if !s.hold.causes.encoder then s.axis.goodRun
    else if s.axis.goodRun = 2 then 0 else s.axis.goodRun + 1
  tripCount : u.axis.tripCount = if feOver s.items u.axis then min (s.axis.tripCount + 1) s.items.feTripCount else 0
  sent : ∃ sp, u.axis.lastSetpoint = some sp ∧ u.axis.link = some ⟨u.axis.driveEnable, sp, u.traj.lastFeedforward⟩
  joins : Joins AnyFrame 3 s.port u.port

theorem countedTick_counted {good : Option Int} {s : State} {w : TickWork}
    (h : tickWork s.time.nextTick ((advanceTick s).withAxis (sampleAxis good (advanceTick s).axis)) = some w) :
    TickCounted good s (countedTick s.time.nextTick good w) := by
  have hhold : w.state.hold = s.hold := by simpa using tickWork_hold _ _ _ h
  have hconf : w.state.conf = s.conf := by simpa using tickWork_conf _ _ _ h
  have hm := tickWork_measures h
  have hc := countAxis_counts w.state.items w.state.hold.causes.encoder (tracks w.state.traj.motion) good.isSome
    s.time.nextTick w.state.axis
  obtain ⟨hsp, hen, hfe, hfc, hgr, htr⟩ := hc
  refine ⟨?_, ?_, hhold, hconf, ?_, rfl, hen.trans hm.lastEncoder, hfe.trans hm.fe, ?_, ?_, ?_, ⟨_, rfl, rfl⟩, ?_⟩
  · simpa [countedTick, advanceTick] using tickWork_time _ _ _ h
  · simpa [countedTick] using tickWork_store _ _ _ h
  · simpa [countedTick] using tickWork_pins _ _ _ h
  · exact hfc.trans (by rw [hm.failureCount]; rfl)
  · exact hgr.trans (by rw [hm.goodRun, hhold]; rfl)
  · have hf : (countedTick s.time.nextTick good w).axis.fe = w.state.axis.fe := hfe
    refine htr.trans ?_
    simp only [feOver, hf, hm.tripCount, State.items, hconf]
    rfl
  · simpa [countedTick] using tickWork_joins h

/-- The third failure in a row (R162). -/
theorem TickCounted.fails {good : Option Int} {s u : State} (h : TickCounted good s u) :
    (!good.isSome && decide (u.axis.failureCount = 3)) = true ↔ good.isSome = false ∧ 2 ≤ s.axis.failureCount := by
  rw [h.failureCount]
  cases good.isSome
  · simp only [Bool.not_false, Bool.true_and, decide_eq_true_eq, Bool.false_eq_true, if_false, true_and]
    omega
  · simp

/-- The trip counter at its count over FE_TRIP, also where the count has been lowered (R164, log 43). -/
theorem TickCounted.trips {good : Option Int} {s u : State} (h : TickCounted good s u) :
    (feOver u.items u.axis && decide (u.axis.tripCount = u.items.feTripCount)) = true ↔
      feOver u.items u.axis = true ∧ s.items.feTripCount ≤ s.axis.tripCount + 1 := by
  have hi : u.items = s.items := by rw [State.items, h.conf, State.items]
  rw [h.tripCount, hi, Bool.and_eq_true, decide_eq_true_eq]
  refine and_congr_right fun ho => ?_
  rw [if_pos ho]
  omega

/-- A tick taken now in CONFIG or RUN: what stands before step 7, then step 7. -/
theorem execServoTick_live (reply : EncoderReply) {s : State} (h : s.TickNow) :
    ∃ u m l, TickCounted (goodPosition reply) s u ∧ motionCode m = s.modeAtTick ∧ l.length ≤ 3 ∧
      exec (.servoTick reply) s = .next (closeTick (goodPosition reply).isSome s.axis.goodRun m l u) := by
  have hd : tickDue s.time = true := by simpa [tickDue, State.now] using h.due
  have hl : (advanceTick s).inStrapFault = false := by simp [State.inStrapFault, h.live]
  obtain ⟨w, hw⟩ := tickWork_answers (t := s.time.nextTick)
    (s := (advanceTick s).withAxis (sampleAxis (goodPosition reply) (advanceTick s).axis)) (by simpa using h.current)
  obtain ⟨l, hlen, hf⟩ := countAndFinish_eq s.time.nextTick (goodPosition reply) w
  have hn : w.state.axis.goodRun = s.axis.goodRun := (tickWork_measures hw).goodRun
  refine ⟨_, w.state.traj.motion, l, countedTick_counted hw, tickWork_mode hw (by simp), hlen, ?_⟩
  rw [← hn, ← hf]
  simp only [exec, execServoTick, hd, if_true, tickAt, hl, liveTick, hw, Option.map_some, Bool.false_eq_true, if_false]

theorem execServoTick_strapFault (reply : EncoderReply) {s : State} (h : s.conf.life = .strapFault)
    (hd : s.time.nextTick ≤ s.now) : exec (.servoTick reply) s = .next (strapTick (advanceTick s)) := by
  have hd : tickDue s.time = true := by simpa [tickDue, State.now] using hd
  have hl : (advanceTick s).inStrapFault = true := by simp [State.inStrapFault, h]
  simp only [exec, execServoTick, hd, if_true, tickAt, hl]


/-! ### Step 7 of a tick (R162 to R164) -/

section
variable {good : Bool} {n : Nat} {m : Motion} {l : List TickEvent} {u : State}

theorem closeTick_kept :
    (closeTick good n m l u).time = u.time ∧ (closeTick good n m l u).store = u.store ∧
      (closeTick good n m l u).conf = u.conf ∧ (closeTick good n m l u).pins = u.pins ∧
      (closeTick good n m l u).traj.lastTick = u.traj.lastTick := by
  refine ⟨?_, ?_, ?_, ?_, ?_⟩
  any_goals simp [closeTick]
  rw [reportFollowing_lastTick, reportEncoder_lastTick]

theorem closeTick_measures : SameMeasures u.axis (closeTick good n m l u).axis := by
  rw [closeTick, composeEvents_axis]
  exact reportEncoder_measures.trans reportFollowing_measures

theorem closeTick_causes (h : u.conf.life ≠ .strapFault) :
    (closeTick good n m l u).hold.causes =
      { u.hold.causes with
        encoder := (!good && decide (u.axis.failureCount = 3)) ||
          (u.hold.causes.encoder && !(good && decide (n + 1 = 3)))
        following := (feOver u.items u.axis && decide (u.axis.tripCount = u.items.feTripCount)) ||
          (u.hold.causes.following && !(!feOver u.items u.axis && decide (motionCode m = 4))) } := by
  have hx := reportEncoder_measures (good := good) (n := n) (s := u)
  have hi : (reportEncoder good n u).items = u.items := by simp [State.items]
  have ho : feOver u.items (reportEncoder good n u).axis = feOver u.items u.axis := by simp only [feOver, hx.fe]
  rw [closeTick, composeEvents_hold, reportFollowing_causes (by simpa using h), hi, ho, hx.tripCount,
    reportEncoder_causes h]

/-- Where the causes stay as they were, so does the axis interface. -/
theorem closeTick_same (h : u.conf.life ≠ .strapFault) (hc : (closeTick good n m l u).hold.causes = u.hold.causes) :
    (closeTick good n m l u).axis = u.axis ∧ (closeTick good n m l u).traj = u.traj := by
  have he : (reportEncoder good n u).hold.causes.encoder = u.hold.causes.encoder := by
    have := congrArg CauseSet.encoder hc
    rwa [closeTick, composeEvents_hold, reportFollowing_causes (by simpa using h)] at this
  have hx := reportEncoder_same h he
  have hf : (reportFollowing m u).hold.causes.following = u.hold.causes.following := by
    have := congrArg CauseSet.following hc
    rwa [closeTick, composeEvents_hold, hx] at this
  rw [closeTick, composeEvents_axis, composeEvents_traj, hx, reportFollowing_same h hf]
  exact ⟨rfl, rfl⟩

/-- In RUN a raised ENCODER or FOLLOWING takes the hold. -/
theorem closeTick_held (hr : u.conf.life = .run)
    (hc : ((closeTick good n m l u).hold.causes.encoder = true ∧ u.hold.causes.encoder = false) ∨
      ((closeTick good n m l u).hold.causes.following = true ∧ u.hold.causes.following = false)) :
    HeldUntil (u.now + u.items.holdRepeat) (closeTick good n m l u) := by
  have hlive : u.conf.life ≠ .strapFault := by simp [hr]
  have hnow : (reportEncoder good n u).now + (reportEncoder good n u).items.holdRepeat =
      u.now + u.items.holdRepeat := by
    simp [State.now, State.items]
  suffices k : HeldUntil (u.now + u.items.holdRepeat) (reportFollowing m (reportEncoder good n u)) from
    ⟨by simpa [closeTick] using k.plan, by simpa [closeTick] using k.settle, by simpa [closeTick] using k.timer⟩
  rw [closeTick, composeEvents_hold] at hc
  rw [← hnow]
  rcases hc with ⟨he, hn⟩ | ⟨hf, hn⟩
  · rw [reportFollowing_causes (by simpa using hlive)] at he
    refine reportFollowing_heldUntil ?_
    rw [hnow, reportEncoder_raised hr hn he]
    exact actOnCause_heldUntil .encoder (addCause .encoder u)
  · have hn' : (reportEncoder good n u).hold.causes.following = false := by rw [reportEncoder_causes hlive]; exact hn
    rw [reportFollowing_raised (by simpa using hr) hn' hf]
    exact actOnCause_heldUntil .following (addCause .following (reportEncoder good n u))

theorem currentSeq_of_store {s t : State} (h : t.store = s.store) : t.currentSeq = s.currentSeq := by
  simp only [State.currentSeq, h]

/-- With room the HOLD of a raised ENCODER is queued and outlives the rest of the tick. -/
theorem closeTick_encoderHold (hr : u.conf.life = .run) (room : u.port.queue.length + 2 + l.length ≤ 8)
    (he : (closeTick good n m l u).hold.causes.encoder = true) (hn : u.hold.causes.encoder = false) :
    Queued (closeTick good n m l u)
      ⟨.hold, u.conf.straps.address, 0x3E,
        holdPayload ⟨causeCode .encoder, u.currentSeq, causeBits { u.hold.causes with encoder := true }⟩⟩
      (u.now + 50000) := by
  have hx : (reportEncoder good n u).hold.causes.encoder = true := by
    rwa [closeTick, composeEvents_hold, reportFollowing_causes (by simp [hr])] at he
  have q := actOnCause_queued .encoder (s := addCause .encoder u) (by simp [hr]) (by rw [addCause_port]; omega)
  rw [← reportEncoder_raised hr hn hx] at q
  have hlen := (reportEncoder_joins (good := good) (n := n) (s := u)).length (by omega)
  exact q.of_joins (reportFollowing_joins.trans (composeEvents_joins l _)) (by omega)

theorem closeTick_followingHold (hr : u.conf.life = .run) (room : u.port.queue.length + 2 + l.length ≤ 8)
    (hf : (closeTick good n m l u).hold.causes.following = true) (hn : u.hold.causes.following = false) :
    HoldQueued .following u (closeTick good n m l u) := by
  have hlive : u.conf.life ≠ .strapFault := by simp [hr]
  have hn' : (reportEncoder good n u).hold.causes.following = false := by rw [reportEncoder_causes hlive]; exact hn
  have hx : (reportFollowing m (reportEncoder good n u)).hold.causes.following = true := by
    rwa [closeTick, composeEvents_hold] at hf
  have hlen := (reportEncoder_joins (good := good) (n := n) (s := u)).length (by omega)
  have hlen' := (reportFollowing_joins (m := m) (s := reportEncoder good n u)).length (by omega)
  have q := actOnCause_queued .following (s := addCause .following (reportEncoder good n u)) (by simp [hr])
    (by rw [addCause_port]; omega)
  have hraised := reportFollowing_raised (by simpa using hr) hn' hx
  have hcauses : (addCause .following (reportEncoder good n u)).hold.causes =
      (closeTick good n m l u).hold.causes := by
    rw [closeTick, composeEvents_hold, hraised, actOnCause_causes]
  rw [hcauses, ← hraised, currentSeq_of_store (s := u) (by simp)] at q
  have q := q.of_joins (t := closeTick good n m l u) (composeEvents_joins l _) (by omega)
  simpa [HoldQueued, State.now] using q

end

end Sys2Proof.Machine

namespace Sys2Proof.Proofs
open Sys2Proof.Machine

/-- Settles O33: what stands before step 7 by `TickCounted`, and step 7 by the causes it raises and ends. -/
theorem tickSamplesAndCounts : Obligations.TickSamplesAndCounts := by
  refine ⟨fun reply s hl hd => execServoTick_strapFault reply hl hd, ?_⟩
  intro reply s h e good
  obtain ⟨u, m, l, hu, hm, hlen, hx⟩ := execServoTick_live reply h
  have hlive : u.conf.life ≠ .strapFault := hu.conf ▸ h.live
  have hnow : u.now = s.now := by simp [State.now, hu.time]
  have hitems : u.items = s.items := by rw [State.items, hu.conf, State.items]
  have hcauses := closeTick_causes (good := good) (n := s.axis.goodRun) (m := m) (l := l) hlive
  obtain ⟨ktime, kstore, kconf, kpins, ktick⟩ :=
    closeTick_kept (good := good) (n := s.axis.goodRun) (m := m) (l := l) (u := u)
  have km := closeTick_measures (good := good) (n := s.axis.goodRun) (m := m) (l := l) (u := u)
  obtain ⟨sp, hsp, hlink⟩ := hu.sent
  have hover : feOver u.items u.axis = true ↔
      (s.items.feTrip : Int) < |(closeTick good s.axis.goodRun m l u).axis.fe| := by
    rw [km.fe, hitems, feOver, decide_eq_true_eq]
  have hroom : Room s 8 → u.port.queue.length + 2 + l.length ≤ 8 := fun hr => by
    have := hu.joins.length
    simp only [Room] at hr
    omega
  rw [hu.hold] at hcauses
  refine ⟨_, hx, ⟨ktime.trans hu.time, kstore.trans hu.store, kconf.trans hu.conf, kpins.trans hu.pins,
    ktick.trans hu.lastTick⟩, km.lastEncoder.trans hu.lastEncoder, fun hn => ?_, fun p hp => ?_,
    km.failureCount.trans hu.failureCount, km.goodRun.trans hu.goodRun, ?_, ?_, ?_, ?_, fun hr hc => ?_,
    fun hr hq => ⟨fun he hn => ?_, fun hf hn => ?_⟩, sp, km.lastSetpoint.trans hsp, fun hc => ?_⟩
  · rw [km.fe, hu.fe, hn]; rfl
  · rw [km.fe, hu.fe, hp]; rfl
  · rw [km.tripCount, hu.tripCount, ← hitems]
    by_cases ho : feOver u.items u.axis = true
    · rw [if_pos ho, hitems, if_pos (hover.mp ho)]
    · rw [if_neg ho, hitems, if_neg (ho ∘ hover.mpr)]
  · rw [hcauses, Bool.or_eq_true, hu.fails]
    have h3 : s.axis.goodRun + 1 = 3 ↔ s.axis.goodRun = 2 := by omega
    simp only [Bool.and_eq_true, Bool.not_eq_true', ← Bool.not_eq_true, decide_eq_true_eq, h3]
    rfl
  · rw [← hover, hcauses, Bool.or_eq_true, hu.trips, ← hm]
    simp only [Bool.and_eq_true, Bool.not_eq_true', ← Bool.not_eq_true, decide_eq_true_eq]
    tauto
  · rw [hcauses]
  · rw [← hu.hold] at hc
    have k := closeTick_held (hu.conf ▸ hr) hc
    exact ⟨k.plan, k.settle, by rw [k.timer, hnow, hitems]⟩
  · have q := closeTick_encoderHold (hu.conf ▸ hr) (hroom hq) he (by rwa [hu.hold])
    rwa [hu.conf, hu.hold, hnow, currentSeq_of_store hu.store] at q
  · have q := closeTick_followingHold (hu.conf ▸ hr) (hroom hq) hf (by rwa [hu.hold])
    rwa [HoldQueued, hu.conf, hnow, currentSeq_of_store hu.store] at q
  · rw [← hu.hold] at hc
    obtain ⟨ha, hj⟩ := closeTick_same hlive hc
    rw [ha, hj]; exact hlink

end Sys2Proof.Proofs
end

section
/-! The transmit queue kept in order: where an entry joins, and what each operation of the port keeps (R21, R28 to R32);
hence O43. -/

namespace Sys2Proof.Machine

/-! ### Where an entry joins (R28) -/

/-- In a queue in order of rank an entry joins behind its own rank and before every lower one. -/
theorem insertByRank_place (e : Entry) {q : List Entry}
    (h : q.Pairwise fun a b => rankOf a.frame ≤ rankOf b.frame) :
    ∃ before after, insertByRank e q = before ++ e :: after ∧ before ++ after = q ∧
      (∀ x ∈ before, rankOf x.frame ≤ rankOf e.frame) ∧ ∀ x ∈ after, rankOf e.frame < rankOf x.frame := by
  induction q with
  | nil => exact ⟨[], [], rfl, rfl, by simp, by simp⟩
  | cons x xs ih =>
    obtain ⟨hx, hxs⟩ := List.pairwise_cons.mp h
    simp only [insertByRank]
    split
    · rename_i hlt
      refine ⟨[], x :: xs, rfl, rfl, by simp, fun y hy => ?_⟩
      rcases List.mem_cons.mp hy with rfl | hy
      · exact hlt
      · exact hlt.trans_le (hx y hy)
    · rename_i hge
      obtain ⟨b, a, he, hq, hb, ha⟩ := ih hxs
      refine ⟨x :: b, a, by simp [he], by simp [hq], fun y hy => ?_, ha⟩
      rcases List.mem_cons.mp hy with rfl | hy
      · omega
      · exact hb y hy

theorem insertByRank_perm (e : Entry) (q : List Entry) : (insertByRank e q).Perm (e :: q) := by
  obtain ⟨b, a, he, rfl⟩ := insertByRank_split e q
  rw [he]
  exact List.perm_middle

theorem insertByRank_ranks (e : Entry) {q : List Entry}
    (h : q.Pairwise fun a b => rankOf a.frame ≤ rankOf b.frame) :
    (insertByRank e q).Pairwise fun a b => rankOf a.frame ≤ rankOf b.frame := by
  obtain ⟨b, a, he, rfl, hb, ha⟩ := insertByRank_place e h
  obtain ⟨hpb, hpa, hba⟩ := List.pairwise_append.mp h
  rw [he, List.pairwise_append, List.pairwise_cons]
  refine ⟨hpb, ⟨fun x hx => (ha x hx).le, hpa⟩, fun x hx y hy => ?_⟩
  rcases List.mem_cons.mp hy with rfl | hy
  · exact hb x hx
  · exact hba x hx y hy

/-! ### The queue in order -/

/-- The part of `SpanPort.Ordered` that speaks of the queue, `next` being the number that the next entry gets. -/
structure QueueOrdered (next : Nat) (q : List Entry) : Prop where
  room : q.length ≤ 8
  ranks : q.Pairwise fun a b => rankOf a.frame ≤ rankOf b.frame
  oneStatus : (q.filter fun e => decide (e.frame.cls = .status)).length ≤ 1
  onePropose : (q.filter fun e => decide (e.frame.cls = .propose)).length ≤ 1
  distinct : q.Pairwise fun a b => a.id ≠ b.id
  numbered : ∀ e ∈ q, e.id < next

theorem SpanPort.Ordered.queueOrdered {p : SpanPort} (h : p.Ordered) : QueueOrdered p.nextEntry p.queue :=
  ⟨h.room, h.ranks, h.oneStatus, h.onePropose, h.distinct, h.numbered⟩

theorem QueueOrdered.sublist {n : Nat} {q r : List Entry} (h : QueueOrdered n q) (hs : r.Sublist q) :
    QueueOrdered n r where
  room := hs.length_le.trans h.room
  ranks := h.ranks.sublist hs
  oneStatus := (hs.filter _).length_le.trans h.oneStatus
  onePropose := (hs.filter _).length_le.trans h.onePropose
  distinct := h.distinct.sublist hs
  numbered := fun e he => h.numbered e (hs.subset he)

/-- No entry of a class is queued, where the class is STATUS or PROPOSE. -/
def ClassFree (c : FrameClass) (q : List Entry) : Prop := (c = .status ∨ c = .propose) → ∀ x ∈ q, x.frame.cls ≠ c

/-- An entry that joins keeps the single STATUS and PROPOSE where none of its class is queued (R30). -/
theorem single_of_join {c : FrameClass} (hc : c = .status ∨ c = .propose) {e : Entry} {q : List Entry}
    (h : (q.filter fun x => decide (x.frame.cls = c)).length ≤ 1) (hf : ClassFree e.frame.cls q) :
    ((insertByRank e q).filter fun x => decide (x.frame.cls = c)).length ≤ 1 := by
  rw [((insertByRank_perm e q).filter _).length_eq]
  by_cases he : e.frame.cls = c
  · subst he
    have hn : q.filter (fun x => decide (x.frame.cls = e.frame.cls)) = [] :=
      List.filter_eq_nil_iff.mpr fun x hx => by simpa using hf hc x hx
    simp [hn]
  · simpa [List.filter_cons, he] using h

/-- An entry joins a queue in order that has room, under a number of its own. -/
theorem QueueOrdered.join {n m : Nat} {q : List Entry} {e : Entry} (h : QueueOrdered n q) (room : q.length < 8)
    (hf : ClassFree e.frame.cls q) (hd : ∀ x ∈ q, x.id ≠ e.id) (he : e.id < m) (hn : n ≤ m) :
    QueueOrdered m (insertByRank e q) where
  room := by rw [insertByRank_length]; omega
  ranks := insertByRank_ranks e h.ranks
  oneStatus := single_of_join (.inl rfl) h.oneStatus hf
  onePropose := single_of_join (.inr rfl) h.onePropose hf
  distinct := ((insertByRank_perm e q).pairwise_iff fun hab => hab.symm).mpr
    (List.pairwise_cons.mpr ⟨fun x hx => (hd x hx).symm, h.distinct⟩)
  numbered := fun x hx => by
    rcases (mem_insertByRank x e q).mp hx with rfl | hx
    · exact he
    · exact (h.numbered x hx).trans_le hn

/-! ### What the port's operations keep -/

/-- An ordered port with another queue in order and entry numbers not below is ordered. -/
theorem SpanPort.Ordered.withQueue {p : SpanPort} (h : p.Ordered) {n : Nat} {q : List Entry} (hq : QueueOrdered n q)
    (hn : p.nextEntry ≤ n) : SpanPort.Ordered { p with queue := q, nextEntry := n } :=
  { h with
    room := hq.room, ranks := hq.ranks, oneStatus := hq.oneStatus, onePropose := hq.onePropose
    distinct := hq.distinct, numbered := hq.numbered, copied := fun a ha => (h.copied a ha).trans_le hn }

theorem SpanPort.Ordered.sublist {p : SpanPort} (h : p.Ordered) {q : List Entry} (hq : q.Sublist p.queue) :
    SpanPort.Ordered { p with queue := q } :=
  h.withQueue (h.queueOrdered.sublist hq) le_rfl

/-- Another attempt on an entry already numbered. -/
theorem SpanPort.Ordered.withAttempt {p : SpanPort} (h : p.Ordered) {a : Option Attempt}
    (ha : ∀ x, a = some x → x.entry < p.nextEntry) : SpanPort.Ordered { p with attempt := a } :=
  { h with copied := ha }

theorem SpanPort.Ordered.withReception {p : SpanPort} (h : p.Ordered) (r : Option Reception) :
    SpanPort.Ordered { p with reception := r } := { h with }

theorem SpanPort.Ordered.withLinkState {p : SpanPort} (h : p.Ordered) (l : LinkState) :
    SpanPort.Ordered { p with linkState := l } := { h with }

theorem raiseCounter_le (c n : Nat) : raiseCounter c n ≤ 65535 := Nat.min_le_right _ _

theorem SpanPort.Ordered.withExpired {p : SpanPort} (h : p.Ordered) (n : Nat) :
    SpanPort.Ordered { p with txExpired := raiseCounter p.txExpired n } :=
  { h with expiredHolds := raiseCounter_le _ _ }

theorem SpanPort.Ordered.withDropped {p : SpanPort} (h : p.Ordered) (n : Nat) :
    SpanPort.Ordered { p with txDropped := raiseCounter p.txDropped n } :=
  { h with droppedHolds := raiseCounter_le _ _ }

theorem SpanPort.Ordered.join {p : SpanPort} (h : p.Ordered) {f : Frame} (now d : Nat) (room : p.queue.length < 8)
    (hf : ClassFree f.cls p.queue) : (p.join f now d).Ordered :=
  h.withQueue
    (h.queueOrdered.join room hf (fun x hx => (h.numbered x hx).ne) (Nat.lt_succ_self _) (Nat.le_succ _))
    (Nat.le_succ _)

/-- The entry that an offered frame replaces (R30). -/
theorem find?_replaces (f : Frame) (q : List Entry) :
    q.find? (replaces f) =
      if f.cls = .status ∨ f.cls = .propose then q.find? (fun e => decide (e.frame.cls = f.cls)) else none := by
  split
  · rename_i h
    congr 1
    funext e
    simpa [replaces] using fun _ => h
  · rename_i h
    simp only [not_or] at h
    simp [replaces, h]

theorem replaces_cls {f : Frame} {q : List Entry} {old : Entry} (h : q.find? (replaces f) = some old) :
    old.frame.cls = f.cls := by
  have hr := List.find?_some h
  simp only [replaces, Bool.and_eq_true, decide_eq_true_eq] at hr
  exact hr.2

theorem classFree_of_find? {f : Frame} {q : List Entry} (h : q.find? (replaces f) = none) : ClassFree f.cls q := by
  intro hc x hx hcls
  rw [find?_replaces, if_pos hc, List.find?_eq_none] at h
  exact h x hx (by simpa using hcls)

theorem ClassFree.sublist {c : FrameClass} {q r : List Entry} (h : ClassFree c q) (hs : r.Sublist q) : ClassFree c r :=
  fun hc x hx => h hc x (hs.subset hx)

/-- Once the one entry of a class is gone, none of it is queued. -/
theorem classFree_erase {c : FrameClass} {q : List Entry} {old : Entry} (hm : old ∈ q) (ho : old.frame.cls = c)
    (hone : (q.filter fun e => decide (e.frame.cls = c)).length ≤ 1) : ∀ x ∈ q.erase old, x.frame.cls ≠ c := by
  intro x hx hc
  have hp := (List.perm_cons_erase hm).filter fun e => decide (e.frame.cls = c)
  have hl : 0 < ((q.erase old).filter fun e => decide (e.frame.cls = c)).length :=
    List.length_pos_of_mem (List.mem_filter.mpr ⟨hx, by simpa using hc⟩)
  rw [hp.length_eq] at hone
  simp only [List.filter_cons, ho, decide_true, if_true, List.length_cons] at hone
  omega

theorem SpanPort.Ordered.classFree_erase {p : SpanPort} (h : p.Ordered) {old : Entry} (hm : old ∈ p.queue) :
    ClassFree old.frame.cls (p.queue.erase old) := by
  rintro (hc | hc) <;> refine Machine.classFree_erase hm rfl ?_ <;> rw [hc]
  · exact h.oneStatus
  · exact h.onePropose

/-- The other entries have other numbers. -/
theorem id_ne_of_mem_erase {q : List Entry} {old : Entry} (hd : q.Pairwise fun a b => a.id ≠ b.id) (hm : old ∈ q) :
    ∀ x ∈ q.erase old, x.id ≠ old.id := by
  have hp := ((List.perm_cons_erase hm).pairwise_iff fun hab => hab.symm).mp hd
  exact fun x hx => ((List.pairwise_cons.mp hp).1 x hx).symm

theorem SpanPort.Ordered.replace {p : SpanPort} (h : p.Ordered) {f : Frame} {old : Entry} (now d : Nat)
    (hm : old ∈ p.queue) (ho : old.frame.cls = f.cls) : (p.replace old f now d).Ordered := by
  have hq : QueueOrdered p.nextEntry (insertByRank ⟨old.id, f, now, d⟩ (p.queue.erase old)) := by
    refine (h.queueOrdered.sublist List.erase_sublist).join ?_ (ho ▸ h.classFree_erase hm)
      (id_ne_of_mem_erase h.distinct hm) (h.numbered old hm) le_rfl
    have := List.length_erase_of_mem hm
    have := List.length_pos_of_mem hm
    have := h.room
    omega
  refine (h.withQueue hq le_rfl).withAttempt fun a ha => ?_
  obtain ⟨b, hb, rfl⟩ := Option.map_eq_some_iff.mp ha
  have := h.copied b hb
  split <;> exact this

theorem SpanPort.Ordered.offerFull {p : SpanPort} (h : p.Ordered) {f : Frame} (now d : Nat)
    (hf : ClassFree f.cls p.queue) : (p.offerFull f now d).Ordered := by
  simp only [SpanPort.offerFull]
  split
  · rename_i low hlow
    split
    · have hs := List.dropLast_sublist p.queue
      have hne : p.queue ≠ [] := by rintro hn; simp [hn] at hlow
      have hlt : p.queue.dropLast.length < 8 := by
        have := List.length_pos_iff.mpr hne
        have := h.room
        rw [List.length_dropLast]
        omega
      exact ((h.sublist hs).join now d hlt (hf.sublist hs)).withDropped 1
    · exact h.withDropped 1
  · exact h.withDropped 1

theorem SpanPort.Ordered.offer {p : SpanPort} (h : p.Ordered) (f : Frame) (now d : Nat) :
    (p.offer f now d).Ordered := by
  simp only [SpanPort.offer]
  split
  · exact h.withExpired 1
  · split
    · rename_i old hfind
      exact h.replace now d (List.mem_of_find?_eq_some hfind) (replaces_cls hfind)
    · rename_i hfind
      split
      · rename_i room
        exact h.join now d room (classFree_of_find? hfind)
      · exact h.offerFull now d (classFree_of_find? hfind)

theorem SpanPort.Ordered.expire {p : SpanPort} (h : p.Ordered) (now : Nat) : (p.expire now).Ordered := by
  refine ((h.sublist List.filter_sublist).withAttempt fun a ha => ?_).withExpired _
  obtain ⟨b, hb, rfl⟩ := Option.map_eq_some_iff.mp ha
  exact h.copied b hb

theorem SpanPort.Ordered.copyHead {p : SpanPort} (h : p.Ordered) : p.copyHead.Ordered := by
  refine h.withAttempt fun a ha => ?_
  obtain ⟨e, he, rfl⟩ := Option.map_eq_some_iff.mp ha
  exact h.numbered e (List.mem_of_head? he)

theorem SpanPort.Ordered.beginAttempt {p : SpanPort} (h : p.Ordered) (now : Nat) : (p.beginAttempt now).Ordered := by
  simp only [SpanPort.beginAttempt]
  split
  · exact (h.expire now).copyHead
  · exact h

theorem SpanPort.Ordered.keepForRetry {p : SpanPort} (h : p.Ordered) (a : Attempt) (e : Entry) (now : Nat) :
    (p.keepForRetry a e now).Ordered := by
  simp only [SpanPort.keepForRetry]
  split
  · exact (h.sublist List.erase_sublist).withExpired 1
  · exact h

theorem SpanPort.Ordered.endAttempt {p : SpanPort} (h : p.Ordered) (r : MediumResult) (now : Nat) :
    (p.endAttempt r now).Ordered := by
  have ended : SpanPort.Ordered { p with attempt := none } := h.withAttempt (by simp)
  simp only [SpanPort.endAttempt, SpanPort.settleAttempt]
  (repeat' split)
  · exact h
  · exact ended
  · exact ended.keepForRetry ..
  · exact ended.sublist List.erase_sublist
  · exact ended.keepForRetry ..
  · exact ended.keepForRetry ..

theorem SpanPort.Ordered.markDamaged {p : SpanPort} (h : p.Ordered) : p.markDamaged.Ordered :=
  { h with damagedHolds := raiseCounter_le _ _ }

theorem SpanPort.Ordered.gradeRuns {p : SpanPort} (h : p.Ordered) : p.gradeRuns.Ordered := by
  simp only [SpanPort.gradeRuns]
  split
  · exact { h with erroredRange := Nat.min_le_right _ _, cleanRange := Nat.zero_le _ }
  · exact { h with erroredRange := Nat.zero_le _, cleanRange := Nat.min_le_right _ _ }

theorem SpanPort.afterReset_ordered : SpanPort.afterReset.Ordered := by
  constructor <;> simp [SpanPort.afterReset, SpanPort.ofClass]

/-! ### The branches of an offer (R28 to R30) -/

section
variable {p : SpanPort} {f : Frame} {now d : Nat}

theorem SpanPort.offer_due (h : d ≤ now) :
    p.offer f now d = { p with txExpired := raiseCounter p.txExpired 1 } := if_pos h

theorem SpanPort.offer_replaces (h : now < d) {old : Entry} (ho : p.queue.find? (replaces f) = some old) :
    p.offer f now d = p.replace old f now d := by
  simp only [SpanPort.offer, Nat.not_le.mpr h, if_false, ho]

theorem SpanPort.offer_room (h : now < d) (hn : p.queue.find? (replaces f) = none) (room : p.queue.length < 8) :
    p.offer f now d = p.join f now d := by
  simp only [SpanPort.offer, Nat.not_le.mpr h, if_false, hn, Config.queueCapacity, room, if_true]

theorem SpanPort.offer_full (h : now < d) (hn : p.queue.find? (replaces f) = none) (full : ¬p.queue.length < 8) :
    p.offer f now d = p.offerFull f now d := by
  simp only [SpanPort.offer, Nat.not_le.mpr h, if_false, hn, Config.queueCapacity, full]

theorem SpanPort.offerFull_higher {low : Entry} (h : p.queue.getLast? = some low) (hr : rankOf f < rankOf low.frame) :
    p.offerFull f now d =
      { SpanPort.join { p with queue := p.queue.dropLast } f now d with
        txDropped := raiseCounter p.txDropped 1 } := by
  simp only [SpanPort.offerFull, h, hr, if_true]

theorem SpanPort.offerFull_dropped {low : Entry} (h : p.queue.getLast? = some low)
    (hr : rankOf low.frame ≤ rankOf f) :
    p.offerFull f now d = { p with txDropped := raiseCounter p.txDropped 1 } := by
  simp only [SpanPort.offerFull, h, Nat.not_lt.mpr hr, if_false]

/-- A frame that replaces none leaves the attempt alone, and the numbers rise. -/
theorem SpanPort.offer_new (hn : p.queue.find? (replaces f) = none) :
    (p.offer f now d).attempt = p.attempt ∧ p.nextEntry ≤ (p.offer f now d).nextEntry := by
  simp only [SpanPort.offer, hn, SpanPort.offerFull]
  (repeat' split)
  any_goals exact ⟨rfl, le_rfl⟩
  all_goals exact ⟨rfl, Nat.le_succ _⟩

end

end Sys2Proof.Machine

namespace Sys2Proof.Proofs
open Sys2Proof.Machine

/-- Settles O43: by the branches of an offer, the place of the joining entry from the order of ranks. -/
theorem offersFollowTheQueueRules : Obligations.OffersFollowTheQueueRules := by
  intro p f now deadline h q joins same
  have hsame : p.queue.find? (replaces f) = same := find?_replaces f p.queue
  have place : ∀ (number : Nat) (others : List Entry), others.Sublist p.queue →
      q.queue = insertByRank ⟨number, f, now, deadline⟩ others → joins others number := by
    intro number others hs hq
    obtain ⟨b, a, he, ho, hb, ha⟩ := insertByRank_place ⟨number, f, now, deadline⟩ (h.ranks.sublist hs)
    exact ⟨b, _, a, hq.trans he, ho, rfl, rfl, rfl, rfl, hb, ha⟩
  refine ⟨SpanPort.offer_due, fun hd => ⟨fun old ho => ?_, fun hn => SpanPort.offer_new (hsame.trans hn),
    fun hn room => ?_, fun hn low full hlow => ?_⟩⟩
  · have hq : q = p.replace old f now deadline := SpanPort.offer_replaces hd (hsame.trans ho)
    refine ⟨place _ _ List.erase_sublist ?_, ?_, ?_, ?_, ?_⟩ <;> rw [hq] <;> rfl
  · have hq : q = p.join f now deadline := SpanPort.offer_room hd (hsame.trans hn) room
    refine ⟨place _ _ (.refl _) ?_, ?_, ?_, ?_⟩ <;> rw [hq]
    exacts [rfl, Nat.lt_succ_self _, rfl, rfl]
  · have hq : q = p.offerFull f now deadline := SpanPort.offer_full hd (hsame.trans hn) (by omega)
    rcases lt_or_ge (rankOf f) (rankOf low.frame) with hr | hr
    · rw [SpanPort.offerFull_higher hlow hr] at hq
      refine ⟨?_, ?_, fun _ => ⟨place _ _ (List.dropLast_sublist _) ?_, ?_⟩,
        fun hge => absurd hr (not_lt.mpr hge)⟩ <;> rw [hq]
      exacts [rfl, rfl, rfl, Nat.lt_succ_self _]
    · rw [SpanPort.offerFull_dropped hlow hr] at hq
      refine ⟨?_, ?_, fun hlt => absurd hlt (not_lt.mpr hr), fun _ => ?_⟩ <;> rw [hq] <;> rfl

end Sys2Proof.Proofs
end

section
/-! The transmit queue under every command: each operation keeps the port in order (R21, R28 to R32); hence O12. -/

namespace Sys2Proof.Machine

/-! ### The operations that commands share -/

section
variable {s : State} (h : s.port.Ordered)
include h

@[simp] theorem offerFrame_ordered (k : FrameClass) (x : List Byte) (d : Nat) : (offerFrame k x d s).port.Ordered := by
  simp only [offerFrame]
  split
  · exact h
  · exact h.offer ..

@[simp] theorem report_ordered (e : EventKind) (q : Nat) (v : BitVec 32) : (report e q v s).port.Ordered := by
  simp only [report]
  split
  · exact offerFrame_ordered h ..
  · exact h

@[simp] theorem refuse_ordered (r : Reason) (k : FrameClass) (third : Nat) (e : EventKind) (q : Nat) :
    (refuse r k third e q s).port.Ordered := report_ordered (by exact h) ..

@[simp] theorem refuseCommand_ordered (r : Reason) (k : FrameClass) (third : Nat) :
    (refuseCommand r k third s).port.Ordered := refuse_ordered h ..

@[simp] theorem sendHold_ordered (c : Cause) : (sendHold c s).port.Ordered := offerFrame_ordered h ..

@[simp] theorem actOnCause_ordered (c : Cause) : (actOnCause c s).port.Ordered := by
  simp [actOnCause, h]

@[simp] theorem raiseCause_ordered (c : Cause) : (raiseCause c s).port.Ordered := by
  simp only [raiseCause]
  (repeat' split) <;> simp [h]

@[simp] theorem retakeCause_ordered (c : Cause) : (retakeCause s c).port.Ordered := by
  simp only [retakeCause]
  split <;> simp [h]

@[simp] theorem retakeCauses_ordered : (retakeCauses s).port.Ordered := by
  rw [retakeCauses]
  iterate 5 refine retakeCause_ordered ?_ _
  exact h

@[simp] theorem judgeLink_ordered : (judgeLink s).port.Ordered := by
  simp only [judgeLink]
  (repeat' split)
  · exact report_ordered (by exact h.withLinkState _) ..
  · exact report_ordered (by exact h.withLinkState _) ..
  · exact h

@[simp] theorem gradeLink_ordered : (gradeLink s).port.Ordered := by
  simp only [gradeLink]
  split
  · exact h
  · exact judgeLink_ordered (s := s.withPort s.port.gradeRuns) h.gradeRuns

@[simp] theorem reportAbandonCause_ordered (c : AbandonCause) : (reportAbandonCause c s).port.Ordered := by
  simp only [reportAbandonCause]
  split
  · exact offerFrame_ordered (by exact h) ..
  · exact h

end

/-! ### Frames heard -/

theorem hear_ordered {k : FrameClass} {o : Origin} {x : List Byte} {owner : State → Judged} {s : State}
    (h : s.port.Ordered) (hj : (owner s).state.port.Ordered) : (hear k o x owner s).port.Ordered := by
  simp only [hear]
  (repeat' split)
  · exact h
  · exact hj.withReception _
  · exact h.withReception _

theorem hearCommand_ordered {code len : Nat} {o : Origin} {args : List Byte} {owner : State → Judged} {s : State}
    (h : s.port.Ordered) (hj : (owner s).state.port.Ordered) : (hearCommand code len o args owner s).port.Ordered := by
  refine hear_ordered h ?_
  split
  · exact hj
  · exact refuseCommand_ordered h ..

theorem gateEstop_ordered {code : Nat} {owner : State → Judged} {s : State} (h : s.port.Ordered)
    (hj : (owner s).state.port.Ordered) : (gateEstop code owner s).state.port.Ordered := by
  simp only [gateEstop]
  split
  · exact refuseCommand_ordered h ..
  · exact hj

theorem withEpoch_ordered {code : Nat} {args : List Byte} {owner : Nat → State → Judged} {s : State}
    (h : s.port.Ordered) (hj : ∀ e, (owner e s).state.port.Ordered) :
    (withEpoch code args owner s).state.port.Ordered := by
  simp only [withEpoch]
  split
  · exact refuseCommand_ordered h ..
  · exact gateEstop_ordered h (hj _)

/-! ### The owners' decisions -/

section
variable {s : State} (h : s.port.Ordered)
include h

theorem judgeHold_ordered (o : Origin) (x : List Byte) : (judgeHold o x s).state.port.Ordered := by
  simp only [judgeHold]
  (repeat' split) <;> simp [h]

theorem judgeRoll_ordered (x : List Byte) : (judgeRoll x s).state.port.Ordered := by
  simp only [judgeRoll, judgeGoRoll, judgeSkipRoll]
  (repeat' split) <;> simp [h]

theorem judgePropose_ordered (o : Origin) (x : List Byte) : (judgePropose o x s).state.port.Ordered := by
  simp only [judgePropose]
  (repeat' split) <;> simp [h]

theorem judgeAbandon_ordered (x : List Byte) : (judgeAbandon x s).state.port.Ordered := by
  simp only [judgeAbandon]
  (repeat' split) <;> simp [h]

theorem judgeGuide_ordered (x : List Byte) : (judgeGuide x s).state.port.Ordered := by
  simp only [judgeGuide, takeGuide, reportClip]
  (repeat' split) <;> simp [h]

theorem judgeTimeSet_ordered (x : List Byte) : (judgeTimeSet x s).state.port.Ordered := by
  simp only [judgeTimeSet]
  (repeat' split) <;> simp [h]

theorem judgeConfig_ordered (x : List Byte) : (judgeConfig x s).state.port.Ordered := by
  simp only [judgeConfig, takeItem]
  (repeat' split) <;> simp [h]

theorem judgePlanHead_ordered (x : List Byte) : (judgePlanHead x s).state.port.Ordered := by
  simp only [judgePlanHead, judgeHeader, takeHeader]
  (repeat' split) <;> simp [h]

theorem judgePlanSeg_ordered (x : List Byte) : (judgePlanSeg x s).state.port.Ordered := by
  simp only [judgePlanSeg, judgeOpenSegment, finishIntake]
  (repeat' split)
  any_goals exact h
  · exact report_ordered (by exact h) ..
  · exact refuse_ordered (by exact h) ..

theorem judgeGo_ordered (e : Nat) : (judgeGo e s).state.port.Ordered := by
  simp only [judgeGo, setTrigger]
  split <;> simp [h]

theorem judgeBreak_ordered (e : Nat) : (judgeBreak e s).state.port.Ordered := by
  simp only [judgeBreak, setTrigger]
  split <;> simp [h]

theorem judgeReturn_ordered (e : Nat) : (judgeReturn e s).state.port.Ordered := by
  simp only [judgeReturn, setTrigger]
  split <;> simp [h]

theorem addressOffset_ordered (args : List Byte) : (addressOffset args s).state.port.Ordered := by
  have judged : ∀ v, (judgeOffset v s).state.port.Ordered := by
    intro v
    simp only [judgeOffset, commandOffset]
    split <;> simp [h]
  simp only [addressOffset]
  (repeat' split)
  · exact refuseCommand_ordered h ..
  · exact gateEstop_ordered h (judged _)
  · exact h

theorem judgePlanClear_ordered : (judgePlanClear s).state.port.Ordered := by
  simp only [judgePlanClear]
  split
  · exact report_ordered (by exact h) ..
  · exact refuseCommand_ordered h ..

theorem judgeStart_ordered : (judgeStart s).state.port.Ordered := by
  simp only [judgeStart]
  split
  · exact refuseCommand_ordered h ..
  · exact retakeCauses_ordered (by exact h)

theorem judgeRestart_ordered : (judgeRestart s).state.port.Ordered := by
  simp only [judgeRestart, takeRestart, clearedBlocks]
  split <;> simp [h]

theorem judgeStatusReq_ordered (args : List Byte) : (judgeStatusReq args s).state.port.Ordered := by
  simp only [judgeStatusReq, sendStatus]
  (repeat' split) <;> simp [h]

theorem judgeTraceSet_ordered (args : List Byte) : (judgeTraceSet args s).state.port.Ordered := by
  simp only [judgeTraceSet]
  split
  · exact refuseCommand_ordered h ..
  · exact gateEstop_ordered h h

end

theorem sendTraceData_ordered (l : List (TraceEntry × Nat)) {s : State} (h : s.port.Ordered) :
    (l.foldl sendTraceData s).port.Ordered := by
  induction l generalizing s with
  | nil => exact h
  | cons e l ih => exact ih (offerFrame_ordered h ..)

theorem judgeTraceRead_ordered (args : List Byte) {s : State} (h : s.port.Ordered) :
    (judgeTraceRead args s).state.port.Ordered := by
  simp only [judgeTraceRead]
  (repeat' split)
  · exact refuseCommand_ordered h ..
  · exact refuseCommand_ordered h ..
  · exact sendTraceData_ordered _ h

/-! ### Rounds (R61, R98 to R102, R109, R110) -/

section
variable {s : State} (h : s.port.Ordered)
include h

@[simp] theorem skipRecord_ordered (q v : Nat) : (skipRecord q v s).port.Ordered := by
  simp only [skipRecord]
  refine report_ordered ?_ ..
  split <;> simpa using h

omit h in
@[simp] theorem selectTarget_ordered (e n : Nat) (k : RoundKind) {s : State} (h : s.port.Ordered) :
    (selectTarget e n k s).state.port.Ordered := by
  induction n generalizing k s with
  | zero => exact h
  | succ n ih =>
    simp only [selectTarget]
    (repeat' split)
    · exact h
    · exact ih _ (skipRecord_ordered h ..)
    · exact h

omit h in
theorem proposeFor_ordered (e : Nat) {x : Selection} (h : x.state.port.Ordered) : (proposeFor e x).port.Ordered := by
  have hr : (reportPlanEmpty x).port.Ordered := by
    simp only [reportPlanEmpty]
    split <;> simp [h]
  simp [proposeFor, sendPropose, hr]

@[simp] theorem startRound_ordered (k : RoundKind) (e : Nat) : (startRound k e s).port.Ordered :=
  proposeFor_ordered e (selectTarget_ordered _ _ _ (by simpa using h))

@[simp] theorem fixFor_ordered (rec : Record) (r : Release) : (fixFor rec r s).port.Ordered := by
  simp only [fixFor, beginProfile]
  (repeat' split) <;> simp [h]

@[simp] theorem slewMotion_ordered (rec : Record) (t d : Nat) : (slewMotion rec t d s).port.Ordered := by
  simp only [slewMotion]
  (repeat' split) <;> simp [h]

@[simp] theorem slewStartFor_ordered (rec : Record) (t d : Nat) : (slewStartFor rec t d s).port.Ordered := by
  simp [slewStartFor, h]

@[simp] theorem stall_ordered (r : RoundRecord) : (stall r s).port.Ordered := by
  simp only [stall]
  split <;> exact report_ordered (by exact h) ..

@[simp] theorem sendRoll_ordered (r : RoundRecord) (x : OwnOutcome) : (sendRoll r x s).port.Ordered := by
  simp only [sendRoll]
  split <;> simp [h]

omit h in
theorem completeRoll_ordered (x : Reception) (slots : BitVec 15) {s : State} (h : s.port.Ordered) :
    (completeRoll x slots s).port.Ordered := by
  simp only [completeRoll, recordGo, recordSkip]
  (repeat' split) <;> simp [h]

end

theorem execRoundResult_ordered {s t : State} (h : s.port.Ordered) (he : execRoundResult s = .next t) :
    t.port.Ordered := by
  simp only [execRoundResult, roundResult, skipAndReRound, succeed] at he
  (repeat' split at he) <;> cases he <;> simp [h]

theorem execBrakeTimerExpiry_ordered {s t : State} (h : s.port.Ordered) (he : execBrakeTimerExpiry s = .next t) :
    t.port.Ordered := by
  simp only [execBrakeTimerExpiry, expireBrake] at he
  (repeat' split at he) <;> cases he
  · exact fixFor_ordered (by exact h) ..
  · exact h
  · exact h

/-! ### The time base (R3 to R15) -/

section
variable {s : State} (h : s.port.Ordered)
include h

@[simp] theorem stepTo_ordered (t : Nat) : (stepTo t s).port.Ordered := by
  rw [stepTo_port]
  exact gradeLink_ordered (s := passedBy t s) (h.expire _)

theorem edgeByState_ordered : (edgeByState s).port.Ordered := by
  have locked : (lockFromFree s).port.Ordered := by
    rw [lockFromFree, endCause_port]
    exact report_ordered (by exact stepTo_ordered h _) ..
  have regained : (regainLock s).port.Ordered := by
    rw [regainLock, endCause_port]
    exact report_ordered (by exact h) ..
  simp only [edgeByState, edgeFree, edgeLocked, applySet, correctAt, edgeRegain]
  (repeat' split)
  any_goals exact h
  · exact locked
  · exact stepTo_ordered h _
  · exact regained
  · exact regained

theorem judgeExpected_ordered : (judgeExpected s).port.Ordered := by
  simp only [judgeExpected, enterCoast]
  (repeat' split)
  · exact h
  · exact report_ordered (by exact h) ..
  · exact h

@[simp] theorem closeSecond_ordered : (closeSecond s).port.Ordered := by
  have graded : (gradedSecond s).port.Ordered := gradeLink_ordered (s := moveSecond s) h
  simp only [closeSecond_eq, coastSecond, enterLost]
  (repeat' split)
  · exact raiseCause_ordered (report_ordered (by exact graded) ..) _
  · exact graded
  · exact graded

theorem hearDamage_ordered : (hearDamage s).port.Ordered := h.markDamaged.withReception none

end

/-! ### The servo tick (R158) -/

section
variable {s : State} (h : s.port.Ordered)
include h

theorem reportLosses_ordered (limited : Bool) : (reportLosses limited s).port.Ordered := by
  simp only [reportLosses]
  (repeat' split) <;> simp [h]

theorem reportSaturated_ordered (b : Trajectory) : (reportSaturated b s).port.Ordered := by
  simp only [reportSaturated]
  split
  · exact report_ordered (by exact h) ..
  · exact h

theorem trackingTick_ordered (rec : Record) (t : Nat) : (trackingTick rec t s).state.port.Ordered :=
  reportLosses_ordered (reportSaturated_ordered (by simpa using h) _) _

omit h in
theorem tickOnRecord_ordered {t : Nat} {s : State} (h : s.port.Ordered) {w : TickWork}
    (hw : tickOnRecord t s = some w) : w.state.port.Ordered := by
  simp only [tickOnRecord, Option.map_eq_some_iff] at hw
  obtain ⟨rec, -, rfl⟩ := hw
  exact trackingTick_ordered h rec t

theorem tickWork_ordered {t : Nat} {w : TickWork} (hw : tickWork t s = some w) : w.state.port.Ordered := by
  simp only [tickWork] at hw
  cases hm : s.traj.motion <;> simp only [hm] at hw
  case slewing p =>
    simp only [slewingTick] at hw
    split at hw
    · cases hw; exact h
    · exact tickOnRecord_ordered (by simpa using h) hw
  case settling => exact tickOnRecord_ordered (by split <;> simp [h]) hw
  case tracking => exact tickOnRecord_ordered h hw
  case stopping p =>
    cases hw
    simp only [stoppingTick]
    split <;> simp [plainTick, h]
  all_goals cases hw; exact h

theorem reportEncoder_ordered (good : Bool) (n : Nat) : (reportEncoder good n s).port.Ordered := by
  simp only [reportEncoder]
  (repeat' split) <;> simp [h]

theorem reportFollowing_ordered (m : Motion) : (reportFollowing m s).port.Ordered := by
  simp only [reportFollowing]
  (repeat' split) <;> simp [h]

omit h in
theorem composeEvents_ordered (l : List TickEvent) {s : State} (h : s.port.Ordered) :
    (l.foldl composeEvent s).port.Ordered := by
  induction l generalizing s with
  | nil => exact h
  | cons e l ih => exact ih (report_ordered h ..)

omit h in
theorem countAndFinish_ordered (t : Nat) (good : Option Int) {w : TickWork} (h : w.state.port.Ordered) :
    (countAndFinish t good w).port.Ordered := by
  obtain ⟨l, -, he⟩ := countAndFinish_eq t good w
  rw [he]
  have counted : (countedTick t good w).port.Ordered := h
  exact composeEvents_ordered l (reportFollowing_ordered (reportEncoder_ordered counted ..) _)

theorem execServoTick_ordered {r : EncoderReply} {t : State} (he : execServoTick r s = .next t) :
    t.port.Ordered := by
  simp only [execServoTick, tickAt, liveTick] at he
  split at he
  · split at he
    · cases he; exact h
    · split at he
      · rename_i n hn
        cases he
        obtain ⟨w, hw, rfl⟩ := Option.map_eq_some_iff.mp hn
        exact countAndFinish_ordered _ _ (tickWork_ordered (by exact h) hw)
      · cases he
  · cases he; exact h

end

/-! ### The commands -/

/-- Every command keeps the port in order. -/
theorem exec_ordered {c : Instr} {s t : State} (h : s.port.Ordered) (he : exec c s = .next t) : t.port.Ordered := by
  cases c
  case servoTick => exact execServoTick_ordered h he
  case roundResult => exact execRoundResult_ordered h he
  case brakeTimerExpiry => exact execBrakeTimerExpiry_ordered h he
  all_goals cases he
  case hardReset => exact SpanPort.afterReset_ordered
  case ppsEdge => exact edgeByState_ordered h
  case unitCorrection => split <;> exact h
  case correctionSecondEnd => split <;> exact h
  case expectedSecondJudgement => split; exacts [judgeExpected_ordered h, h]
  case regainRunMiss => split <;> exact h
  case linkSecondClose => split; exacts [closeSecond_ordered h, h]
  case driveFaultAsserted => exact raiseCause_ordered (s := setDriveFault true s) h _
  case driveFaultDeasserted => simpa [setDriveFault] using h
  case emergencyStopAsserted => exact raiseCause_ordered (s := setEstop true s) h _
  case emergencyStopDeasserted => simpa [setEstop] using h
  case holdRepeat =>
    simp only [repeatHold]
    (repeat' split) <;> simp [h]
  case attemptStart => split; exacts [h, h.beginAttempt _]
  case attemptEnd => split; exacts [h, h.endAttempt _ _]
  case txDeadline => exact h.expire _
  case damagedFrame =>
    (repeat' split)
    · exact h
    · exact hearDamage_ordered (closeSecond_ordered h)
    · exact hearDamage_ordered h
  case unknownClassFrame => exact hear_ordered h h
  case reportFrameHeard => exact hear_ordered h h
  case responseFieldReport =>
    split
    · exact (completeRoll_ordered _ _ h).withReception none
    · exact h
  case hold => exact hear_ordered h (judgeHold_ordered h ..)
  case goRoll => exact hear_ordered h (judgeRoll_ordered h _)
  case skipRoll => exact hear_ordered h (judgeRoll_ordered h _)
  case propose => exact hear_ordered h (judgePropose_ordered h ..)
  case abandon => exact hear_ordered h (judgeAbandon_ordered h _)
  case guide => exact hear_ordered h (judgeGuide_ordered h _)
  case timeSet => exact hear_ordered h (judgeTimeSet_ordered h _)
  case configItem => exact hear_ordered h (judgeConfig_ordered h _)
  case planHead => exact hear_ordered h (judgePlanHead_ordered h _)
  case planSeg => exact hear_ordered h (judgePlanSeg_ordered h _)
  case intakeTimeout =>
    simp only [expireIntake]
    (repeat' split)
    · exact report_ordered (by exact h) ..
    · exact h
    · exact h
  case commandUnknownCode => exact hear_ordered h (refuseCommand_ordered h ..)
  case start => exact hearCommand_ordered h (gateEstop_ordered h (judgeStart_ordered h))
  case go => exact hearCommand_ordered h (withEpoch_ordered h (judgeGo_ordered h))
  case breakIn => exact hearCommand_ordered h (withEpoch_ordered h (judgeBreak_ordered h))
  case returnTo => exact hearCommand_ordered h (withEpoch_ordered h (judgeReturn_ordered h))
  case offset => exact hearCommand_ordered h (addressOffset_ordered h _)
  case planClear => exact hearCommand_ordered h (gateEstop_ordered h (judgePlanClear_ordered h))
  case restart => exact hearCommand_ordered h (gateEstop_ordered h (judgeRestart_ordered h))
  case statusReq => exact hearCommand_ordered h (judgeStatusReq_ordered h _)
  case traceSet => exact hearCommand_ordered h (judgeTraceSet_ordered h _)
  case traceRead => exact hearCommand_ordered h (judgeTraceRead_ordered _ h)
  case pendingTriggerEpoch =>
    split
    · exact startRound_ordered (by exact h) ..
    · exact h
  case ownOutcome =>
    split
    · simp [settleOutcome, h]
    · exact h
  case arrival =>
    simp only [arrive]
    (repeat' split) <;> simp [h]
  case dwellStart =>
    split
    · exact report_ordered (by exact h) ..
    · exact h
  case dwellEnd =>
    have closed : ∀ d, (closeDwell d s).port.Ordered := fun d =>
      report_ordered (by simp only [State.withRound_port]; split <;> exact h) ..
    simp only [endDwell]
    (repeat' split)
    · exact startRound_ordered (by exact closed _) ..
    · exact closed _
    · exact h
  case abandonEpoch =>
    split
    · exact startRound_ordered (by exact report_ordered (by exact h) ..) ..
    · exact h

end Sys2Proof.Machine

namespace Sys2Proof.Proofs
open Sys2Proof.Machine

/-- Settles O12: the front command, the event that is due or the microsecond, each keeps the port in order. -/
theorem transmitQueueKeepsItsOrder : Obligations.TransmitQueueKeepsItsOrder := by
  intro s t h he
  cases hp : s.pending with
  | cons c rest =>
    rw [step_of_waiting hp] at he
    exact exec_ordered (s := s.withPending rest) h he
  | nil =>
    rw [step_of_empty hp] at he
    cases hd : due s with
    | none =>
      rw [idle_of_none hd] at he
      cases he
      exact h
    | some c =>
      rw [idle_of_due hd] at he
      have hport : (drawReply c s).port = s.port := by cases c <;> rfl
      exact exec_ordered (hport ▸ h) he

end Sys2Proof.Proofs
end

section
/-! Frames that fail, unknown classes, malformed payloads, the response field (R18, R23 to R26, R34, R35, R41, R42,
R107); hence O18, O44 and O45. -/

namespace Sys2Proof.Machine

/-! ### The frame a command stands for -/

/-- A command that is a frame heard is heard as that frame, by the owner of its row. -/
theorem exec_of_frame {c : Instr} {f : Frame} {s : State} (h : c.frame? = some f) :
    ∃ owner, exec c s = .next (hear f.cls ⟨f.sender, f.dest⟩ f.payload owner s) := by
  cases c
  case unknownClassFrame k o p => cases k <;> cases h <;> exact ⟨_, rfl⟩
  case reportFrameHeard k o p => cases k <;> cases h <;> exact ⟨_, rfl⟩
  case commandUnknownCode o code a => cases code <;> cases h <;> exact ⟨_, rfl⟩
  all_goals cases h <;> exact ⟨_, rfl⟩

/-- No station may send a class that the controller never takes (R18, R23). -/
theorem passesTests_unknown (k : UnknownClass) (o : Origin) (s : State) :
    passesTests s (classOfUnknown k) o = false := by
  cases k <;> exact Bool.and_false _

theorem passesTests_report (k : ReportClass) (o : Origin) (s : State) : passesTests s (classOfReport k) o = false := by
  cases k <;> exact Bool.and_false _

/-! ### Malformed frames (R35, R42) -/

/-- A frame that passes the tests and that its owner leaves alone changes the reception alone. -/
theorem hear_ignored {c : Instr} {k : FrameClass} {o : Origin} {p : List Byte} {s : State} {owner : State → Judged}
    (hp : Passes c s) (hf : c.frame? = some ⟨k, o.sender, o.dest, p⟩) (hj : owner s = leave s) :
    hear k o p owner s = s.receiving (heardAs c false s) := by
  rw [hear_of_passes owner hp hf, hj]
  rfl

/-- A frame that passes the tests and that its owner refuses. -/
theorem hear_refused {c : Instr} {k j : FrameClass} {o : Origin} {p : List Byte} {s : State} {owner : State → Judged}
    {r : Reason} {third q : Nat} {e : EventKind} (hp : Passes c s) (hf : c.frame? = some ⟨k, o.sender, o.dest, p⟩)
    (hj : owner s = leave (refuse r j third e q s)) :
    Refuses c s (hear k o p owner s) r e q (classCode j) third := by
  rw [hear_of_passes owner hp hf, hj]
  exact refuse_refuses ..

/-- A COMMAND of a known code and another length is refused RANGE (R41 step 2). -/
theorem hearCommand_malformed {c : Instr} {code len : Nat} {o : Origin} {a : List Byte} {s : State}
    (owner : State → Judged) (hp : Passes c s)
    (hf : c.frame? = some ⟨.command, o.sender, o.dest, BitVec.ofNat 8 code :: a⟩) (hl : a.length + 1 ≠ len) :
    RefusesCommand c s (hearCommand code len o a owner s) .range code :=
  hear_refused (j := .command) hp hf (if_neg hl)

section
variable {p : List Byte} {s : State}

theorem judgeHold_malformed (o : Origin) (h : p.length ≠ 4) : judgeHold o p s = leave s := by
  simp [judgeHold, readHold, h]

theorem judgeRoll_malformed (h : p.length ≠ 13) : judgeRoll p s = leave s := by
  simp [judgeRoll, readCall, h]

theorem judgePropose_malformed (o : Origin) (h : p.length ≠ 13) : judgePropose o p s = leave s := by
  simp [judgePropose, readCall, h]

theorem judgeAbandon_malformed (h : p.length ≠ 9) : judgeAbandon p s = leave s := by
  simp [judgeAbandon, readAbandon, h]

theorem judgeGuide_malformed (h : p.length ≠ 15) : judgeGuide p s = leave s := by
  simp [judgeGuide, readGuide, h]

theorem judgePlanSeg_malformed (h : p.length ≠ 29) : judgePlanSeg p s = leave s := by
  simp [judgePlanSeg, readSeg, h]

theorem judgeTimeSet_malformed (h : p.length ≠ 4) :
    judgeTimeSet p s = leave (refuseCommand .range .time 255 s) := by
  simp [judgeTimeSet, readTime, h]

theorem judgeConfig_malformed (h : p.length ≠ 5) :
    judgeConfig p s = leave (refuseCommand .range .config (configThird p) s) := by
  simp [judgeConfig, readConfig, h]

theorem judgePlanHead_malformed (h : p.length ≠ 24) :
    judgePlanHead p s = refuseHead .range (Config.malformedHeaderSeq p).toNat s := by
  simp [judgePlanHead, readHead, h]

end

/-! ### The response field (R26, R107) -/

/-- A response field shows every roster axis slot exactly when each of them was driven by another station, or is the
own slot of a taken frame. -/
theorem everyAxisSlot_read {x : Reception} (ht : x.taken = true) (slots : BitVec 15) (s : State) :
    everyAxisSlot s.items (slotsRead x slots s) = true ↔
      ∀ r, s.items.addr.get r ≠ 15 →
        slots.getLsbD (s.items.addr.get r) = true ∨ s.items.addr.get r = s.conf.straps.address.toNat := by
  have hroles : ∀ r, r ∈ allRoles := by intro r; cases r <;> decide
  have hown : s.conf.straps.address.toNat < 16 := s.conf.straps.address.isLt
  simp only [everyAxisSlot, List.all_eq_true, slotsRead, ht, if_true, Items.inRoster, Bool.or_eq_true,
    Bool.not_eq_true', decide_eq_false_iff_not, not_not, BitVec.getLsbD_or, BitVec.getLsbD_twoPow, Bool.and_eq_true,
    decide_eq_true_eq, hroles, true_implies]
  refine forall_congr' fun r => ?_
  rw [← or_iff_not_imp_left]
  refine or_congr_right' fun h15 => or_congr_right ⟨fun h => h.2.symm, fun h => ⟨by omega, h.symm⟩⟩

theorem roundOf_of_plan {s : State} {r : RoundRecord} {w : RoundRecord → PlanState} (hw : w = .inRound ∨ w = .scheduled)
    (hp : s.round.plan = some (w r)) : roundOf s = some r ∧ roundNumber s = some r.number := by
  rcases hw with rfl | rfl <;> simp [roundOf, roundNumber, hp]

theorem updateRound_of_plan {s : State} {r : RoundRecord} {w : RoundRecord → PlanState}
    (hw : w = .inRound ∨ w = .scheduled) (hp : s.round.plan = some (w r)) (g : RoundRecord → RoundRecord) :
    updateRound g s = s.withRound { s.round with plan := some (w (g r)) } := by
  rcases hw with rfl | rfl <;> simp only [updateRound, hp]

/-- The reception of a ROLL taken in the round in progress. -/
theorem rollOfRound_iff (x : Reception) (s : State) :
    rollOfRound x s = true ↔
      x.frame.cls = .roll ∧ x.taken = true ∧ x.round ≠ none ∧ x.round = roundNumber s := by
  simp only [rollOfRound, Bool.and_eq_true, decide_eq_true_eq, and_assoc]

theorem completeRoll_not {x : Reception} {slots : BitVec 15} {s : State}
    (h : ¬(rollOfRound x s && everyAxisSlot s.items slots) = true) : completeRoll x slots s = s := if_neg h

@[simp] theorem completeRoll_port (x : Reception) (slots : BitVec 15) (s : State) :
    (completeRoll x slots s).port = s.port := by
  simp only [completeRoll, recordGo, recordSkip]
  (repeat' split) <;> simp

end Sys2Proof.Machine

namespace Sys2Proof.Proofs
open Sys2Proof.Machine

/-- Settles O18: every frame is heard, and a frame that fails the tests ends up in the reception. -/
theorem framesThatFailTheTestsChangeNothing : Obligations.FramesThatFailTheTestsChangeNothing := by
  intro c f s hf hl ht
  obtain ⟨owner, he⟩ := exec_of_frame (s := s) hf
  rw [he, hear_fails _ _ _ _ _ hl ht]

/-- Settles O44: the classes without a permitted sender fail the tests; each owner reads a payload by its length. -/
theorem unknownAndMalformedFrames : Obligations.UnknownAndMalformedFrames := by
  refine ⟨fun k o p s hl => ⟨⟨classOfUnknown k, o.sender, o.dest, p⟩, ?_⟩,
    fun k o p s hl => ⟨⟨classOfReport k, o.sender, o.dest, p⟩, ?_⟩, fun c f s hf hl => ?_, fun c o p s hp h => ?_,
    fun o p s hlen hp => ⟨_, rfl, ?_⟩, fun o b p s hlen hp => ⟨_, rfl, ?_⟩, fun o s hp => ⟨_, rfl, ?_⟩,
    fun o p s hlen hp => ⟨_, rfl, Config.malformedHeaderSeq p, ?_⟩, fun c o a code len s hp hlen h => ?_,
    fun o code a s hp => ⟨_, rfl, ?_⟩⟩
  · exact congrArg Host.Outcome.next (hear_fails _ o p leave s hl (passesTests_unknown k o s))
  · exact congrArg Host.Outcome.next (hear_fails _ o p leave s hl (passesTests_report k o s))
  · obtain ⟨owner, he⟩ := exec_of_frame (s := s) hf
    rw [he, hear_silent _ _ _ _ _ hl]
  · rcases h with ⟨rfl, h⟩ | ⟨rfl, h⟩ | ⟨rfl, h⟩ | ⟨rfl, h⟩ | ⟨rfl, h⟩ | ⟨rfl, h⟩ | ⟨rfl, h⟩ <;>
      refine congrArg Host.Outcome.next (hear_ignored hp rfl ?_)
    exacts [judgeHold_malformed o h, judgeRoll_malformed h, judgeRoll_malformed h, judgePropose_malformed o h,
      judgeAbandon_malformed h, judgeGuide_malformed h, judgePlanSeg_malformed h]
  · exact hear_refused hp rfl (judgeTimeSet_malformed hlen)
  · exact hear_refused hp rfl (judgeConfig_malformed (by simpa using hlen))
  · exact hear_refused hp rfl (judgeConfig_malformed (by simp))
  · exact hear_refused hp rfl (judgePlanHead_malformed hlen)
  · simp only [List.mem_cons, Prod.mk.injEq, List.not_mem_nil, or_false] at h
    rcases h with ⟨rfl, rfl, rfl⟩ | ⟨rfl, rfl, rfl⟩ | ⟨rfl, rfl, rfl⟩ | ⟨rfl, rfl, rfl⟩ | ⟨rfl, rfl, rfl⟩ |
      ⟨rfl, rfl, rfl⟩ | ⟨rfl, rfl, rfl⟩ | ⟨rfl, rfl, rfl⟩ | ⟨rfl, rfl, rfl⟩ | ⟨rfl, rfl, rfl⟩ <;>
      exact ⟨_, rfl, hearCommand_malformed _ hp rfl hlen⟩
  · cases code <;> exact hear_refused (j := .command) hp rfl (by exact rfl)

/-- Settles O45: the guard of a completion, then the verdict by the two plan states of a round in progress. -/
theorem responseFieldCompletesARoll : Obligations.ResponseFieldCompletesARoll := by
  intro s slots x hx asserted
  have he : exec (.responseFieldReport slots) s =
      .next (endReception (completeRoll x (slotsRead x slots s) s)) := by
    simp only [exec, execResponseFieldReport, hx]
  refine ⟨_, he, by simp [endReception], fun hn => ?_, fun hc ht ha f r w hf hw hp hr => ?_⟩
  · have hno : ¬(rollOfRound x s && everyAxisSlot s.items (slotsRead x slots s)) = true := by
      rw [Bool.and_eq_true, rollOfRound_iff]
      rintro ⟨⟨hc, ht, hs, hr⟩, hslots⟩
      exact hn ⟨hc, ht, hs, hr, (everyAxisSlot_read ht slots s).mp hslots⟩
    rw [completeRoll_not hno]
    rfl
  · obtain ⟨hround, hnumber⟩ := roundOf_of_plan hw hp
    have hroll : rollOfRound x s = true := (rollOfRound_iff x s).mpr ⟨hc, ht, by simp [hr], hr.trans hnumber.symm⟩
    have hcomplete : completeRoll x (slotsRead x slots s) s =
        if f.verdict = 0 then recordGo f.d s else recordSkip s := by
      simp only [completeRoll, hroll, (everyAxisSlot_read ht slots s).mpr ha, Bool.and_self, if_true, hf]
    rw [hcomplete]
    by_cases hv : f.verdict = 0
    · simp only [hv, if_true, recordGo, hround]
      rfl
    · simp only [hv, if_false, recordSkip, updateRound_of_plan hw hp]
      rfl

end Sys2Proof.Proofs
end

section
/-! Attempts and their endings, deadlines, damaged frames (R19 to R22, R29 to R32); hence O42. -/

namespace Sys2Proof.Machine

/-! ### Deadlines (R31) -/

/-- The port once mount time has reached an instant: the entries left, the attempt, the count of those that left. -/
theorem SpanPort.expire_eq (p : SpanPort) (now : Nat) :
    p.expire now =
      { p with
        queue := (p.expire now).queue, attempt := (p.expire now).attempt
        txExpired := min (p.txExpired + (p.queue.length - (p.expire now).queue.length)) 65535 } :=
  congrArg (fun n => { p with queue := (p.expire now).queue, attempt := (p.expire now).attempt, txExpired := n })
    (p.expire_counts now)

/-! ### Attempts (R19, R21) -/

theorem SpanPort.beginAttempt_idle {p : SpanPort} (h : p.attempt = none) (now : Nat) :
    p.beginAttempt now = (p.expire now).copyHead := by
  simp only [SpanPort.beginAttempt, h]

theorem SpanPort.beginAttempt_busy {p : SpanPort} (h : p.attempt ≠ none) (now : Nat) : p.beginAttempt now = p := by
  obtain ⟨a, ha⟩ := Option.ne_none_iff_exists'.mp h
  simp only [SpanPort.beginAttempt, ha]

theorem SpanPort.endingOf_carried_iff (own : Frame) (r : MediumResult) :
    SpanPort.endingOf own r = .carried ↔ r = .heard own := by
  cases r with
  | damaged => simp [SpanPort.endingOf]
  | heard f =>
    simp only [SpanPort.endingOf, MediumResult.heard.injEq]
    (repeat' split) <;> simp_all

/-- The one entry with a number is the one found. -/
theorem find?_number {q : List Entry} {n : Nat} {e : Entry} (he : e ∈ q) (h : ∀ x ∈ q, x.id = n ↔ x = e) :
    q.find? (fun x => decide (x.id = n)) = some e := by
  cases hf : q.find? fun x => decide (x.id = n) with
  | none => exact absurd ((h e he).mpr rfl) (by simpa using List.find?_eq_none.mp hf e he)
  | some y =>
    have hy : y.id = n := by simpa using List.find?_some hf
    rw [(h y (List.mem_of_find?_eq_some hf)).mp hy]

section
variable {p : SpanPort} {a : Attempt} {r : MediumResult} {now : Nat}

theorem SpanPort.endAttempt_none (h : p.attempt = none) : p.endAttempt r now = p := by
  simp only [SpanPort.endAttempt, h]

/-- An entry that has left the queue settles nothing. -/
theorem SpanPort.endAttempt_gone (h : p.attempt = some a) (hg : ∀ x ∈ p.queue, x.id ≠ a.entry) :
    p.endAttempt r now = { p with attempt := none } := by
  have hf : p.queue.find? (fun x => decide (x.id = a.entry)) = none :=
    List.find?_eq_none.mpr fun x hx => by simpa using hg x hx
  simp only [SpanPort.endAttempt, h, SpanPort.settleAttempt, hf]

/-- An entry still queued leaves when its own content was carried, and is kept for a retry otherwise. -/
theorem SpanPort.endAttempt_found (h : p.attempt = some a) {e : Entry}
    (hf : p.queue.find? (fun x => decide (x.id = a.entry)) = some e) :
    p.endAttempt r now =
      if r = .heard a.frame ∧ a.replaced = false then { p with attempt := none, queue := p.queue.erase e }
      else SpanPort.keepForRetry { p with attempt := none } a e now := by
  simp only [SpanPort.endAttempt, h, SpanPort.settleAttempt, hf, ← SpanPort.endingOf_carried_iff]
  cases SpanPort.endingOf a.frame r with
  | carried => cases a.replaced <;> simp
  | lost => simp
  | damaged => simp

end

/-- An entry kept for a retry stays unless its deadline was reached (R21, R31). -/
theorem SpanPort.keepForRetry_stays {p : SpanPort} {a : Attempt} {e : Entry} {now : Nat}
    (h : ¬(a.reached = true ∨ e.deadline ≤ now)) : p.keepForRetry a e now = p := if_neg h

theorem SpanPort.keepForRetry_leaves {p : SpanPort} {a : Attempt} {e : Entry} {now : Nat}
    (h : a.reached = true ∨ e.deadline ≤ now) :
    p.keepForRetry a e now = { p with queue := p.queue.erase e, txExpired := raiseCounter p.txExpired 1 } := if_pos h

/-! ### The damaged count (R22) -/

@[simp] theorem SpanPort.offer_damaged (p : SpanPort) (f : Frame) (now d : Nat) :
    (p.offer f now d).damaged = p.damaged := by
  simp only [SpanPort.offer, SpanPort.offerFull]
  (repeat' split) <;> rfl

@[simp] theorem offerFrame_damaged (k : FrameClass) (x : List Byte) (d : Nat) (s : State) :
    (offerFrame k x d s).port.damaged = s.port.damaged := by
  simp only [offerFrame]
  split <;> simp

@[simp] theorem report_damaged (e : EventKind) (q : Nat) (v : BitVec 32) (s : State) :
    (report e q v s).port.damaged = s.port.damaged := by
  simp only [report]
  split <;> simp

@[simp] theorem raiseCause_damaged (c : Cause) (s : State) : (raiseCause c s).port.damaged = s.port.damaged := by
  simp only [raiseCause, actOnCause, sendHold]
  (repeat' split) <;> simp

@[simp] theorem gradeLink_damaged (s : State) : (gradeLink s).port.damaged = s.port.damaged := by
  simp only [gradeLink, judgeLink]
  (repeat' split) <;> simp

/-! ### A second that closes (R15, R32) -/

@[simp] theorem closeSecond_damaged (s : State) : (closeSecond s).port.damaged = s.port.damaged := by
  have graded : (gradedSecond s).port.damaged = s.port.damaged := gradeLink_damaged (moveSecond s)
  simp only [closeSecond_eq, coastSecond, enterLost]
  (repeat' split) <;> simp [graded]

theorem closeSecond_nextSecond (s : State) :
    (closeSecond s).time.nextSecond = s.time.nextSecond + 1000000 := by
  simp only [closeSecond_eq, coastSecond, enterLost]
  (repeat' split) <;> simp

theorem coastSecond_sameLink (s : State) : SameLink s.port (coastSecond s).port := by
  have lost : ∀ (u : State) (v : BitVec 32), u.port = s.port →
      SameLink s.port (raiseCause .time (report .timeLost 0 v u)).port :=
    fun u v hu => hu ▸ (report_sameLink ..).trans (raiseCause_sameLink ..)
  simp only [coastSecond, enterLost]
  (repeat' split)
  · exact lost _ _ rfl
  · exact .refl _
  · exact .refl _

/-- A second without a mark that closes breaks the errored run (R32). -/
theorem closeSecond_erroredRun {s : State} (hl : s.conf.life ≠ .strapFault) (hm : s.port.erroredMark = false) :
    (closeSecond s).port.erroredRun = 0 := by
  have graded : LinkGraded False s (gradedSecond s) := gradedSecond_graded hl False.elim
  rw [closeSecond_eq, (coastSecond_sameLink _).errored, (graded.clean hm).1]

theorem execDamagedFrame_live (b : Bool) {s : State} (h : s.conf.life ≠ .strapFault) :
    exec (.damagedFrame b) s = .next (hearDamage (if linkCloseDue s.time then closeSecond s else s)) := by
  simp [exec, execDamagedFrame, State.inStrapFault, h]

theorem linkCloseDue_iff (s : State) : linkCloseDue s.time = true ↔ s.time.nextSecond ≤ s.now := by
  simp only [linkCloseDue, decide_eq_true_eq, State.now]

end Sys2Proof.Machine

namespace Sys2Proof.Proofs
open Sys2Proof.Machine

/-- Settles O42: the attempt begun and ended by its cases, the deadlines by the entries left, the damage after the
closing that falls due. -/
theorem attemptsDeadlinesAndDamage : Obligations.AttemptsDeadlinesAndDamage := by
  refine ⟨fun s hl => ?_, fun s r hl => ?_, fun s => ?_, fun s b hl => ⟨_, execDamagedFrame_live b hl, ?_⟩⟩
  · have he : exec .attemptStart s = .next (s.withPort (s.port.beginAttempt s.now)) := by
      simp [exec, execAttemptStart, State.inStrapFault, hl]
    refine ⟨fun ha => ?_, fun ha => ?_⟩ <;> rw [he]
    · rw [SpanPort.beginAttempt_busy ha, State.withPort_same]
    · rw [SpanPort.beginAttempt_idle ha, SpanPort.expire_eq, (s.port.expire_idle s.now ha).1]
      rfl
  · have he : exec (.attemptEnd r) s = .next (s.withPort (s.port.endAttempt r s.now)) := by
      simp [exec, execAttemptEnd, State.inStrapFault, hl]
    refine ⟨fun ha => ?_, fun a ha => ⟨fun hg => ?_, fun e hm hid => ?_⟩⟩
    · rw [he, SpanPort.endAttempt_none ha, State.withPort_same]
    · rw [he, SpanPort.endAttempt_gone ha hg]
      rfl
    · rw [he, SpanPort.endAttempt_found ha (find?_number hm hid)]
      refine ⟨fun hc => ?_, fun hc hk => ?_, fun hc hk => ?_⟩
      · rw [if_pos hc]; rfl
      · rw [if_neg hc, SpanPort.keepForRetry_stays hk]; rfl
      · rw [if_neg hc, SpanPort.keepForRetry_leaves hk]; rfl
  · have he : exec .txDeadline s = .next (s.withPort (s.port.expire s.now)) := rfl
    rw [he, SpanPort.expire_eq, expire_queue, expire_attempt]
    rfl
  · refine ⟨?_, rfl, rfl, fun hd => ?_, fun hd => ?_⟩
    · have hsame : (if linkCloseDue s.time then closeSecond s else s).port.damaged = s.port.damaged := by
        split <;> simp
      simp only [hearDamage, SpanPort.markDamaged, State.withPort_port, hsame]
      rfl
    · rw [if_neg (by rw [linkCloseDue_iff]; omega)]; rfl
    · rw [if_pos ((linkCloseDue_iff s).mpr hd)]
      exact ⟨closeSecond_nextSecond s, closeSecond_erroredRun hl⟩

end Sys2Proof.Proofs
end

section
/-! Arbitration on the medium: byte sequences compared as the numbers they write (R19, R35); hence O20. -/

namespace Sys2Proof.Machine

theorem natOfBytes_lt (bs : List Byte) : natOfBytes bs < 256 ^ bs.length := by
  induction bs with
  | nil => simp [natOfBytes]
  | cons b bs ih =>
    have hb : b.toNat + 1 ≤ 256 := b.isLt
    calc natOfBytes (b :: bs) < b.toNat * 256 ^ bs.length + 256 ^ bs.length := Nat.add_lt_add_left ih _
      _ = (b.toNat + 1) * 256 ^ bs.length := by ring
      _ ≤ 256 * 256 ^ bs.length := Nat.mul_le_mul_right _ hb
      _ = 256 ^ (b :: bs).length := by rw [List.length_cons, pow_succ, Nat.mul_comm]

/-- A higher leading digit outweighs all that follows. -/
theorem digit_lt {a b x y m : Nat} (hx : x < m) (h : a < b) : a * m + x < b * m + y :=
  calc a * m + x < a * m + m := Nat.add_lt_add_left hx _
    _ = (a + 1) * m := by ring
    _ ≤ b * m := Nat.mul_le_mul_right _ h
    _ ≤ b * m + y := Nat.le_add_right _ _

/-- Of two fields of one size the lower at the first difference is the lower number (R19, R35). -/
theorem lowerBytes_iff {as bs : List Byte} (h : as.length = bs.length) :
    lowerBytes as bs = true ↔ natOfBytes as < natOfBytes bs := by
  induction as generalizing bs with
  | nil => cases bs with
    | nil => simp [lowerBytes]
    | cons b bs => cases h
  | cons a as ih => cases bs with
    | nil => cases h
    | cons b bs =>
      have hl : as.length = bs.length := by simpa using h
      have ha := natOfBytes_lt as
      have hb := natOfBytes_lt bs
      simp only [lowerBytes, natOfBytes, hl] at ha ⊢
      split
      · rename_i he
        rw [ih hl, he, Nat.add_lt_add_iff_left]
      · rename_i hne
        have hn : a.toNat ≠ b.toNat := fun he => hne (BitVec.eq_of_toNat_eq he)
        rw [decide_eq_true_eq]
        refine ⟨digit_lt ha, fun hlt => ?_⟩
        rcases Nat.lt_or_gt_of_ne hn with hab | hba
        · exact hab
        · exact absurd hlt (digit_lt hb hba).not_gt

/-- The first difference lies in the leading field, or, where that is the same, behind it. -/
theorem lowerBytes_append {as bs : List Byte} (h : as.length = bs.length) (cs ds : List Byte) :
    lowerBytes (as ++ cs) (bs ++ ds) = true ↔ lowerBytes as bs = true ∨ (as = bs ∧ lowerBytes cs ds = true) := by
  induction as generalizing bs with
  | nil => cases bs with
    | nil => simp [lowerBytes]
    | cons b bs => cases h
  | cons a as ih => cases bs with
    | nil => cases h
    | cons b bs =>
      have hl : as.length = bs.length := by simpa using h
      simp only [List.cons_append, lowerBytes, List.cons.injEq]
      split
      · rename_i he
        simpa [he] using ih hl
      · rename_i hne
        simp [hne]

theorem bytesOfNat_inj {k v w : Nat} (hv : v < 256 ^ k) (hw : w < 256 ^ k) :
    bytesOfNat k v = bytesOfNat k w ↔ v = w := by
  refine ⟨fun h => ?_, fun h => h ▸ rfl⟩
  have hn := congrArg natOfBytes h
  rwa [natOfBytes_bytesOfNat, natOfBytes_bytesOfNat, Nat.mod_eq_of_lt hv, Nat.mod_eq_of_lt hw] at hn

theorem lowerBytes_field {k v w : Nat} (hv : v < 256 ^ k) (hw : w < 256 ^ k) :
    lowerBytes (bytesOfNat k v) (bytesOfNat k w) = true ↔ v < w := by
  rw [lowerBytes_iff (by simp), natOfBytes_bytesOfNat, natOfBytes_bytesOfNat, Nat.mod_eq_of_lt hv, Nat.mod_eq_of_lt hw]

/-- Two payloads that begin with a field of one size compare by it, then by the rest. -/
theorem lowerBytes_field_append {k v w : Nat} (hv : v < 256 ^ k) (hw : w < 256 ^ k) (cs ds : List Byte) :
    lowerBytes (bytesOfNat k v ++ cs) (bytesOfNat k w ++ ds) = true ↔ v < w ∨ (v = w ∧ lowerBytes cs ds = true) := by
  rw [lowerBytes_append (by simp), lowerBytes_field hv hw, bytesOfNat_inj hv hw]

theorem lowerBytes_cons_same (b : Byte) (cs ds : List Byte) : lowerBytes (b :: cs) (b :: ds) = lowerBytes cs ds := by
  simp [lowerBytes]

/-- Frames of one class, sender, destination and length compare by their payloads (R16, R19). -/
theorem winsOver_payload (k : FrameClass) (sender : BitVec 4) (dest : BitVec 8) {p q : List Byte}
    (h : p.length = q.length) : winsOver ⟨k, sender, dest, p⟩ ⟨k, sender, dest, q⟩ = lowerBytes p q := by
  simp only [winsOver, frameBytes, h, lowerBytes_cons_same]

end Sys2Proof.Machine

namespace Sys2Proof.Proofs
open Sys2Proof.Machine

/-- Settles O20: the payloads compare field by field, each field as the number it writes. -/
theorem lowerCallWinsArbitration : Obligations.LowerCallWinsArbitration := by
  intro a b hae has hav had hbe hbs hbv hbd k sender dest
  rw [winsOver_payload _ _ _ (by simp [callPayload])]
  simp only [callPayload, List.append_assoc]
  rw [lowerBytes_field_append (by simpa using hae) (by simpa using hbe),
    lowerBytes_field_append (by simpa using has) (by simpa using hbs),
    lowerBytes_field_append (by simpa using hav) (by simpa using hbv),
    lowerBytes_field (by simpa using had) (by simpa using hbd)]

end Sys2Proof.Proofs
end

section
/-! STRAP_FAULT: what each command leaves when every block but the time base holds its hard-reset values (R34, R133,
R158, R172); hence O6. -/

namespace Sys2Proof.Machine

/-- The blocks keep their hard-reset values, the hold logic and the configuration what they are. -/
structure StaysSilent (s t : State) : Prop where
  silent : t.Silent
  hold : t.hold = s.hold
  conf : t.conf = s.conf

theorem State.Silent.stays {s : State} (h : s.Silent) : StaysSilent s s := ⟨h, rfl, rfl⟩

theorem State.Silent.withTime {s : State} (h : s.Silent) (b : TimeBase) : StaysSilent s (s.withTime b) :=
  ⟨{ h with }, rfl, rfl⟩

theorem State.Silent.withPins {s : State} (h : s.Silent) (p : Pins) : StaysSilent s (s.withPins p) :=
  ⟨{ h with }, rfl, rfl⟩

theorem State.Silent.withFreeDraws {s : State} (h : s.Silent) (n : Nat) : StaysSilent s (s.withFreeDraws n) :=
  ⟨{ h with }, rfl, rfl⟩

theorem State.Silent.withPending {s : State} (h : s.Silent) (l : List Instr) : StaysSilent s (s.withPending l) :=
  ⟨{ h with }, rfl, rfl⟩

/-- What a silent controller does next. -/
theorem StaysSilent.next {s t u : State} (h : StaysSilent s t) (k : t.Silent → StaysSilent t u) : StaysSilent s u :=
  ⟨(k h.silent).silent, (k h.silent).hold.trans h.hold, (k h.silent).conf.trans h.conf⟩

theorem endCause_strapFault {s : State} (h : s.conf.life = .strapFault) (c : Cause) : endCause c s = s := by
  simp [endCause, State.inStrapFault, h]

section
variable {s : State} (h : s.Silent)
include h

theorem State.Silent.report (e : EventKind) (q : Nat) (v : BitVec 32) : StaysSilent s (Machine.report e q v s) := by
  rw [report_strapFault h.life]
  exact h.stays

theorem State.Silent.raiseCause (c : Cause) : StaysSilent s (Machine.raiseCause c s) := by
  rw [raiseCause_strapFault h.life]
  exact h.stays

theorem State.Silent.endCause (c : Cause) : StaysSilent s (Machine.endCause c s) := by
  rw [endCause_strapFault h.life]
  exact h.stays

theorem State.Silent.gradeLink : StaysSilent s (Machine.gradeLink s) := by
  rw [gradeLink_strapFault h.life]
  exact h.stays

/-! ### The time base (R3 to R15) -/

/-- An empty queue is as empty at any instant. -/
theorem State.Silent.expire (now : Nat) : s.port.expire now = s.port := by
  rw [h.port]
  rfl

theorem State.Silent.expireQueue (now : Nat) : StaysSilent s (Machine.expireQueue now s) := by
  rw [Machine.expireQueue, h.expire, State.withPort_same]
  exact h.stays

/-- An empty ring under the setting OFF is as empty after a step of mount time. -/
theorem State.Silent.emptyTrace : StaysSilent s (Machine.emptyTrace s) := by
  have hax : { s.axis with ring := [], phase := phaseOfMode s.axis.setting.mode } = s.axis := by
    rcases h.axis with ha | ha <;> rw [ha] <;> rfl
  rw [Machine.emptyTrace, hax, State.withAxis_same]
  exact h.stays

theorem State.Silent.stepTo (x : Nat) : StaysSilent s (Machine.stepTo x s) :=
  (h.withTime _).next fun h => (h.expireQueue _).next fun h => h.gradeLink.next fun h => h.emptyTrace

theorem State.Silent.lockFromFree : StaysSilent s (Machine.lockFromFree s) :=
  (h.stepTo _).next fun h => (h.withTime _).next fun h => (h.report ..).next fun h => h.endCause _

theorem State.Silent.regainLock : StaysSilent s (Machine.regainLock s) :=
  (h.withTime _).next fun h => (h.report ..).next fun h => h.endCause _

theorem State.Silent.edgeByState : StaysSilent s (Machine.edgeByState s) := by
  simp only [Machine.edgeByState, edgeFree, edgeLocked, edgeRegain]
  (repeat' split)
  any_goals exact h.stays
  any_goals exact h.withTime _
  · exact h.lockFromFree
  · exact (h.stepTo _).next fun h => h.withTime _
  · exact h.regainLock
  · exact h.regainLock

theorem State.Silent.judgeExpected : StaysSilent s (Machine.judgeExpected s) := by
  simp only [Machine.judgeExpected, enterCoast]
  refine (h.withTime { s.time with judgeSecond := s.time.judgeSecond + Config.second }).next fun h => ?_
  (repeat' split)
  · exact h.withTime _
  · exact (h.withTime _).next fun h => h.report ..
  · exact h.withTime _

theorem State.Silent.coastSecond : StaysSilent s (Machine.coastSecond s) := by
  simp only [Machine.coastSecond, enterLost]
  (repeat' split)
  · exact (h.withTime _).next fun h => (h.withTime _).next fun h => (h.report ..).next fun h => h.raiseCause _
  · exact h.withTime _
  · exact h.stays

theorem State.Silent.closeSecond : StaysSilent s (Machine.closeSecond s) :=
  (h.withTime _).next fun h => h.gradeLink.next fun h => h.coastSecond

/-! ### The servo tick (R158) -/

theorem strapTick_silent : StaysSilent s (strapTick s) := by
  refine ⟨{ h with axis := .inr ?_ }, rfl, rfl⟩
  simp only [strapTick, State.withAxis_axis]
  rcases h.axis with ha | ha <;> rw [ha]

theorem execServoTick_silent {r : EncoderReply} {t : State} (he : execServoTick r s = .next t) : StaysSilent s t := by
  have hlife : (advanceTick s).inStrapFault = true := by simp [State.inStrapFault, h.life]
  simp only [execServoTick, tickAt, hlife, if_true] at he
  split at he <;> cases he
  · have later : StaysSilent s (advanceTick s) := h.withTime _
    exact later.next strapTick_silent
  · exact h.stays

/-! ### The commands that find nothing to do -/

/-- Without a round, a store, a timer or a queue there is nothing to take. -/
theorem nothing_due :
    repeatDue s = false ∧ intakeDue s = false ∧ dueTrigger s = none ∧ dueOutcome s = none ∧ dueResult s = none ∧
      brakeDue s = false ∧ arrivalDue s = false ∧ dueDwellStart s = none ∧ dueDwellEnd s = none ∧
      dueAbandon s = none := by
  have hb : s.axis.brakeTimer = none := by rcases h.axis with ha | ha <;> rw [ha] <;> rfl
  simp [repeatDue, intakeDue, dueTrigger, dueOutcome, dueResult, roundOf, brakeDue, arrivalDue, dueDwellStart,
    dueDwellEnd, dueAbandon, h.repeatTimer, h.store, h.round, hb, PlanStore.afterReset, RoundEngine.afterReset]

/-- In STRAP_FAULT no command but a hard reset reaches more than the clock, the lines and the drive link. -/
theorem exec_silent {c : Instr} {t : State} (hc : isHardReset c = false) (he : exec c s = .next t) :
    StaysSilent s t := by
  cases hf : c.frame? with
  | some f =>
    obtain ⟨owner, hx⟩ := exec_of_frame (s := s) hf
    rw [hx, hear_silent _ _ _ _ _ h.life] at he
    cases he
    exact h.stays
  | none =>
    have hin : s.inStrapFault = true := by simp [State.inStrapFault, h.life]
    obtain ⟨hrep, hint, htrig, hout, hres, hbrake, harr, hstart, hend, hab⟩ := nothing_due h
    cases c
    case hardReset => cases hc
    case unknownClassFrame k _ _ => cases k <;> cases hf
    case reportFrameHeard k _ _ => cases k <;> cases hf
    case commandUnknownCode _ code _ => cases code <;> cases hf
    case servoTick => exact execServoTick_silent h he
    case ppsEdge => cases he; exact h.edgeByState.next fun h => h.withTime _
    case unitCorrection => cases he; split; exacts [h.withTime _, h.stays]
    case correctionSecondEnd => cases he; split; exacts [h.withTime _, h.stays]
    case regainRunMiss => cases he; split; exacts [h.withTime _, h.stays]
    case expectedSecondJudgement => cases he; split; exacts [h.judgeExpected, h.stays]
    case linkSecondClose => cases he; split; exacts [h.closeSecond, h.stays]
    case driveFaultAsserted => cases he; exact (h.withPins _).next fun h => h.raiseCause _
    case driveFaultDeasserted => cases he; exact (h.withPins _).next fun h => h.endCause _
    case emergencyStopAsserted => cases he; exact (h.withPins _).next fun h => h.raiseCause _
    case emergencyStopDeasserted => cases he; exact (h.withPins _).next fun h => h.endCause _
    case txDeadline => cases he; exact h.expireQueue _
    case attemptStart => simp only [exec, execAttemptStart, hin, if_true] at he; cases he; exact h.stays
    case attemptEnd => simp only [exec, execAttemptEnd, hin, if_true] at he; cases he; exact h.stays
    case damagedFrame => simp only [exec, execDamagedFrame, hin, if_true] at he; cases he; exact h.stays
    case responseFieldReport =>
      have hr : s.port.reception = none := by rw [h.port]; rfl
      simp only [exec, execResponseFieldReport, hr] at he
      cases he
      exact h.stays
    case roundResult => simp only [exec, execRoundResult, hres] at he; cases he; exact h.stays
    case brakeTimerExpiry => simp only [exec, execBrakeTimerExpiry, hbrake] at he; cases he; exact h.stays
    case holdRepeat => simp only [exec, execHoldRepeat, hrep] at he; cases he; exact h.stays
    case intakeTimeout => simp only [exec, execIntakeTimeout, hint] at he; cases he; exact h.stays
    case pendingTriggerEpoch => simp only [exec, execPendingTriggerEpoch, htrig] at he; cases he; exact h.stays
    case ownOutcome => simp only [exec, execOwnOutcome, hout] at he; cases he; exact h.stays
    case arrival => simp only [exec, execArrival, harr] at he; cases he; exact h.stays
    case dwellStart => simp only [exec, execDwellStart, hstart] at he; cases he; exact h.stays
    case dwellEnd => simp only [exec, execDwellEnd, hend] at he; cases he; exact h.stays
    case abandonEpoch => simp only [exec, execAbandonEpoch, hab] at he; cases he; exact h.stays
    all_goals cases hf

end

theorem drawReply_silent {s : State} (h : s.Silent) (c : Instr) : StaysSilent s (drawReply c s) := by
  simp only [drawReply]
  split
  · exact h.withFreeDraws _
  · exact h.stays

end Sys2Proof.Machine

namespace Sys2Proof.Proofs
open Sys2Proof.Machine

/-- Settles O6: the front command other than a hard reset, the event that is due or the microsecond, each leaves a
silent controller silent. -/
theorem strapFaultStaysSilent : Obligations.StrapFaultStaysSilent := by
  intro s t h hf he
  have stays : StaysSilent s t := by
    cases hp : s.pending with
    | cons c rest =>
      rw [step_of_waiting hp] at he
      have hc : isHardReset c = false := by simpa only [frontIs, hp] using hf
      have waits := h.withPending rest
      exact waits.next fun h => exec_silent h hc he
    | nil =>
      rw [step_of_empty hp] at he
      cases hd : due s with
      | none =>
        rw [idle_of_none hd] at he
        cases he
        exact h.withTime _
      | some c =>
        rw [idle_of_due hd] at he
        have drawn := drawReply_silent h c
        exact drawn.next fun h => exec_silent h (isHardReset_of_due hd) he
  exact ⟨stays.silent, stays.hold, stays.conf⟩

end Sys2Proof.Proofs
end

section
/-! Payloads: each field stands at its place and reads back the value it was written from (R35, 3.3); hence O19. -/

namespace Sys2Proof.Machine

/-! ### A field at its place (R35) -/

section
variable (k v : Nat) (x : Int) (b : Byte) (p q : List Byte) (n m : Nat)

/-- A field that stands first. -/
theorem fieldBytes_head (h : p.length = k) : fieldBytes (p ++ q) 0 k = p := by
  rw [fieldBytes, List.drop_zero, List.take_left' h]

theorem fieldBytes_whole (h : p.length = k) : fieldBytes p 0 k = p := by
  rw [fieldBytes, List.drop_zero, List.take_of_length_le h.le]

theorem fieldBytes_skip (h : p.length ≤ n) : fieldBytes (p ++ q) n m = fieldBytes q (n - p.length) m := by
  rw [fieldBytes, fieldBytes, List.drop_append, List.drop_eq_nil_of_le h, List.nil_append]

@[simp] theorem fieldU_skip (h : k ≤ n) : fieldU (bytesOfNat k v ++ q) n m = fieldU q (n - k) m := by
  rw [fieldU, fieldU, fieldBytes_skip _ _ _ _ (by simpa using h), bytesOfNat_length]

@[simp] theorem fieldU_skip_signed (h : k ≤ n) : fieldU (bytesOfInt k x ++ q) n m = fieldU q (n - k) m :=
  fieldU_skip k _ q n m h

@[simp] theorem fieldS_skip (h : k ≤ n) : fieldS (bytesOfNat k v ++ q) n m = fieldS q (n - k) m := by
  rw [fieldS, fieldS, fieldBytes_skip _ _ _ _ (by simpa using h), bytesOfNat_length]

@[simp] theorem fieldS_skip_signed (h : k ≤ n) : fieldS (bytesOfInt k x ++ q) n m = fieldS q (n - k) m :=
  fieldS_skip k _ q n m h

@[simp] theorem fieldU_head : fieldU (bytesOfNat k v ++ q) 0 k = v % 256 ^ k := by
  rw [fieldU, fieldBytes_head _ _ _ (bytesOfNat_length k v), natOfBytes_bytesOfNat]

@[simp] theorem fieldU_whole : fieldU (bytesOfNat k v) 0 k = v % 256 ^ k := by
  rw [fieldU, fieldBytes_whole _ _ (bytesOfNat_length k v), natOfBytes_bytesOfNat]

@[simp] theorem fieldS_head (h1 : -(256 ^ k : Int) ≤ 2 * x) (h2 : 2 * x < 256 ^ k) :
    fieldS (bytesOfInt k x ++ q) 0 k = x := by
  rw [fieldS, fieldBytes_head _ _ _ (bytesOfInt_length k x), intOfBytes_bytesOfInt k x h1 h2]

@[simp] theorem fieldS_whole (h1 : -(256 ^ k : Int) ≤ 2 * x) (h2 : 2 * x < 256 ^ k) :
    fieldS (bytesOfInt k x) 0 k = x := by
  rw [fieldS, fieldBytes_whole _ _ (bytesOfInt_length k x), intOfBytes_bytesOfInt k x h1 h2]

/-- A field of one byte is that byte. -/
@[simp] theorem fieldU_byte : fieldU (b :: q) 0 1 = b.toNat := by
  simp [fieldU, fieldBytes, natOfBytes]

@[simp] theorem fieldU_skip_byte : fieldU (b :: q) (n + 1) m = fieldU q n m := rfl

@[simp] theorem fieldS_skip_byte : fieldS (b :: q) (n + 1) m = fieldS q n m := rfl

end

/-! ### The payloads (3.3) -/

theorem readCall_callPayload {c : CallFields} (he : c.epoch < 2 ^ 48) (hs : c.seq < 2 ^ 16) (hv : c.verdict < 2 ^ 8)
    (hd : c.d < 2 ^ 32) : readCall (callPayload c) = some c := by
  simp (disch := omega) [readCall, callPayload, Nat.mod_eq_of_lt]

theorem readHold_holdPayload {h : HoldFields} (hc : h.cause < 2 ^ 8) (hs : h.seq < 2 ^ 16) (hf : h.flags < 2 ^ 8) :
    readHold (holdPayload h) = some h := by
  simp (disch := omega) [readHold, holdPayload, Nat.mod_eq_of_lt]

theorem readAbandon_abandonPayload {a : AbandonFields} (hs : a.seq < 2 ^ 16) (he : a.epoch < 2 ^ 48)
    (hc : a.cause < 2 ^ 8) : readAbandon (abandonPayload a) = some a := by
  simp (disch := omega) [readAbandon, abandonPayload, Nat.mod_eq_of_lt]

theorem readGuide_guidePayload {g : GuideFields} (hs : g.seq < 2 ^ 16)
    (hd : ∀ x ∈ [g.dAz, g.dEl, g.dRot], -2 ^ 31 ≤ x ∧ x < 2 ^ 31) : readGuide (guidePayload g) = some g := by
  simp only [List.forall_mem_cons] at hd
  obtain ⟨⟨h1, h2⟩, ⟨h3, h4⟩, ⟨h5, h6⟩, -⟩ := hd
  simp (disch := omega) [readGuide, guidePayload, Nat.mod_eq_of_lt]

theorem readHead_headPayload {h : HeadFields} (hs : h.seq < 2 ^ 16) (hk : h.kind < 2 ^ 8)
    (ho : h.windowOpen < 2 ^ 48) (hw : h.windowClose < 2 ^ 48) (hd : h.dwell < 2 ^ 32)
    (hc : ∀ r, h.counts.get r < 2 ^ 8) : readHead (headPayload h) = some h := by
  have h1 : h.counts.az < 2 ^ 8 := hc .az
  have h2 : h.counts.el < 2 ^ 8 := hc .el
  have h3 : h.counts.rot < 2 ^ 8 := hc .rot
  have h4 : h.counts.dome < 2 ^ 8 := hc .dome
  have h5 : h.counts.aux < 2 ^ 8 := hc .aux
  simp (disch := omega) [readHead, headPayload, Nat.mod_eq_of_lt]

theorem readSeg_segPayload {g : SegFields} (hs : g.seq < 2 ^ 16) (hi : g.index < 2 ^ 8)
    (ht : g.segment.tStart < 2 ^ 48) (hp : g.segment.span < 2 ^ 32)
    (hc : ∀ x ∈ [g.segment.c0, g.segment.c1, g.segment.c2, g.segment.c3], -2 ^ 31 ≤ x ∧ x < 2 ^ 31) :
    readSeg (segPayload g) = some g := by
  simp only [List.forall_mem_cons] at hc
  obtain ⟨⟨h1, h2⟩, ⟨h3, h4⟩, ⟨h5, h6⟩, ⟨h7, h8⟩, -⟩ := hc
  simp (disch := omega) [readSeg, segPayload, Nat.mod_eq_of_lt]

end Sys2Proof.Machine

namespace Sys2Proof.Proofs
open Sys2Proof.Machine

/-- Settles O19: class by class, each field at its place. -/
theorem payloadsRoundTrip : Obligations.PayloadsRoundTrip := by
  refine ⟨fun c he hs hv hd => ⟨readCall_callPayload he hs hv hd, ?_⟩,
    fun h hc hs hf => ⟨readHold_holdPayload hc hs hf, ?_⟩,
    fun a hs he hc => ⟨readAbandon_abandonPayload hs he hc, ?_⟩,
    fun g hs hd => ⟨readGuide_guidePayload hs hd, ?_⟩,
    fun n hn => ⟨readTime_timePayload hn, ?_⟩,
    fun n v hn h1 h2 => ⟨readConfig_configPayload hn h1 h2, ?_⟩,
    fun h hs hk ho hw hd hc => ⟨readHead_headPayload hs hk ho hw hd hc, ?_⟩,
    fun g hs hi ht hp hc => ⟨readSeg_segPayload hs hi ht hp hc, ?_⟩⟩ <;>
    simp [callPayload, holdPayload, abandonPayload, guidePayload, timePayload, configPayload, headPayload, segPayload]

end Sys2Proof.Proofs
end

section
/-! What an owner's decision leads to, and the frames of a round: ROLL, PROPOSE, ABANDON (R25, R36, R37, R103, R105, R106,
R114); hence O46 and O47. -/

namespace Sys2Proof.Machine

/-! ### Decisions on frames heard (R25, R41) -/

/-- A frame that passes the tests and that its owner takes. -/
theorem hear_taken {c : Instr} {k : FrameClass} {o : Origin} {p : List Byte} {s t : State} {owner : State → Judged}
    (hp : Passes c s) (hf : c.frame? = some ⟨k, o.sender, o.dest, p⟩) (hj : owner s = take t) :
    hear k o p owner s = t.receiving (heardAs c true s) := by
  rw [hear_of_passes owner hp hf, hj]
  rfl

/-- A frame that passes the tests and that its owner does not take, whatever it does with it. -/
theorem hear_left {c : Instr} {k : FrameClass} {o : Origin} {p : List Byte} {s t : State} {owner : State → Judged}
    (hp : Passes c s) (hf : c.frame? = some ⟨k, o.sender, o.dest, p⟩) (hj : owner s = leave t) :
    hear k o p owner s = t.receiving (heardAs c false s) := by
  rw [hear_of_passes owner hp hf, hj]
  rfl

/-- A COMMAND of its code's length is decided by its owner (R41). -/
theorem hearCommand_of_length {code len : Nat} {o : Origin} {a : List Byte} {s : State} (owner : State → Judged)
    (hl : a.length + 1 = len) :
    hearCommand code len o a owner s = hear .command o (BitVec.ofNat 8 code :: a) owner s := by
  simp only [hearCommand, hl, if_true]

section
variable {c : Instr} {code len : Nat} {o : Origin} {a : List Byte} {s t : State} {owner : State → Judged}
  (hp : Passes c s) (hf : c.frame? = some ⟨.command, o.sender, o.dest, BitVec.ofNat 8 code :: a⟩)
  (hl : a.length + 1 = len)
include hp hf hl

theorem hearCommand_taken (hj : owner s = take t) :
    hearCommand code len o a owner s = t.receiving (heardAs c true s) := by
  rw [hearCommand_of_length owner hl, hear_taken hp hf hj]

theorem hearCommand_ignored (hj : owner s = leave s) :
    hearCommand code len o a owner s = s.receiving (heardAs c false s) := by
  rw [hearCommand_of_length owner hl, hear_ignored hp hf hj]

theorem hearCommand_refused {r : Reason} (hj : owner s = refused r code s) :
    RefusesCommand c s (hearCommand code len o a owner s) r code := by
  rw [hearCommand_of_length owner hl]
  exact hear_refused (j := .command) hp hf hj

end

/-- While ESTOP persists a command is refused before its owner is consulted (R144). -/
theorem gateEstop_on {code : Nat} {owner : State → Judged} {s : State} (h : s.hold.causes.estop = true) :
    gateEstop code owner s = refused .state code s := if_pos h

theorem gateEstop_off {code : Nat} {owner : State → Judged} {s : State} (h : s.hold.causes.estop = false) :
    gateEstop code owner s = owner s := if_neg (by simp [h])

/-! ### The round in progress -/

/-- Without a round in progress a ROLL is ignored. -/
theorem judgeRoll_noRound {p : List Byte} {s : State} (h : roundOf s = none) : judgeRoll p s = leave s := by
  cases hf : readCall p <;> simp only [judgeRoll, hf, h]

theorem judgePropose_noRound {o : Origin} {p : List Byte} {s : State} (h : roundOf s = none) :
    judgePropose o p s = leave s := by
  cases hf : readCall p <;> simp only [judgePropose, hf, h]

/-! ### ROLL (R105, R106) -/

/-- A ROLL of the round, heard before S (R37). -/
theorem rollMatches_iff (s : State) (r : RoundRecord) (f : CallFields) :
    rollMatches s r f = true ↔
      f.epoch = r.epoch ∧ r.selected = some f.seq ∧ f.seq ≠ 0 ∧ s.now < r.epoch + s.items.tAgree := by
  simp [rollMatches, and_assoc]

theorem assertsGo_iff (s : State) (r : RoundRecord) (f : CallFields) :
    assertsGo s r f = true ↔
      rollMatches s r f = true ∧ r.verdict = .go ∧ r.skipAsserted = false ∧ r.unreachableHeard = false ∧
        r.ownD ≤ f.d := by
  simp [assertsGo, and_assoc]

theorem assertsSkip_iff (s : State) (r : RoundRecord) (f : CallFields) :
    assertsSkip s r f = true ↔ rollMatches s r f = true ∧ r.goAsserted = false := by
  simp [assertsSkip]

section
variable {f : CallFields} {p : List Byte} {s : State} {r : RoundRecord} (hf : readCall p = some f)
  (hr : roundOf s = some r)
include hf hr

/-- A ROLL that the round asserts as GO (R105). -/
theorem judgeRoll_go (hv : f.verdict = 0) (h : assertsGo s r f = true) :
    judgeRoll p s = take (updateRound (fun r => { r with goAsserted := true }) s) := by
  simp only [judgeRoll, hf, hr, hv, if_true, judgeGoRoll, h]

/-- A ROLL that the round asserts as SKIP (R106). -/
theorem judgeRoll_skip (hv : f.verdict = 1) (h : assertsSkip s r f = true) :
    judgeRoll p s = take (updateRound (fun r => { r with skipAsserted := true }) s) := by
  simp only [judgeRoll, hf, hr, hv, Nat.one_ne_zero, if_false, if_true, judgeSkipRoll, h]

/-- Any other ROLL is ignored (R36, R105, R106). -/
theorem judgeRoll_other (hg : ¬(f.verdict = 0 ∧ assertsGo s r f = true))
    (hs : ¬(f.verdict = 1 ∧ assertsSkip s r f = true)) : judgeRoll p s = leave s := by
  simp only [judgeRoll, hf, hr, judgeGoRoll, judgeSkipRoll]
  split
  · rw [if_neg fun h => hg ⟨‹_›, h⟩]
  · split
    · rw [if_neg fun h => hs ⟨‹_›, h⟩]
    · rfl

end

/-! ### PROPOSE (R103) -/

theorem verdictOfCode_verdictCode (v : Verdict) : verdictOfCode (verdictCode v) = some v := by cases v <;> rfl

theorem verdictOfCode_none {n : Nat} (h : 4 ≤ n) : verdictOfCode n = none := by
  match n, h with
  | n + 4, _ => rfl

theorem countsPropose_iff (s : State) (r : RoundRecord) (e : Nat) :
    countsPropose s r e = true ↔ e = r.epoch ∧ s.now ≤ r.epoch + s.items.tPropose ∧ r.outcome = none := by
  simp [countsPropose, and_assoc]

/-- A PROPOSE with a verdict of the list is counted, or ignored (R103). -/
theorem judgePropose_round {o : Origin} {p : List Byte} {f : CallFields} {s : State} {r : RoundRecord} {v : Verdict}
    (hf : readCall p = some f) (hr : roundOf s = some r) (hv : f.verdict = verdictCode v) :
    judgePropose o p s =
      if countsPropose s r f.epoch then take (updateRound (countPropose s.items o.sender.toNat v f) s)
      else leave s := by
  simp only [judgePropose, hf, hr, hv, verdictOfCode_verdictCode]

/-- A verdict outside the list (R36). -/
theorem judgePropose_unknown {o : Origin} {p : List Byte} {f : CallFields} {s : State} (hf : readCall p = some f)
    (hv : 4 ≤ f.verdict) : judgePropose o p s = leave s := by
  cases hr : roundOf s <;> simp only [judgePropose, hf, hr, verdictOfCode_none hv]

/-- The roles of the sender, and no other, take the proposal (R103). -/
theorem fillHeard_get (c : Items) (sender : Nat) (h : HeardProposal) (t : PerRole (Option HeardProposal)) (x : Role) :
    (fillHeard c sender h t).get x = if c.addr.get x ≠ 15 ∧ c.addr.get x = sender then some h else t.get x := by
  simp [fillHeard, PerRole.get_ofFn, Items.inRoster]

/-! ### ABANDON (R114) -/

theorem abandonOfCode_some {n : Nat} (h : n ≤ 1) : ∃ c, abandonOfCode n = some c ∧ abandonCode c = n := by
  match n, h with
  | 0, _ => exact ⟨.trackLost, rfl, rfl⟩
  | 1, _ => exact ⟨.limit, rfl, rfl⟩

theorem abandonOfCode_none {n : Nat} (h : 1 < n) : abandonOfCode n = none := by
  match n, h with
  | n + 2, _ => rfl

theorem slotHolds_iff (slot : Option Record) (q : Nat) :
    PlanStore.slotHolds slot q = true ↔ ∃ r, slot = some r ∧ r.seq = q := by
  cases slot <;> simp [PlanStore.slotHolds]

theorem admitsAbandon_iff (s : State) (f : AbandonFields) :
    admitsAbandon s f = true ↔ inAbandonPhase s = true ∧ s.now < f.epoch ∧
      ∃ rec, s.store.current = some rec ∧ rec.seq = f.seq ∧ rec.dwellDone = false := by
  simp only [admitsAbandon, Bool.and_eq_true, slotHolds_iff, decide_eq_true_eq, currentOpen]
  cases s.store.current <;> simp
  tauto

/-- An ABANDON with a cause of the list that fits becomes the pending abandon (R114). -/
theorem judgeAbandon_fits {p : List Byte} {f : AbandonFields} {c : AbandonCause} {s : State}
    (hf : readAbandon p = some f) (hc : abandonOfCode f.cause = some c) (h : admitsAbandon s f = true) :
    judgeAbandon p s =
      take (s.withRound { s.round with abandon := some (earlierAbandon s.round.abandon ⟨f.seq, f.epoch, c⟩) }) := by
  simp only [judgeAbandon, hf, hc, h, if_true]

/-- Any other ABANDON is ignored (R36, R114). -/
theorem judgeAbandon_other {p : List Byte} {f : AbandonFields} {s : State} (hf : readAbandon p = some f)
    (h : ¬(f.cause ≤ 1 ∧ admitsAbandon s f = true)) : judgeAbandon p s = leave s := by
  by_cases hc : f.cause ≤ 1
  · obtain ⟨c, hc', -⟩ := abandonOfCode_some hc
    simp only [judgeAbandon, hf, hc', if_neg fun ha => h ⟨hc, ha⟩]
  · simp only [judgeAbandon, hf, abandonOfCode_none (not_le.mp hc)]

theorem earlierAbandon_none (n : PendingAbandon) : earlierAbandon none n = n := rfl

theorem earlierAbandon_some (b n : PendingAbandon) :
    earlierAbandon (some b) n = if n.epoch < b.epoch then n else b := rfl

end Sys2Proof.Machine

namespace Sys2Proof.Proofs
open Sys2Proof.Machine

/-- Settles O46: both rows are heard as the ROLL they carry, which the round asserts as GO, as SKIP or not at all. -/
theorem rollsAreAsserted : Obligations.RollsAreAsserted := by
  intro o f s c he hs hv hd hc hp
  have hframe : c.frame? = some ⟨.roll, o.sender, o.dest, callPayload f⟩ := by rcases hc with rfl | rfl <;> rfl
  have hexec : exec c s = .next (hear .roll o (callPayload f) (judgeRoll (callPayload f)) s) := by
    rcases hc with rfl | rfl <;> rfl
  have hf := readCall_callPayload he hs hv hd
  refine ⟨_, hexec, fun hn => hear_ignored hp hframe (judgeRoll_noRound hn), fun r w hw hplan => ?_⟩
  obtain ⟨hr, -⟩ := roundOf_of_plan hw hplan
  have hgo := assertsGo_iff s r f
  have hskip := assertsSkip_iff s r f
  rw [rollMatches_iff] at hgo hskip
  refine ⟨fun ⟨h0, hown, hcond⟩ => ?_, fun ⟨h1, hown, hcond⟩ => ?_, fun hng hns => ?_⟩
  · rw [hear_taken hp hframe (judgeRoll_go hf hr h0 (hgo.mpr ⟨hown, hcond⟩)), updateRound_of_plan hw hplan]
    rfl
  · rw [hear_taken hp hframe (judgeRoll_skip hf hr h1 (hskip.mpr ⟨hown, hcond⟩)), updateRound_of_plan hw hplan]
    rfl
  · exact hear_ignored hp hframe
      (judgeRoll_other hf hr (fun h => hng ⟨h.1, hgo.mp h.2⟩) fun h => hns ⟨h.1, hskip.mp h.2⟩)

/-- Settles O47: a PROPOSE by its verdict and the round's conditions, an ABANDON by its cause and the target's. -/
theorem proposesAndAbandonsAreTaken : Obligations.ProposesAndAbandonsAreTaken := by
  refine ⟨fun o f s he hs hv hd hp => ⟨_, rfl, fun h => hear_ignored hp rfl ?_, fun r w v hw hplan hverdict => ?_⟩,
    fun o f s hs he hc hp => ⟨_, rfl, fun h => hear_ignored hp rfl ?_, fun h => ?_⟩⟩
  · have hf := readCall_callPayload he hs hv hd
    exact h.elim judgePropose_noRound (judgePropose_unknown hf)
  · have hf := readCall_callPayload he hs hv hd
    obtain ⟨hr, -⟩ := roundOf_of_plan hw hplan
    have hj := judgePropose_round (o := o) hf hr hverdict
    refine ⟨fun h => hear_ignored hp rfl ?_, fun h => ?_⟩
    · rw [hj, if_neg (mt (countsPropose_iff s r f.epoch).mp h)]
    · rw [if_pos ((countsPropose_iff s r f.epoch).mpr h), updateRound_of_plan hw hplan] at hj
      refine ⟨_, hear_taken hp rfl hj, rfl, fun x hx ha => ?_, fun x hx => ?_, ?_⟩
      · exact (fillHeard_get ..).trans (if_pos ⟨hx, ha⟩)
      · exact (fillHeard_get ..).trans (if_neg fun hn => hx.elim hn.1 (absurd hn.2))
      · simp [countPropose]
  · refine judgeAbandon_other (readAbandon_abandonPayload hs he hc) fun ⟨hcause, ha⟩ => h ?_
    obtain ⟨hph, ht, hrec⟩ := (admitsAbandon_iff s f).mp ha
    exact ⟨hph, ht, hcause, hrec⟩
  · obtain ⟨hph, ht, hcause, hrec⟩ := h
    obtain ⟨k, hk, hcode⟩ := abandonOfCode_some hcause
    have hj := judgeAbandon_fits (readAbandon_abandonPayload hs he hc) hk ((admitsAbandon_iff s f).mpr ⟨hph, ht, hrec⟩)
    refine ⟨_, hear_taken hp rfl hj, ?_, fun b hb hle => ?_⟩
    · rintro (hn | ⟨b, hb, hlt⟩)
      · rw [hn, earlierAbandon_none]
        exact ⟨rfl, rfl, hcode⟩
      · rw [hb, earlierAbandon_some, if_pos hlt]
        exact ⟨rfl, rfl, hcode⟩
    · rw [hb, earlierAbandon_some, if_neg (not_lt.mpr hle)]

end Sys2Proof.Proofs
end

section
/-! The frames of a tracking axis: GUIDE and OFFSET (R39, R124 to R126); hence O48. -/

namespace Sys2Proof.Machine

theorem roleOfCode_iff (n : Nat) (r : Role) : roleOfCode n = some r ↔ roleCode r = n := by
  constructor
  · intro h
    simp only [roleOfCode] at h
    split at h <;> cases h <;> rfl
  · rintro rfl
    cases r <;> rfl

theorem roleOfCode_none {n : Nat} (h : n = 0 ∨ 5 < n) : roleOfCode n = none := by
  match n, h with
  | 0, _ => rfl
  | n + 6, _ => rfl

theorem roleOfCode_some {n : Nat} (h1 : 1 ≤ n) (h2 : n ≤ 5) : ∃ r, roleOfCode n = some r ∧ roleCode r = n := by
  have : ∃ r, roleCode r = n := by
    match n, h1, h2 with
    | 1, _, _ => exact ⟨.az, rfl⟩
    | 2, _, _ => exact ⟨.el, rfl⟩
    | 3, _, _ => exact ⟨.rot, rfl⟩
    | 4, _, _ => exact ⟨.dome, rfl⟩
    | 5, _, _ => exact ⟨.aux, rfl⟩
  obtain ⟨r, hr⟩ := this
  exact ⟨r, (roleOfCode_iff n r).mpr hr, hr⟩

theorem roleCode_inj {r q : Role} (h : roleCode r = roleCode q) : r = q := by
  have hr := (roleOfCode_iff _ r).mpr h
  rw [(roleOfCode_iff _ q).mpr rfl] at hr
  exact (Option.some.inj hr).symm

theorem isObserving_iff (p : Option PlanState) : isObserving p = true ↔ ∃ ph, p = some (.observing ph) := by
  rcases p with _ | p
  · simp [isObserving]
  · cases p <;> simp [isObserving]

theorem planCode_observing (p : Option PlanState) : planCode p = 3 ↔ isObserving p = true := by
  rcases p with _ | p
  · simp [planCode, isObserving]
  · cases p <;> simp [planCode, isObserving]

theorem clampAbs_eq (b : Nat) (x : Int) : clampAbs b x = max (-(b : Int)) (min x b) := rfl

/-! ### GUIDE (R39, R125, R126) -/

theorem tracks_iff (m : Motion) : tracks m = true ↔ motionCode m ∈ [1, 2] := by
  cases m <;> simp [tracks, motionCode]

/-- The correction of AZ, EL or ROT where the role set names the own role (R39). -/
theorem ownCorrection_iff (s : State) (g : GuideFields) (Δ : Int) :
    ownCorrection s g = some Δ ↔
      (s.ownRole = some .az ∧ g.roles.getLsbD 1 = true ∧ Δ = g.dAz) ∨
      (s.ownRole = some .el ∧ g.roles.getLsbD 2 = true ∧ Δ = g.dEl) ∨
      (s.ownRole = some .rot ∧ g.roles.getLsbD 3 = true ∧ Δ = g.dRot) := by
  rcases h : s.ownRole with _ | r
  · simp [ownCorrection, h]
  · cases r <;> simp [ownCorrection, h, eq_comm (a := Δ)]

theorem admitsGuide_iff (s : State) (q : Nat) :
    admitsGuide s q = true ↔ (∃ rec, s.store.current = some rec ∧ rec.seq = q) ∧
      (∃ ph, s.round.plan = some (.observing ph)) ∧ motionCode s.traj.motion ∈ [1, 2] ∧ s.items.guideEnable = 1 := by
  simp only [admitsGuide, Bool.and_eq_true, slotHolds_iff, isObserving_iff, tracks_iff, decide_eq_true_eq, and_assoc]

theorem judgeGuide_fits {p : List Byte} {g : GuideFields} {Δ : Int} {s : State} (hg : readGuide p = some g)
    (ho : ownCorrection s g = some Δ) (h : admitsGuide s g.seq = true) : judgeGuide p s = take (takeGuide Δ s) := by
  simp only [judgeGuide, hg, ho, h, if_true]

theorem judgeGuide_other {p : List Byte} {g : GuideFields} {s : State} (hg : readGuide p = some g)
    (h : ¬admitsGuide s g.seq = true ∨ ownCorrection s g = none) : judgeGuide p s = leave s := by
  rcases ho : ownCorrection s g with _ | Δ
  · simp only [judgeGuide, hg, ho]
  · simp only [judgeGuide, hg, ho, if_neg (h.resolve_right (by simp [ho]))]

/-- A correction taken changes the pending guide, and the port by the event of its clip (R126). -/
theorem takeGuide_eq (Δ : Int) (s : State) :
    takeGuide Δ s =
      { s with
        port := (reportClip Δ s).port
        traj := { s.traj with pendingGuide := accumulate s.items s.traj.pendingGuide Δ } } := by
  refine State.eq_of_fields ?_ rfl ?_ ?_ ?_ ?_ ?_ ?_ ?_ ?_ ?_ <;> simp only [takeGuide, reportClip] <;> split <;> simp

theorem reportClip_within {Δ : Int} {s : State} (h : clampAbs s.items.guideMaxStep Δ = Δ) : reportClip Δ s = s :=
  if_pos h

theorem currentSeq_of_some {s : State} {rec : Record} (h : s.store.current = some rec) : s.currentSeq = rec.seq := by
  simp only [State.currentSeq, h, Record.seq]

/-- A value within 32 bits is not saturated (R43). -/
theorem valueS_of_range {v : Int} (h1 : -2 ^ 31 ≤ v) (h2 : v < 2 ^ 31) : valueS v = BitVec.ofInt 32 v := by
  rw [valueS, sat32, show max (-2147483648) (min v 2147483647) = v by omega]

/-- With room, a correction that its clamp changes is told as it came (R126). -/
theorem reportClip_queued {Δ : Int} {s : State} (h : clampAbs s.items.guideMaxStep Δ ≠ Δ) (h1 : -2 ^ 31 ≤ Δ)
    (h2 : Δ < 2 ^ 31) (hE : Enabled s .guideClipped) (hroom : Room s 1) :
    Queued (reportClip Δ s) (eventFrame s .guideClipped s.currentSeq (BitVec.ofInt 32 Δ)) (s.now + 1000000) := by
  rw [reportClip, if_neg h, valueS_of_range h1 h2]
  exact report_queued _ _ _ s hE hroom

/-! ### OFFSET (R41, R124) -/

theorem judgeOffset_eq (v : Int) (s : State) :
    judgeOffset v s =
      if s.conf.life = .run ∧ planCode s.round.plan = 3 then take (commandOffset v s) else refused .state 5 s := by
  simp only [judgeOffset, State.inRun, Bool.and_eq_true, decide_eq_true_eq, planCode_observing]

section
variable {a : List Byte} {s : State} {r : Role} (hr : roleOfCode (fieldU a 0 1) = some r)
include hr

theorem addressOffset_elsewhere (h : s.ownRole ≠ some r) : addressOffset a s = leave s := by
  simp only [addressOffset, hr, if_neg h]

/-- An OFFSET of the own role (R124, R144). -/
theorem addressOffset_own (h : s.ownRole = some r) :
    addressOffset a s =
      if s.hold.causes.estop = true ∨ s.conf.life ≠ .run ∨ planCode s.round.plan ≠ 3 then refused .state 5 s
      else take (commandOffset (fieldS a 1 4) s) := by
  simp only [addressOffset, hr, if_pos h]
  split
  case isTrue hn =>
    by_cases he : s.hold.causes.estop = true
    · exact gateEstop_on he
    · rw [gateEstop_off (by simpa using he), judgeOffset_eq, if_neg fun hs => ?_]
      exact hn.elim he fun hn => hn.elim (absurd hs.1) (absurd hs.2)
  case isFalse hn =>
    push Not at hn
    obtain ⟨he, hs⟩ := hn
    rw [gateEstop_off (by simpa using he), judgeOffset_eq, if_pos hs]

end

theorem addressOffset_noRole {a : List Byte} {s : State} (h : roleOfCode (fieldU a 0 1) = none) :
    addressOffset a s = refused .range 5 s := by
  simp only [addressOffset, h]

end Sys2Proof.Machine

namespace Sys2Proof.Proofs
open Sys2Proof.Machine

/-- Settles O48: a GUIDE by the own correction and its conditions, an OFFSET by its role and the states. -/
theorem guideAndOffsetAreTaken : Obligations.GuideAndOffsetAreTaken := by
  constructor
  · intro o g s hs hd hp c fits own
    refine ⟨_, rfl, fun h => hear_ignored hp rfl ?_, fun hfits Δ hown => ?_⟩
    · refine judgeGuide_other (readGuide_guidePayload hs hd) (h.imp (mt (admitsGuide_iff s g.seq).mp) fun hno => ?_)
      exact Option.eq_none_iff_forall_ne_some.mpr fun Δ ho => hno Δ ((ownCorrection_iff s g Δ).mp ho)
    intro Δ' pending
    have hj := judgeGuide_fits (readGuide_guidePayload hs hd) ((ownCorrection_iff s g Δ).mpr hown)
      ((admitsGuide_iff s g.seq).mpr hfits)
    rw [show hear .guide o (guidePayload g) (judgeGuide (guidePayload g)) s = _ from hear_taken hp rfl hj, takeGuide_eq]
    refine ⟨rfl, rfl, fun h => congrArg (·.port.queue) (reportClip_within h), fun h hE hroom => ?_⟩
    obtain ⟨⟨rec, hrec, hseq⟩, -⟩ := hfits
    have hrange : -2 ^ 31 ≤ Δ ∧ Δ < 2 ^ 31 := by
      rcases hown with ⟨-, -, rfl⟩ | ⟨-, -, rfl⟩ | ⟨-, -, rfl⟩ <;> exact hd _ (by simp)
    have q := reportClip_queued h hrange.1 hrange.2 hE hroom
    rw [currentSeq_of_some hrec, hseq] at q
    exact q.of_port rfl
  · intro o b v s h1 h2 hp c
    refine ⟨_, rfl, ?_⟩
    have hrole : fieldU (b :: bytesOfInt 4 v) 0 1 = b.toNat := by simp
    have hvalue : fieldS (b :: bytesOfInt 4 v) 1 4 = v := by simp (disch := omega)
    have hl : (b :: bytesOfInt 4 v).length + 1 = 6 := by simp
    split
    case isTrue h => exact hearCommand_refused hp rfl hl (addressOffset_noRole (hrole ▸ roleOfCode_none h))
    case isFalse h =>
    obtain ⟨r, hr, hcode⟩ := roleOfCode_some (n := b.toNat) (by omega) (by omega)
    rw [← hrole] at hr
    have hown : s.ownRole.map roleCode = some b.toNat ↔ s.ownRole = some r := by
      rw [← hcode, Option.map_eq_some_iff]
      exact ⟨fun ⟨q, hq, he⟩ => roleCode_inj he ▸ hq, fun h => ⟨r, h, rfl⟩⟩
    split
    case isTrue h => exact hearCommand_ignored hp rfl hl (addressOffset_elsewhere hr (mt hown.mpr h))
    case isFalse h =>
    have hj := addressOffset_own hr (hown.mp (not_not.mp h))
    rw [hvalue] at hj
    split
    case isTrue h => exact hearCommand_refused hp rfl hl (hj.trans (if_pos h))
    case isFalse h => exact hearCommand_taken hp rfl hl (hj.trans (if_neg h))

end Sys2Proof.Proofs
end

section
/-! PLAN_HEAD: the checks of a header, in their order (R36, R40, R50); hence O51. -/

namespace Sys2Proof.Machine

/-! ### The readings of the checks (R50) -/

theorem kindOfCode_none {n : Nat} (h : 1 < n) : kindOfCode n = none := by
  match n, h with
  | n + 2, _ => rfl

theorem kindOfCode_some {n : Nat} (h : n ≤ 1) :
    ∃ k, kindOfCode n = some k ∧ (k = .planned ↔ n = 0) ∧ (k = .excursion ↔ n = 1) := by
  match n, h with
  | 0, _ => exact ⟨.planned, rfl, by simp, by simp⟩
  | 1, _ => exact ⟨.excursion, rfl, by simp, by simp⟩

/-- The round in progress has selected the loaded excursion (R50 step 4). -/
theorem excursionSelected_iff (s : State) :
    excursionSelected s = true ↔
      s.store.excursion ≠ none ∧ (roundOf s).bind RoundRecord.selected = s.store.excursion.map Record.seq := by
  have hsel : selectedSeq s = (roundOf s).bind RoundRecord.selected := by
    simp only [selectedSeq, roundOf]
    split <;> rfl
  rw [excursionSelected, ← hsel]
  rcases selectedSeq s with _ | q <;> rcases s.store.excursion with _ | e <;> simp [PlanStore.slotHolds, eq_comm]

theorem slotHolds_iff_mem (slot : Option Record) (q : Nat) :
    PlanStore.slotHolds slot q = true ↔ q ∈ (slot.map Record.seq).toList := by
  cases slot <;> simp [PlanStore.slotHolds, eq_comm]

/-- A seq is held in the queue or a slot (R50 step 6). -/
theorem PlanStore.holds_iff (p : PlanStore) (q : Nat) : p.holds q = true ↔ q ∈ p.heldSeqs := by
  simp only [PlanStore.holds, PlanStore.heldSeqs, Bool.or_eq_true, slotHolds_iff_mem, List.any_eq_true,
    decide_eq_true_eq, List.mem_append, List.mem_map]

/-- The checks of R50 on the header that a decoded PLAN_HEAD stands for. -/
theorem headerFails_headerOf (s : State) {h : HeadFields} {k : RecordKind} (h0 : k = .planned ↔ h.kind = 0)
    (h1 : k = .excursion ↔ h.kind = 1) :
    headerFails s (headerOf h k) =
      if h.kind = 1 ∧ s.store.excursion ≠ none ∧
          (roundOf s).bind RoundRecord.selected = s.store.excursion.map Record.seq then some .state
      else if h.kind = 0 ∧ h.seq ≤ s.store.lastAppended then some .order
      else if h.seq ∈ s.store.heldSeqs then some .duplicate
      else if h.seq = 0 ∨ h.dwell < 1000000 ∨ 3600000000 < h.dwell ∨ h.windowClose < h.windowOpen ∨
          allRoles.any (fun r => decide (s.items.addr.get r ≠ 15) && decide (h.counts.get r = 0)) = true then
        some .range
      else if h.kind = 0 ∧ 32 ≤ s.store.queue.length then some .full
      else if s.store.free + (if h.kind = 1 then PlanStore.slotSize s.store.excursion else 0) < ownCount s h.counts then
        some .full
      else none := by
  have hfree : freeFor s k = s.store.free + (if h.kind = 1 then PlanStore.slotSize s.store.excursion else 0) :=
    congrArg _ (if_congr h1 rfl rfl)
  rw [← hfree]
  exact if_congr (and_congr h1 (excursionSelected_iff s)) rfl <| if_congr (and_congr_left' h0) rfl <|
    if_congr (PlanStore.holds_iff s.store h.seq) rfl <| if_congr Iff.rfl rfl <| if_congr (and_congr_left' h0) rfl rfl

/-- Where each failing check refuses, the first check of the chain does so, and the rest of it remains. -/
theorem refuses_firstFailing {a : Prop} [Decidable a] {r : Reason} {x rest : Option Reason} {R : Reason → Prop} {P : Prop}
    (h : ∀ q, x = some q → R q) (hx : x = if a then some r else rest) (k : x = rest → P) : if a then R r else P :=
  ite_prop_iff_and.mpr ⟨fun ha => h r (hx.trans (if_pos ha)), fun ha => k (hx.trans (if_neg ha))⟩

/-! ### The refusals (R36, R40, R42, R50) -/

section
variable {p : List Byte} {f : HeadFields} {s : State} (hf : readHead p = some f)
include hf

theorem judgePlanHead_kind (h : 1 < f.kind) : judgePlanHead p s = refuseHead .range f.seq s := by
  simp only [judgePlanHead, hf, kindOfCode_none h]

variable {k : RecordKind} (hk : kindOfCode f.kind = some k)
include hk

theorem judgePlanHead_count (h : countAbove6 f.counts = true) : judgePlanHead p s = refuseHead .range f.seq s := by
  simp only [judgePlanHead, hf, hk, h, if_true]

variable (hc : countAbove6 f.counts = false)
include hc

theorem judgePlanHead_header : judgePlanHead p s = judgeHeader (headerOf f k) s := by
  simp only [judgePlanHead, hf, hk, hc, Bool.false_eq_true, if_false]

theorem judgePlanHead_outsideRun (h : s.conf.life ≠ .run) : judgePlanHead p s = refuseHead .state f.seq s := by
  rw [judgePlanHead_header hf hk hc, judgeHeader, if_pos (by simpa [State.inRun] using h)]
  rfl

variable (hr : s.conf.life = .run)
include hr

theorem judgePlanHead_estop (h : s.hold.causes.estop = true) : judgePlanHead p s = refuseHead .state f.seq s := by
  rw [judgePlanHead_header hf hk hc, judgeHeader, if_neg (by simpa [State.inRun] using hr), if_pos h]
  rfl

/-- With no intake open a header is refused for the reason of the first check that fails (R50). -/
theorem judgePlanHead_fails (he : ¬s.hold.causes.estop = true) (hi : s.store.intake = none) {r : Reason}
    (h : headerFails s (headerOf f k) = some r) : judgePlanHead p s = refuseHead r f.seq s := by
  rw [judgePlanHead_header hf hk hc, judgeHeader, if_neg (by simpa [State.inRun] using hr), if_neg he]
  simp only [hi, h]
  rfl

end

end Sys2Proof.Machine

namespace Sys2Proof.Proofs
open Sys2Proof.Machine

/-- Settles O51: check by check, the refusal of the first that fails. -/
theorem headersAreCheckedInOrder : Obligations.HeadersAreCheckedInOrder := by
  intro o h s hs hkind ho hw hd hcounts hp c p
  refine ⟨_, rfl, ?_⟩
  intro refused
  have hf := readHead_headPayload hs hkind ho hw hd hcounts
  have refuses : ∀ r, judgePlanHead (headPayload h) s = refuseHead r h.seq s → refused r :=
    fun r hj => hear_refused hp rfl hj
  refine ite_prop_iff_and.mpr ⟨fun hn => refuses _ (judgePlanHead_kind hf hn), fun hn => ?_⟩
  obtain ⟨k, hk, h0, h1⟩ := kindOfCode_some (not_lt.mp hn)
  refine ite_prop_iff_and.mpr ⟨fun hc => refuses _ (judgePlanHead_count hf hk hc), fun hc => ?_⟩
  replace hc : countAbove6 h.counts = false := Bool.eq_false_iff.mpr hc
  refine ite_prop_iff_and.mpr ⟨fun hr => refuses _ (judgePlanHead_outsideRun hf hk hc hr), fun hr => ?_⟩
  replace hr := not_not.mp hr
  refine ite_prop_iff_and.mpr ⟨fun he => refuses _ (judgePlanHead_estop hf hk hc hr he), fun he hi => ?_⟩
  have fails : ∀ r, headerFails s (headerOf h k) = some r → refused r :=
    fun r hfail => refuses r (judgePlanHead_fails hf hk hc hr he hi hfail)
  refine refuses_firstFailing fails (headerFails_headerOf s h0 h1) fun hx => refuses_firstFailing fails hx fun hx =>
    refuses_firstFailing fails hx fun hx => refuses_firstFailing fails hx fun hx =>
      refuses_firstFailing fails hx fun hx role hrole hpool => fails _ (hx.trans (if_pos ?_))
  simpa only [ownCount, hrole] using hpool

end Sys2Proof.Proofs
end

section
/-! PLAN_SEG, PLAN_CLEAR and the intake's expiry: the record built, committed, refused, repeated; the plan emptied (R46, R49,
R54 to R59); hence O52 and O53. -/

namespace Sys2Proof.Machine

/-! ### Events that a decision composes -/

/-- An event composed changes the port alone. -/
theorem report_eq (e : EventKind) (q : Nat) (v : BitVec 32) (s : State) :
    report e q v s = { s with port := (report e q v s).port } := by
  refine State.eq_of_fields ?_ rfl ?_ ?_ ?_ ?_ ?_ ?_ ?_ ?_ ?_ <;> simp

theorem report_receiving_eq (e : EventKind) (q : Nat) (v : BitVec 32) (s : State) (r : Option Reception) :
    (report e q v s).receiving r = { s with port := ((report e q v s).receiving r).port } :=
  congrArg (State.receiving · r) (report_eq e q v s)

/-- With room, an enabled event that the decision on a frame composes is queued. -/
theorem report_receiving_queued {e : EventKind} {s : State} (q : Nat) (v : BitVec 32) (r : Option Reception)
    (h : Enabled s e) (room : Room s 1) :
    Queued ((report e q v s).receiving r) (eventFrame s e q v) (s.now + 1000000) :=
  (report_queued e q v s h room).of_port rfl

/-! ### Order, contiguity and coverage (R46, R56) -/

theorem ordered_iff (a : Segment) (l : List Segment) :
    ordered a l = true ↔ (a :: l).IsChain fun x y => x.tStart < y.tStart ∧ y.tStart = x.tStart + x.span := by
  induction l generalizing a with
  | nil => simp [ordered]
  | cons b l ih =>
    simp only [ordered, Bool.and_eq_true, decide_eq_true_eq, ih, List.isChain_cons_cons]
    rfl

theorem Track.head?_segments (t : Track) : t.segments.head? = some t.first := rfl

theorem Track.getLast?_segments (t : Track) : t.segments.getLast? = some t.last := by
  rw [Track.segments, List.getLast?_cons, Track.last]

theorem Track.length_segments (t : Track) : t.segments.length = t.size := rfl

theorem Track.segments_snoc (l : List Segment) (x : Segment) : (Track.snoc l x).segments = l ++ [x] := by
  cases l <;> rfl

theorem validRecord_iff (h : Header) (t : Track) : validRecord h t = true ↔ SegmentsFit h t.segments := by
  simp only [validRecord, covers, Bool.and_eq_true, decide_eq_true_eq, ordered_iff, SegmentsFit,
    Track.head?_segments, Track.getLast?_segments, Option.some.injEq, forall_eq']
  rfl

/-! ### A segment while an intake is open (R54 to R56) -/

theorem expectedSegment_iff (i : Intake) (g : SegFields) :
    expectedSegment i g = true ↔ g.seq = i.header.seq ∧ g.index = i.nextExpected ∧ 1 ≤ g.segment.span ∧
      g.segment.span ≤ 1073741824 := by
  simp only [expectedSegment, Bool.and_eq_true, decide_eq_true_eq, and_assoc]
  rfl

theorem repeatsLast_iff (i : Intake) (g : SegFields) :
    repeatsLast i g = true ↔ g.seq = i.header.seq ∧ i.lastTaken = some g.index ∧
      i.segments.getLast? = some g.segment := by
  simp only [repeatsLast, Bool.and_eq_true, decide_eq_true_eq, and_assoc]

section
variable {p : List Byte} {g : SegFields} {s : State} (hg : readSeg p = some g)
include hg

/-- While ESTOP persists a segment is ignored (R144). -/
theorem judgePlanSeg_estop (h : s.hold.causes.estop = true) : judgePlanSeg p s = leave s := by
  simp only [judgePlanSeg, hg, h, if_true]

variable (he : s.hold.causes.estop = false)
include he

theorem judgePlanSeg_closed (hi : s.store.intake = none) :
    judgePlanSeg p s = if repeatsCommitted s.store g then take s else leave s := by
  simp only [judgePlanSeg, hg, he, hi, Bool.false_eq_true, if_false]

variable {i : Intake} (hi : s.store.intake = some i)
include hi

theorem judgePlanSeg_open : judgePlanSeg p s = judgeOpenSegment i g s := by
  simp only [judgePlanSeg, hg, he, hi, Bool.false_eq_true, if_false]

theorem judgePlanSeg_stored (h : expectedSegment i g = true) (hn : i.nextExpected + 1 < i.reserved) :
    judgePlanSeg p s = take (storeSegment i g s) := by
  rw [judgePlanSeg_open hg he hi, judgeOpenSegment, if_pos h, if_pos hn]

theorem judgePlanSeg_last (h : expectedSegment i g = true) (hn : i.reserved ≤ i.nextExpected + 1) :
    judgePlanSeg p s = finishIntake i g s := by
  rw [judgePlanSeg_open hg he hi, judgeOpenSegment, if_pos h, if_neg (not_lt.mpr hn)]

theorem judgePlanSeg_unexpected (h : ¬expectedSegment i g = true) :
    judgePlanSeg p s = if repeatsLast i g then take s else leave s := by
  rw [judgePlanSeg_open hg he hi, judgeOpenSegment, if_neg h]

end

/-- The record that the last segment completes (R45, R56). -/
def builtRecord (i : Intake) (g : SegFields) : Record :=
  { header := i.header, track := Track.snoc i.segments g.segment, dwellDone := false, wrapK := none }

/-- A record that fits is committed, with its event (R56). -/
theorem finishIntake_fits {i : Intake} {g : SegFields} {s : State}
    (h : SegmentsFit i.header (i.segments ++ [g.segment])) :
    finishIntake i g s =
      take (report .planTaken i.header.seq (valueU s.store.free)
        (s.withStore
          { s.store with
            queue := if i.header.kind = .planned then s.store.queue ++ [builtRecord i g] else s.store.queue
            lastAppended := if i.header.kind = .planned then i.header.seq else s.store.lastAppended
            excursion := if i.header.kind = .excursion then some (builtRecord i g) else s.store.excursion
            lastCommitted := i.header.seq, intake := none })) := by
  have hv : validRecord i.header (Track.snoc i.segments g.segment) = true := by
    rwa [validRecord_iff, Track.segments_snoc]
  simp only [finishIntake, hv, if_true, commitRecord]
  cases i.header.kind <;> rfl

/-- A record that does not fit is refused COVERAGE, and the intake discarded (R49, R56). -/
theorem finishIntake_unfit {i : Intake} {g : SegFields} {s : State}
    (h : ¬SegmentsFit i.header (i.segments ++ [g.segment])) :
    finishIntake i g s =
      leave (refuse .coverage .planSeg g.index .planRefused i.header.seq (s.withStore (discardIntake s.store))) := by
  rw [← Track.segments_snoc, ← validRecord_iff] at h
  rw [finishIntake, if_neg h]

theorem discardIntake_of_some {p : PlanStore} {i : Intake} (h : p.intake = some i) :
    discardIntake p = { p with intake := none, free := p.free + i.reserved } := by
  simp only [discardIntake, h]

/-! ### The record last committed (R57) -/

/-- A seq names one record of the queue and the excursion slot. -/
theorem PlanStore.Ordered.seq_unique {p : PlanStore} (h : p.Ordered) {a b : Record}
    (ha : a ∈ p.queue ∨ p.excursion = some a) (hb : b ∈ p.queue ∨ p.excursion = some b) (hs : a.seq = b.seq) :
    a = b := by
  have places : ∀ {r : Record}, r ∈ p.queue ∨ p.excursion = some r → r ∈ p.queue ++ p.excursion.toList := by
    intro r hr
    simpa using hr
  have hsub : ((p.queue ++ p.excursion.toList).map Record.seq).Sublist p.heldSeqs := by
    rw [PlanStore.heldSeqs, List.map_append, ← Option.toList_map, List.append_assoc, List.append_assoc]
    exact (List.Sublist.refl _).append
      ((List.sublist_append_right _ _).trans (List.sublist_append_right _ _))
  exact List.inj_on_of_nodup_map (h.once.sublist hsub) (places ha) (places hb) hs

theorem committedRecord_iff {p : PlanStore} (h : p.Ordered) (r : Record) :
    committedRecord p = some r ↔ (r ∈ p.queue ∨ p.excursion = some r) ∧ r.seq = p.lastCommitted := by
  rw [committedRecord]
  by_cases hx : PlanStore.slotHolds p.excursion p.lastCommitted = true
  · obtain ⟨e, he, hs⟩ := (slotHolds_iff _ _).mp hx
    rw [if_pos hx, he]
    refine ⟨fun hr => ⟨.inr hr, Option.some.inj hr ▸ hs⟩, fun ⟨hr, hq⟩ => ?_⟩
    rw [h.seq_unique (.inr he) (he ▸ hr) (hs.trans hq.symm)]
  · rw [if_neg hx]
    refine ⟨fun hr => ⟨.inl (List.mem_of_find?_eq_some hr), by simpa using List.find?_some hr⟩, fun ⟨hr, hq⟩ => ?_⟩
    have hm : r ∈ p.queue := hr.resolve_right fun he => hx ((slotHolds_iff _ _).mpr ⟨r, he, hq⟩)
    cases hf : p.queue.find? fun r => decide (r.seq = p.lastCommitted) with
    | none => exact absurd hq (by simpa using List.find?_eq_none.mp hf r hm)
    | some x =>
      have hxq : x.seq = p.lastCommitted := by simpa using List.find?_some hf
      rw [h.seq_unique (.inl (List.mem_of_find?_eq_some hf)) (.inl hm) (hxq.trans hq.symm)]

/-- A segment repeats the last one of the record last committed (R57). -/
theorem repeatsCommitted_iff {p : PlanStore} (h : p.Ordered) (g : SegFields) :
    repeatsCommitted p g = true ↔ g.seq = p.lastCommitted ∧ ∃ rec : Record,
      (rec ∈ p.queue ∨ p.excursion = some rec) ∧ rec.seq = g.seq ∧
        rec.track.segments.length = g.index + 1 ∧ rec.track.segments.getLast? = some g.segment := by
  have hread : repeatsCommitted p g = true ↔ ∃ r, committedRecord p = some r ∧
      g.seq = p.lastCommitted ∧ g.index + 1 = r.track.size ∧ r.track.last = g.segment := by
    rw [repeatsCommitted]
    cases committedRecord p <;> simp [and_assoc]
  simp only [hread, committedRecord_iff h, Track.getLast?_segments, Track.length_segments, Option.some.injEq]
  constructor
  · rintro ⟨r, ⟨hr, hq⟩, hs, hn, hl⟩
    exact ⟨hs, r, hr, hq.trans hs.symm, hn.symm, hl⟩
  · rintro ⟨hs, r, hr, hq, hn, hl⟩
    exact ⟨r, ⟨hr, hq.trans hs⟩, hs, hn.symm, hl⟩

/-! ### PLAN_CLEAR (R59) -/

theorem admitsClear_iff (p : Option PlanState) : admitsClear p = true ↔ planCode p ∈ [0, 3, 4, 5] := by
  rcases p with _ | p
  · simp [admitsClear, planCode]
  · cases p <;> simp [admitsClear, planCode]

theorem judgePlanClear_eq (s : State) :
    judgePlanClear s =
      if s.conf.life = .run ∧ planCode s.round.plan ∈ [0, 3, 4, 5] then
        take (report .planCleared 0 (valueU (clearedCount s.store)) (s.withStore (clearPlan s.store)))
      else refused .state 6 s := by
  simp only [judgePlanClear, State.inRun, Bool.and_eq_true, decide_eq_true_eq, admitsClear_iff]

theorem clearedCount_eq (p : PlanStore) : clearedCount p = p.queue.length + p.excursion.toList.length := by
  rcases h : p.excursion with _ | e <;> simp [clearedCount, h]

/-- What PLAN_CLEAR leaves of the plan store (R59). -/
theorem clearPlan_eq (p : PlanStore) :
    clearPlan p =
      { queue := [], current := p.current, ret := p.ret, excursion := none, free := (clearPlan p).free, intake := none
        lastAppended := 0, lastCommitted := 0 } := by
  rcases h : p.intake with _ | i <;> simp [clearPlan, discardIntake, h]

/-- The entries of the records and of the intake return to free (R49, R59). -/
theorem clearPlan_conserves (p : PlanStore) : (clearPlan p).owned + (clearPlan p).free = p.owned + p.free := by
  rcases h : p.intake with _ | i <;>
    simp [clearPlan, discardIntake, h, PlanStore.owned, PlanStore.queueSize, PlanStore.slotSize] <;> omega

/-! ### The intake's expiry (R58) -/

theorem execIntakeTimeout_due {s : State} {i : Intake} (hi : s.store.intake = some i)
    (h : i.start + s.items.intakeTimeout ≤ s.now) :
    exec .intakeTimeout s =
      .next (report .intakeTimeout i.header.seq (valueU i.nextExpected)
        (s.withStore { s.store with intake := none, free := s.store.free + i.reserved })) := by
  have hd : intakeDue s = true := by simpa [intakeDue, hi] using h
  simp only [exec, execIntakeTimeout, hd, if_true, expireIntake, hi, discardIntake_of_some hi]

end Sys2Proof.Machine

namespace Sys2Proof.Proofs
open Sys2Proof.Machine

/-- Settles O52: by ESTOP, the intake, and what the segment is to it or to the record last committed. -/
theorem segmentsBuildTheRecord : Obligations.SegmentsBuildTheRecord := by
  intro o g s hs hi ht hspan hc hp c p
  have hg := readSeg_segPayload hs hi ht hspan hc
  refine ⟨_, rfl, fun he => hear_ignored hp rfl (judgePlanSeg_estop hg he), fun he i hopen => ?_,
    fun he hclosed hord => ?_⟩
  · intro expected repeated
    have hexp := expectedSegment_iff i g
    refine ⟨fun h hn => hear_taken hp rfl (judgePlanSeg_stored hg he hopen (hexp.mpr h) hn), fun h hn hfit => ?_,
      fun h hn hfit => ?_, fun hno hr => hear_taken hp rfl ?_, fun hno hr => hear_ignored hp rfl ?_⟩
    · have hj := (judgePlanSeg_last hg he hopen (hexp.mpr h) hn).trans (finishIntake_fits hfit)
      rw [← h.1] at hj
      rw [show hear .planSeg o (segPayload g) (judgePlanSeg (segPayload g)) s = _ from hear_taken hp rfl hj]
      exact ⟨builtRecord i g, rfl, Track.segments_snoc .., rfl, rfl, report_receiving_eq .., rfl,
        fun hE hroom => report_receiving_queued (s := s.withStore _) _ _ _ hE hroom⟩
    · have hj := (judgePlanSeg_last hg he hopen (hexp.mpr h) hn).trans (finishIntake_unfit hfit)
      rw [discardIntake_of_some hopen, ← h.1] at hj
      have ht : hear .planSeg o (segPayload g) (judgePlanSeg (segPayload g)) s = _ := hear_left hp rfl hj
      have hR := refuse_refuses c (s.withStore { s.store with intake := none, free := s.store.free + i.reserved })
        .coverage .planSeg g.index .planRefused g.seq
      rw [ht]
      refine ⟨hR.rest.trans ?_, rfl, fun hE hroom => hR.told hE hroom⟩
      rw [hR.recorded]
      rfl
    · rw [judgePlanSeg_unexpected hg he hopen (mt hexp.mp hno), if_pos ((repeatsLast_iff i g).mpr hr)]
    · rw [judgePlanSeg_unexpected hg he hopen (mt hexp.mp hno), if_neg (mt (repeatsLast_iff i g).mp hr)]
  · intro repeated
    have hj := judgePlanSeg_closed hg he hclosed
    refine ⟨fun hr => hear_taken hp rfl ?_, fun hr => hear_ignored hp rfl ?_⟩
    · rw [hj, if_pos ((repeatsCommitted_iff hord g).mpr hr)]
    · rw [hj, if_neg (mt (repeatsCommitted_iff hord g).mp hr)]

/-- Settles O53: PLAN_CLEAR by the states that admit it, the expiry by the intake that is due. -/
theorem plansAreClearedAndIntakesExpire : Obligations.PlansAreClearedAndIntakesExpire := by
  constructor
  · intro o s hp c p
    refine ⟨_, rfl, ite_prop_iff_and.mpr ⟨fun h => hearCommand_refused hp rfl rfl ?_, fun h => ?_⟩⟩
    · by_cases he : s.hold.causes.estop = true
      · exact gateEstop_on he
      · rw [gateEstop_off (by simpa using he), judgePlanClear_eq, if_neg fun hs => ?_]
        exact h.elim he fun h => h.elim (absurd hs.1) (absurd hs.2)
    · push Not at h
      obtain ⟨he, hs⟩ := h
      have hj : gateEstop 6 judgePlanClear s = _ :=
        (gateEstop_off (by simpa using he)).trans ((judgePlanClear_eq s).trans (if_pos hs))
      rw [show hearCommand 6 1 o [] (gateEstop 6 judgePlanClear) s = _ from hearCommand_taken hp rfl rfl hj]
      have hstore : ((report .planCleared 0 (valueU (clearedCount s.store)) (s.withStore (clearPlan s.store))).receiving
          (heardAs c true s)).store = clearPlan s.store := by simp
      refine ⟨rfl, ?_, by rw [hstore]; exact clearPlan_conserves s.store, fun hE hroom => ?_⟩
      · rw [hstore]
        exact (report_receiving_eq ..).trans
          (congrArg (fun x => State.withStore { s with port := _ } x) (clearPlan_eq s.store))
      · rw [← clearedCount_eq]
        exact report_receiving_queued (s := s.withStore _) _ _ _ hE hroom
  · intro s i hi hdue
    refine ⟨_, execIntakeTimeout_due hi hdue, report_eq .., fun hE hroom => ?_⟩
    exact report_queued .intakeTimeout i.header.seq _ (s.withStore _) hE hroom

end Sys2Proof.Proofs
end

section
/-! GO, BREAK and RETURN: the states that admit them, and the trigger they become (R97, R143, R146, R150); hence O54. -/

namespace Sys2Proof.Machine

/-! ### The states that admit a trigger (R97, R143, R146, R150) -/

theorem atRest_iff (m : Motion) : atRest m = true ↔ motionCode m ∈ [4, 5] := by
  cases m <;> simp [atRest, motionCode]

/-- A held mount is free to be released (R143). -/
theorem releasable_iff (s : State) :
    releasable s = true ↔ s.hold.causes.any = false ∧ motionCode s.traj.motion ∈ [4, 5] := by
  rw [releasable, Bool.and_eq_true, Bool.not_eq_true', atRest_iff]

theorem admitsGo_iff (s : State) :
    admitsGo s = true ↔ planCode s.round.plan ∈ [0, 4] ∨ (s.round.plan = some .held ∧ releasable s = true) := by
  rcases h : s.round.plan with _ | p
  · simp [admitsGo, planCode, h]
  · cases p <;> simp [admitsGo, planCode, h]

theorem admitsBreak_iff (s : State) :
    admitsBreak s = true ↔ s.store.excursion ≠ none ∧
      (planCode s.round.plan ∈ [3, 4] ∨ (s.round.plan = some .held ∧ releasable s = true)) := by
  rcases h : s.round.plan with _ | p
  · simp [admitsBreak, planCode, h]
  · cases p <;> simp [admitsBreak, planCode, h]

theorem admitsReturn_iff (s : State) :
    admitsReturn s = true ↔
      planCode s.round.plan = 3 ∧ ∃ r, s.store.current = some r ∧ r.header.kind = .excursion := by
  rw [planCode_observing, isObserving_iff, admitsReturn, Bool.and_eq_true]
  refine and_congr ?_ ?_
  · rcases s.round.plan with _ | p
    · simp
    · cases p <;> simp
  · cases s.store.current <;> simp

/-! ### The commands (R41, R97) -/

/-- The states that admit a trigger of a kind, in the words of R97, R143, R146 and R150. -/
def AdmitsTrigger (s : State) (k : TriggerKind) : Prop :=
  s.conf.life = .run ∧ s.hold.causes.estop = false ∧
    match k with
    | .go => planCode s.round.plan ∈ [0, 4] ∨
        (s.round.plan = some .held ∧ s.hold.causes.any = false ∧ motionCode s.traj.motion ∈ [4, 5])
    | .breakIn => s.store.excursion ≠ none ∧ (planCode s.round.plan ∈ [3, 4] ∨
        (s.round.plan = some .held ∧ s.hold.causes.any = false ∧ motionCode s.traj.motion ∈ [4, 5]))
    | .returnTo => planCode s.round.plan = 3 ∧ ∃ r, s.store.current = some r ∧ r.header.kind = .excursion

/-- The command code of a trigger (3.6). -/
def triggerCode : TriggerKind → Nat
  | .go => 2
  | .breakIn => 3
  | .returnTo => 4

/-- The owner's decision on a trigger with its rounded epoch. -/
def judgeTrigger : TriggerKind → Nat → State → Judged
  | .go => judgeGo
  | .breakIn => judgeBreak
  | .returnTo => judgeReturn

/-- The plan states and the store that admit it. -/
def admitsTrigger (s : State) : TriggerKind → Bool
  | .go => admitsGo s
  | .breakIn => admitsBreak s
  | .returnTo => admitsReturn s

theorem judgeTrigger_eq (k : TriggerKind) (e : Nat) (s : State) :
    judgeTrigger k e s =
      if s.inRun && admitsTrigger s k then take (setTrigger k e s) else refused .state (triggerCode k) s := by
  cases k <;> rfl

theorem admitsTrigger_iff {s : State} (he : s.hold.causes.estop = false) (k : TriggerKind) :
    (s.inRun && admitsTrigger s k) = true ↔ AdmitsTrigger s k := by
  cases k <;>
    simp only [Bool.and_eq_true, AdmitsTrigger, State.inRun, decide_eq_true_eq, ← releasable_iff, he, true_and]
  case go => exact and_congr_right' (admitsGo_iff s)
  case breakIn => exact and_congr_right' (admitsBreak_iff s)
  case returnTo => exact and_congr_right' (admitsReturn_iff s)

/-- The decision on the bytes of a trigger, by its epoch and the states (R41, R97). -/
def judgeTriggerBytes (k : TriggerKind) (epoch : Nat) : State → Judged :=
  withEpoch (triggerCode k) (bytesOfNat 6 epoch) (judgeTrigger k)

theorem natOfBytes_epoch {e : Nat} (h : e < 2 ^ 48) : natOfBytes (bytesOfNat 6 e) = e := by
  rw [natOfBytes_bytesOfNat, Nat.mod_eq_of_lt (by simpa using h)]

section
variable {k : TriggerKind} {epoch : Nat} {s : State} (hb : epoch < 2 ^ 48)
include hb

theorem judgeTriggerBytes_late (h : epoch ≤ s.now) :
    judgeTriggerBytes k epoch s = refused .late (triggerCode k) s := by
  rw [judgeTriggerBytes, withEpoch, natOfBytes_epoch hb, if_pos h]
  rfl

theorem judgeTriggerBytes_ahead (h : s.now < epoch) :
    judgeTriggerBytes k epoch s =
      gateEstop (triggerCode k) (judgeTrigger k (ceilTo s.items.tickPeriod epoch)) s := by
  rw [judgeTriggerBytes, withEpoch, natOfBytes_epoch hb, if_neg (not_le.mpr h)]

theorem judgeTriggerBytes_admits (h : s.now < epoch) (ha : AdmitsTrigger s k) :
    judgeTriggerBytes k epoch s = take (setTrigger k (ceilTo s.items.tickPeriod epoch) s) := by
  obtain ⟨-, he, -⟩ := id ha
  rw [judgeTriggerBytes_ahead hb h, gateEstop_off he, judgeTrigger_eq, if_pos ((admitsTrigger_iff he k).mpr ha)]

theorem judgeTriggerBytes_refuses (h : s.now < epoch) (ha : ¬AdmitsTrigger s k) :
    judgeTriggerBytes k epoch s = refused .state (triggerCode k) s := by
  rw [judgeTriggerBytes_ahead hb h]
  cases he : s.hold.causes.estop
  · rw [gateEstop_off he, judgeTrigger_eq, if_neg (mt (admitsTrigger_iff he k).mp ha)]
  · exact gateEstop_on he

end

end Sys2Proof.Machine

namespace Sys2Proof.Proofs
open Sys2Proof.Machine

/-- Settles O54: the three commands decide alike, by the epoch and the states that admit their kind. -/
theorem triggerCommandsAreTaken : Obligations.TriggerCommandsAreTaken := by
  intro o epoch s c code k hb hc hp ht free admits
  have hrow : c.frame? = some ⟨.command, o.sender, o.dest, BitVec.ofNat 8 code :: bytesOfNat 6 epoch⟩ ∧
      code = triggerCode k ∧ exec c s = .next (hearCommand code 7 o (bytesOfNat 6 epoch) (judgeTriggerBytes k epoch) s) ∧
      (admits ↔ AdmitsTrigger s k) := by
    simp only [List.mem_cons, Prod.mk.injEq, List.not_mem_nil, or_false] at hc
    rcases hc with ⟨rfl, rfl, rfl⟩ | ⟨rfl, rfl, rfl⟩ | ⟨rfl, rfl, rfl⟩ <;> exact ⟨rfl, rfl, rfl, Iff.rfl⟩
  obtain ⟨hf, rfl, hexec, hadmits⟩ := hrow
  have hl : (bytesOfNat 6 epoch).length + 1 = 7 := by simp
  refine ⟨_, hexec, fun h => hearCommand_refused hp hf hl (judgeTriggerBytes_late hb h),
    fun h hn => hearCommand_refused hp hf hl (judgeTriggerBytes_refuses hb h (mt hadmits.mpr hn)), fun h ha => ?_⟩
  obtain ⟨hd, hle, hlt⟩ := ceilTo_spec ht epoch
  exact ⟨_, hd, hle, hlt, hearCommand_taken hp hf hl (judgeTriggerBytes_admits hb h (hadmits.mp ha))⟩

end Sys2Proof.Proofs
end

section
/-! STATUS_REQ, TRACE_SET and TRACE_READ: the pages field by field, the trace set and read (R41, R44, R170, R171, R179);
hence O55. -/

namespace Sys2Proof.Machine

/-! ### The codes fit their fields (R44) -/

theorem lifeCode_le (l : LifeState) : lifeCode l ≤ 2 := by cases l <;> decide
theorem planCode_le (p : Option PlanState) : planCode p ≤ 15 := by
  rcases p with _ | p
  · decide
  · cases p <;> simp [planCode]
theorem motionCode_le (m : Motion) : motionCode m ≤ 6 := by cases m <;> simp [motionCode]
theorem phaseCode_le (p : Option PlanState) : phaseCode p ≤ 15 := by
  simp only [phaseCode]
  split <;> decide
theorem timeStateCode_le (x : TimeState) : timeStateCode x ≤ 3 := by cases x <;> decide
theorem linkCode_le (l : LinkState) : linkCode l ≤ 1 := by cases l <;> decide

theorem causeBits_le (c : CauseSet) : causeBits c ≤ 31 := by
  have := Bool.toNat_le c.following
  have := Bool.toNat_le c.encoder
  have := Bool.toNat_le c.drive
  have := Bool.toNat_le c.estop
  have := Bool.toNat_le c.time
  simp only [causeBits]
  omega

theorem holdCauseByte_eq (h : HoldLogic) : holdCauseByte h = causeBits h.causes + (if h.peerHold then 32 else 0) := by
  cases hp : h.peerHold <;> simp [holdCauseByte, hp]

theorem holdCauseByte_le (h : HoldLogic) : holdCauseByte h ≤ 63 := by
  have := causeBits_le h.causes
  rw [holdCauseByte_eq]
  split <;> omega

theorem slotSeq_eq (r : Option Record) : slotSeq r = r.elim 0 Record.seq := by cases r <;> rfl

theorem clampAbs_range (b : Nat) (x : Int) : -(b : Int) ≤ clampAbs b x ∧ clampAbs b x ≤ b := by
  simp only [clampAbs, clampInt]
  omega

/-! ### The pages read back (R44) -/

/-- The fields of page 0, the setpoint as the one read for it (log 6). -/
theorem statusPage0_fields (s : State) :
    (statusPage0 s).length = 32 ∧ fieldU (statusPage0 s) 0 1 = lifeCode s.conf.life ∧
      fieldU (statusPage0 s) 1 1 = 16 * planCode s.round.plan + motionCode s.traj.motion ∧
      fieldU (statusPage0 s) 2 1 = holdCauseByte s.hold ∧ fieldU (statusPage0 s) 3 2 = s.currentSeq % 65536 ∧
      fieldU (statusPage0 s) 5 6 = s.now % 281474976710656 ∧
      (-2 ^ 31 ≤ s.lastSetpoint → s.lastSetpoint < 2 ^ 31 → fieldS (statusPage0 s) 11 4 = s.lastSetpoint) ∧
      (-2 ^ 31 ≤ s.axis.lastEncoder → s.axis.lastEncoder < 2 ^ 31 →
        fieldS (statusPage0 s) 15 4 = s.axis.lastEncoder) ∧
      fieldS (statusPage0 s) 19 3 = clampAbs 8388607 s.axis.fe ∧
      fieldS (statusPage0 s) 22 3 = clampAbs 8388607 s.traj.lag ∧
      fieldS (statusPage0 s) 25 3 = clampAbs 8388607 s.traj.guideApplied ∧
      (-2 ^ 31 ≤ s.traj.appliedOffset → s.traj.appliedOffset < 2 ^ 31 →
        fieldS (statusPage0 s) 28 4 = s.traj.appliedOffset) := by
  have hlife := lifeCode_le s.conf.life
  have hplan := planCode_le s.round.plan
  have hmotion := motionCode_le s.traj.motion
  have hcauses := holdCauseByte_le s.hold
  have hfe := clampAbs_range 8388607 s.axis.fe
  have hlag := clampAbs_range 8388607 s.traj.lag
  have hguide := clampAbs_range 8388607 s.traj.guideApplied
  refine ⟨?_, ?_, ?_, ?_, ?_, ?_, fun h1 h2 => ?_, fun h1 h2 => ?_, ?_, ?_, ?_, fun h1 h2 => ?_⟩ <;>
    simp (disch := omega) [statusPage0, bytes24, Nat.mod_eq_of_lt]

/-- The fields of page 1. -/
theorem statusPage1_fields (s : State) :
    (statusPage1 s).length = 20 ∧ fieldU (statusPage1 s) 0 1 = 16 + lifeCode s.conf.life ∧
      fieldU (statusPage1 s) 1 1 = s.store.queue.length % 256 ∧
      fieldU (statusPage1 s) 2 2 = slotSeq s.store.queue.head? % 65536 ∧
      fieldU (statusPage1 s) 4 2 = slotSeq s.store.queue.getLast? % 65536 ∧
      fieldU (statusPage1 s) 6 1 = s.store.free % 256 ∧
      fieldU (statusPage1 s) 7 2 = slotSeq s.store.excursion % 65536 ∧
      fieldU (statusPage1 s) 9 2 = slotSeq s.store.ret % 65536 ∧
      fieldU (statusPage1 s) 11 1 = 16 * timeStateCode s.time.timeState + linkCode s.port.linkState ∧
      fieldU (statusPage1 s) 12 2 = s.port.damaged % 65536 ∧ fieldU (statusPage1 s) 14 2 = s.port.txExpired % 65536 ∧
      fieldU (statusPage1 s) 16 2 = s.port.txDropped % 65536 ∧ fieldU (statusPage1 s) 18 1 = s.conf.lastRefusal % 256 ∧
      fieldU (statusPage1 s) 19 1 = phaseCode s.round.plan := by
  have hlife := lifeCode_le s.conf.life
  have htime := timeStateCode_le s.time.timeState
  have hlink := linkCode_le s.port.linkState
  have hphase := phaseCode_le s.round.plan
  simp (disch := omega) [statusPage1, Nat.mod_eq_of_lt]

/-! ### STATUS_REQ (R179) -/

theorem sendStatus_eq (p : List Byte) (s : State) : sendStatus p s = { s with port := (sendStatus p s).port } := by
  refine State.eq_of_fields ?_ rfl ?_ ?_ ?_ ?_ ?_ ?_ ?_ ?_ ?_ <;> simp [sendStatus]

theorem drawSetpoint_eq (s : State) : s.drawSetpoint = { s with freeDraws := s.drawSetpoint.freeDraws } := by
  refine State.eq_of_fields ?_ ?_ ?_ ?_ ?_ ?_ ?_ ?_ ?_ rfl ?_ <;> simp

theorem sendStatus_queued {p : List Byte} {s : State} (hl : s.conf.life ≠ .strapFault) (room : Room s 1) :
    Queued (sendStatus p s) ⟨.status, s.conf.straps.address, 0, p⟩ (s.now + 100000) :=
  offerFrame_queued .status p _ s hl (by omega) room

theorem judgeStatusReq_zero {b : Byte} {s : State} (h : b.toNat = 0) :
    judgeStatusReq [b] s = take (sendStatus (statusPage0 s) s).drawSetpoint := by
  rw [judgeStatusReq, fieldU_byte, if_pos h]

theorem judgeStatusReq_one {b : Byte} {s : State} (h : b.toNat = 1) :
    judgeStatusReq [b] s = take (sendStatus (statusPage1 s) s) := by
  rw [judgeStatusReq, fieldU_byte, if_neg (by omega), if_pos h]

theorem judgeStatusReq_above {b : Byte} {s : State} (h : 2 ≤ b.toNat) :
    judgeStatusReq [b] s = refused .range 8 s := by
  rw [judgeStatusReq, fieldU_byte, if_neg (by omega), if_neg (by omega)]

/-! ### TRACE_SET (R41, R170) -/

theorem traceModeOfCode_none {n : Nat} (h : 3 < n) : traceModeOfCode n = none := by
  match n, h with
  | n + 4, _ => rfl

theorem traceModeOfCode_some {n : Nat} (h : n ≤ 3) : ∃ m, traceModeOfCode n = some m := by
  match n, h with
  | 0, _ | 1, _ | 2, _ | 3, _ => exact ⟨_, rfl⟩

theorem traceSenseOfCode_none {n : Nat} (h : 1 < n) : traceSenseOfCode n = none := by
  match n, h with
  | n + 2, _ => rfl

theorem traceSenseOfCode_some {n : Nat} (h : n ≤ 1) : ∃ e, traceSenseOfCode n = some e := by
  match n, h with
  | 0, _ | 1, _ => exact ⟨_, rfl⟩

/-- Bits 12 to 15 of a mask or a pattern are taken as 0 (R170). -/
theorem traceBits_toNat (x : BitVec 16) : traceBits (x.toNat % 256 ^ 2) = x &&& 0x0FFF := by
  have hx : x.toNat % 256 ^ 2 = x.toNat := Nat.mod_eq_of_lt x.isLt
  rw [traceBits, hx, BitVec.ofNat_toNat, BitVec.setWidth_eq]
  rfl

/-- The bytes of a TRACE_SET after its code (3.6). -/
def traceSetArgs (mode sense : Byte) (mask pattern : BitVec 16) : List Byte :=
  mode :: (bytesOfNat 2 mask.toNat ++ bytesOfNat 2 pattern.toNat ++ [sense])

section
variable (mode sense : Byte) (mask pattern : BitVec 16) (s : State)

/-- The fields of a TRACE_SET read back. -/
theorem traceSetArgs_fields :
    fieldU (traceSetArgs mode sense mask pattern) 0 1 = mode.toNat ∧
      traceBits (fieldU (traceSetArgs mode sense mask pattern) 1 2) = mask &&& 0x0FFF ∧
      traceBits (fieldU (traceSetArgs mode sense mask pattern) 3 2) = pattern &&& 0x0FFF ∧
      fieldU (traceSetArgs mode sense mask pattern) 5 1 = sense.toNat := by
  have h1 : fieldU (traceSetArgs mode sense mask pattern) 1 2 = mask.toNat % 256 ^ 2 := by simp [traceSetArgs]
  have h3 : fieldU (traceSetArgs mode sense mask pattern) 3 2 = pattern.toNat % 256 ^ 2 := by simp [traceSetArgs]
  rw [h1, h3]
  exact ⟨fieldU_byte .., traceBits_toNat mask, traceBits_toNat pattern, by simp [traceSetArgs]⟩

variable {mode sense}

theorem judgeTraceSet_codes (h : 3 < mode.toNat ∨ 1 < sense.toNat) :
    judgeTraceSet (traceSetArgs mode sense mask pattern) s = refused .range 9 s := by
  obtain ⟨h0, h1, h3, h5⟩ := traceSetArgs_fields mode sense mask pattern
  have hn : readTraceSetting (traceSetArgs mode sense mask pattern) = none := by
    rcases h with h | h
    · simp only [readTraceSetting, h0, traceModeOfCode_none h]
    · cases hm : traceModeOfCode mode.toNat <;> simp only [readTraceSetting, h0, h5, hm, traceSenseOfCode_none h]
  simp only [judgeTraceSet, hn]

theorem judgeTraceSet_read {m : TraceMode} {e : TraceSense} (hm : traceModeOfCode mode.toNat = some m)
    (he : traceSenseOfCode sense.toNat = some e) :
    judgeTraceSet (traceSetArgs mode sense mask pattern) s =
      gateEstop 9 (fun s => take (takeTraceSet ⟨m, mask &&& 0x0FFF, pattern &&& 0x0FFF, e⟩ s)) s := by
  obtain ⟨h0, h1, h3, h5⟩ := traceSetArgs_fields mode sense mask pattern
  have hx : readTraceSetting (traceSetArgs mode sense mask pattern) =
      some ⟨m, mask &&& 0x0FFF, pattern &&& 0x0FFF, e⟩ := by
    simp only [readTraceSetting, h0, h1, h3, h5, hm, he]
  simp only [judgeTraceSet, hx]

end

/-! ### TRACE_READ (R41, R171) -/

theorem sendTraceData_eq (s : State) (e : TraceEntry × Nat) :
    sendTraceData s e = { s with port := (sendTraceData s e).port } := by
  refine State.eq_of_fields ?_ rfl ?_ ?_ ?_ ?_ ?_ ?_ ?_ ?_ ?_ <;> simp [sendTraceData]

theorem sendAll_eq (l : List (TraceEntry × Nat)) (s : State) :
    l.foldl sendTraceData s = { s with port := (l.foldl sendTraceData s).port } := by
  induction l generalizing s with
  | nil => rfl
  | cons e l ih =>
    rw [List.foldl_cons]
    refine (ih _).trans ?_
    rw [sendTraceData_eq s e]

theorem sendTraceData_joins (s : State) (e : TraceEntry × Nat) :
    Joins (fun _ _ => True) 1 s.port (sendTraceData s e).port :=
  (offerFrame_joins .traceData _ _ s (by decide) (by decide)).mono le_rfl fun _ _ _ => trivial

theorem sendAll_joins (l : List (TraceEntry × Nat)) (s : State) :
    Joins (fun _ _ => True) l.length s.port (l.foldl sendTraceData s).port := by
  induction l generalizing s with
  | nil => exact .refl _
  | cons e l ih =>
    rw [List.length_cons, Nat.add_comm]
    exact (sendTraceData_joins s e).trans (ih _)

/-- With room for all of them, every entry asked for is queued (R171). -/
theorem sendAll_queued {l : List (TraceEntry × Nat)} {s : State} (hl : s.conf.life ≠ .strapFault)
    (room : Room s l.length) {e : TraceEntry × Nat} (he : e ∈ l) :
    Queued (l.foldl sendTraceData s) ⟨.traceData, s.conf.straps.address, 0, tracePayload e.2 e.1⟩
      (s.now + 100000) := by
  induction l generalizing s with
  | nil => cases he
  | cons x l ih =>
    have hx := sendTraceData_eq s x
    have hlen := (sendTraceData_joins s x).length
    simp only [Room, List.length_cons] at room
    rcases List.mem_cons.mp he with rfl | he
    · have q : Queued (sendTraceData s e) ⟨.traceData, s.conf.straps.address, 0, tracePayload e.2 e.1⟩
          (s.now + 100000) := offerFrame_queued .traceData _ _ s hl (by omega) (by omega)
      exact q.of_joins (sendAll_joins l _) (by have := hlen (by omega); omega)
    · have hconf : (sendTraceData s x).conf = s.conf := by rw [hx]
      have hnow : (sendTraceData s x).now = s.now := by rw [hx]; rfl
      have q := ih (s := sendTraceData s x) (by rwa [hconf])
        (by have := hlen (by omega); simp only [Room]; omega) he
      rwa [hconf, hnow] at q

/-- The entries asked for are those of the ring with their indices (R171). -/
theorem mem_requestedEntries {ring : List TraceEntry} {first count n : Nat} {e : TraceEntry} (h1 : first ≤ n)
    (h2 : n < first + count) (he : ring[n]? = some e) : (e, n) ∈ requestedEntries ring first count := by
  rw [requestedEntries, List.mk_mem_zipIdx_iff_le_and_getElem?_sub]
  refine ⟨h1, ?_⟩
  rw [List.getElem?_take_of_lt (by omega), List.getElem?_drop, Nat.add_sub_cancel' h1, he]

theorem length_requestedEntries (ring : List TraceEntry) (first count : Nat) :
    (requestedEntries ring first count).length ≤ count := by
  rw [requestedEntries, List.length_zipIdx]
  exact List.length_take_le ..

theorem judgeTraceRead_range {first count : Byte} {s : State}
    (h : count = 0 ∨ 4 < count.toNat ∨ s.axis.ring.length ≤ first.toNat) :
    judgeTraceRead [first, count] s = refused .range 10 s := by
  have hc : fieldU [first, count] 1 1 = count.toNat := fieldU_byte ..
  rw [judgeTraceRead, hc, fieldU_byte]
  by_cases hn : count.toNat = 0 ∨ 4 < count.toNat
  · rw [if_pos hn]
  · rw [if_neg hn, if_pos]
    rcases h with rfl | h | h
    · exact absurd (.inl rfl) hn
    · exact absurd (.inr h) hn
    · exact h

theorem judgeTraceRead_held {first count : Byte} {s : State} (h1 : 1 ≤ count.toNat) (h2 : count.toNat ≤ 4)
    (hf : first.toNat < s.axis.ring.length) :
    judgeTraceRead [first, count] s =
      take ((requestedEntries s.axis.ring first.toNat count.toNat).foldl sendTraceData s) := by
  have hc : fieldU [first, count] 1 1 = count.toNat := fieldU_byte ..
  rw [judgeTraceRead, hc, fieldU_byte, if_neg (by omega), if_neg (by omega)]

end Sys2Proof.Machine

namespace Sys2Proof.Proofs
open Sys2Proof.Machine

/-- Settles O55: the page named, the trace set by its codes, the entries asked for one by one. -/
theorem reportsAnswerTheirRequests : Obligations.ReportsAnswerTheirRequests := by
  refine ⟨?_, ?_, ?_⟩
  · intro o b s hp c
    obtain ⟨hl, -⟩ := id hp
    refine ⟨_, rfl, fun h => hearCommand_refused hp rfl rfl (judgeStatusReq_above h), fun h => ?_⟩
    have hb : b.toNat = 0 ∨ b.toNat = 1 := by omega
    rcases hb with hb | hb
    · rw [show hearCommand 8 2 o [b] (judgeStatusReq [b]) s = _ from
        hearCommand_taken hp rfl rfl (judgeStatusReq_zero hb)]
      refine ⟨rfl, ?_, fun hroom => ⟨statusPage0 s, ?_, fun _ => ?_, fun h1 => absurd h1 (by omega)⟩⟩
      · rw [drawSetpoint_eq, sendStatus_eq]
        rfl
      · exact (sendStatus_queued hl hroom).of_port (by simp)
      · obtain ⟨h0, h1, h2, h3, h4, h5, h6, h7, h8, h9, h10, h11⟩ := statusPage0_fields s
        rw [holdCauseByte_eq] at h3
        refine ⟨h0, h1, h2, h3, h4, h5, fun x hx => ?_, h7, h8, h9, h10, h11⟩
        rwa [lastSetpoint_of_some hx] at h6
    · rw [show hearCommand 8 2 o [b] (judgeStatusReq [b]) s = _ from
        hearCommand_taken hp rfl rfl (judgeStatusReq_one hb)]
      refine ⟨rfl, ?_, fun hroom => ⟨statusPage1 s, ?_, fun h0 => absurd h0 (by omega), fun _ => ?_⟩⟩
      · rw [sendStatus_eq]
        rfl
      · exact (sendStatus_queued hl hroom).of_port rfl
      · simpa only [slotSeq_eq] using statusPage1_fields s
  · intro o mode sense mask pattern s a hp c
    have hlen : a.length + 1 = 7 := by simp [a]
    refine ⟨_, rfl, ite_prop_iff_and.mpr ⟨fun h => ?_, fun h => ite_prop_iff_and.mpr ⟨fun he => ?_, fun he => ?_⟩⟩⟩
    · exact hearCommand_refused hp rfl hlen (judgeTraceSet_codes mask pattern s h)
    all_goals
      push Not at h
      obtain ⟨m, hm⟩ := traceModeOfCode_some h.1
      obtain ⟨e, hs⟩ := traceSenseOfCode_some h.2
      have hj := judgeTraceSet_read mask pattern s hm hs
    · exact hearCommand_refused hp rfl hlen (hj.trans (gateEstop_on he))
    · refine ⟨m, e, hm, hs, (hearCommand_taken hp rfl hlen (hj.trans (gateEstop_off (by simpa using he)))).trans ?_⟩
      cases m <;> rfl
  · intro o first count s hp c
    obtain ⟨hl, -⟩ := id hp
    refine ⟨_, rfl, fun h => hearCommand_refused hp rfl rfl (judgeTraceRead_range h), fun h1 h2 hf => ?_⟩
    rw [show hearCommand 10 3 o [first, count] (judgeTraceRead [first, count]) s = _ from
      hearCommand_taken hp rfl rfl (judgeTraceRead_held h1 h2 hf)]
    refine ⟨rfl, congrArg (State.receiving · (heardAs c true s)) (sendAll_eq _ s), fun hroom n e hn1 hn2 he => ?_⟩
    have hcount := length_requestedEntries s.axis.ring first.toNat count.toNat
    simp only [Room] at hroom
    exact (sendAll_queued hl (by simp only [Room]; omega) (mem_requestedEntries hn1 hn2 he)).of_port rfl

end Sys2Proof.Proofs
end

section
/-! Holds heard and repeated, and the causes retaken at START (R95, R133, R134, R137, R140, R177); hence O41 and O31. -/

namespace Sys2Proof.Machine

/-! ### HOLD (R137) -/

theorem readHold_isSome {p : List Byte} (h : p.length = 4) : ∃ f, readHold p = some f := ⟨_, if_pos h⟩

section
variable {o : Origin} {p : List Byte} {s : State} (hl : p.length = 4)
include hl

theorem judgeHold_outsideRun (h : s.conf.life ≠ .run) : judgeHold o p s = leave s := by
  obtain ⟨f, hf⟩ := readHold_isSome hl
  simp only [judgeHold, hf, State.inRun, h, decide_false, Bool.not_false, if_true]

theorem judgeHold_own (h : s.conf.life = .run) (ho : o.sender = s.conf.straps.address) : judgeHold o p s = take s := by
  obtain ⟨f, hf⟩ := readHold_isSome hl
  simp only [judgeHold, hf, State.inRun, h, decide_true, Bool.not_true, Bool.false_eq_true, if_false, ho, if_true]

theorem judgeHold_peer (h : s.conf.life = .run) (ho : o.sender ≠ s.conf.straps.address) :
    judgeHold o p s = take (takeHold false (s.withHold { s.hold with peerHold := true })) := by
  obtain ⟨f, hf⟩ := readHold_isSome hl
  simp only [judgeHold, hf, State.inRun, h, decide_true, Bool.not_true, Bool.false_eq_true, if_false, ho]

end

/-- A hold taken on a peer's HOLD, which sets the peer-hold mark first (R137). -/
theorem takeHold_ofPeer (s : State) (r : Option Reception) :
    HoldTaken false s ((takeHold false (s.withHold { s.hold with peerHold := true })).receiving r) :=
  (takeHold_holdTaken false (s.withHold { s.hold with peerHold := true })).of_same rfl rfl rfl rfl rfl rfl rfl rfl rfl rfl

/-! ### HOLD_REPEAT (R140) -/

theorem CauseSet.lowest_none {c : CauseSet} (h : ∀ x, c.has x = false) : c.lowest = none := by
  simp [CauseSet.lowest, h]

theorem CauseSet.lowest_some {c : CauseSet} {x : Cause} (hx : c.has x = true)
    (h : ∀ y, causeCode y < causeCode x → c.has y = false) : c.lowest = some x := by
  have h1 := h .following
  have h2 := h .encoder
  have h3 := h .drive
  have h4 := h .estop
  cases x <;> simp_all [CauseSet.lowest, causeCode]

theorem execHoldRepeat_due {s : State} {e : Nat} (ht : s.hold.repeatTimer = some e) (h : e ≤ s.now) :
    exec .holdRepeat s = .next (repeatHold s) := by
  have hd : repeatDue s = true := by simpa [repeatDue, ht] using h
  simp only [exec, execHoldRepeat, hd, if_true]

theorem repeatHold_none {s : State} (h : s.hold.causes.lowest = none) :
    repeatHold s = s.withHold { s.hold with repeatTimer := none } := by
  simp only [repeatHold, h]

theorem repeatHold_some {s : State} {x : Cause} (h : s.hold.causes.lowest = some x) :
    repeatHold s = startRepeat (sendHold x s) := by
  simp only [repeatHold, h]

theorem startRepeat_sendHold_eq (x : Cause) (s : State) :
    startRepeat (sendHold x s) =
      { s with
        port := (startRepeat (sendHold x s)).port
        hold := { s.hold with repeatTimer := some (s.now + s.items.holdRepeat) } } := by
  refine State.eq_of_fields ?_ rfl ?_ ?_ ?_ ?_ ?_ ?_ ?_ ?_ ?_ <;> simp [startRepeat, State.now, State.items]

/-- With room, the repeat HOLD is queued (R140). -/
theorem startRepeat_sendHold_queued {x : Cause} {s : State} (hl : s.conf.life ≠ .strapFault) (room : Room s 1) :
    HoldQueued x s (startRepeat (sendHold x s)) := by
  have hc : (startRepeat (sendHold x s)).hold.causes = s.hold.causes := by simp [startRepeat]
  rw [HoldQueued, hc]
  exact (offerFrame_queued .hold _ _ s hl (by omega) room).of_port rfl

/-! ### Causes retaken (R133, R140) -/

theorem retakeCause_of_has {s : State} {x : Cause} (h : s.hold.causes.has x = true) :
    retakeCause s x = actOnCause x s := if_pos h

theorem retakeCause_of_not {s : State} {x : Cause} (h : s.hold.causes.has x = false) : retakeCause s x = s :=
  if_neg (by simp [h])

/-- What retaking causes leaves of the blocks that a hold reaches (R133, R134). -/
structure CausesRetaken (s t : State) : Prop where
  causes : t.hold.causes = s.hold.causes
  peerHold : t.hold.peerHold = s.hold.peerHold
  trigger : s.round.trigger = none → t.round.trigger = none
  abandon : s.round.abandon = none → t.round.abandon = none
  dwell : s.round.dwell = none → t.round.dwell = none
  abandonSent : t.round.abandonSent = s.round.abandonSent
  traj : s.traj.motion = .braked → t.traj = s.traj

theorem CausesRetaken.refl (s : State) : CausesRetaken s s := ⟨rfl, rfl, id, id, id, rfl, fun _ => rfl⟩

theorem CausesRetaken.trans {s t u : State} (h : CausesRetaken s t) (k : CausesRetaken t u) : CausesRetaken s u where
  causes := k.causes.trans h.causes
  peerHold := k.peerHold.trans h.peerHold
  trigger := k.trigger ∘ h.trigger
  abandon := k.abandon ∘ h.abandon
  dwell := k.dwell ∘ h.dwell
  abandonSent := k.abandonSent.trans h.abandonSent
  traj := fun hb => (k.traj (by rw [h.traj hb]; exact hb)).trans (h.traj hb)

theorem actOnCause_round (x : Cause) (s : State) :
    (actOnCause x s).round = { s.round with plan := some .held, trigger := none, abandon := none, dwell := none } :=
  (actOnCause_holdTaken x s).plan

theorem actOnCause_traj_braked {x : Cause} {s : State} (h : s.traj.motion = .braked) :
    (actOnCause x s).traj = s.traj := by
  have hm : (actOnCause x s).traj.motion = .braked := by
    cases hl : x.isLine
    · exact ((actOnCause_holdTaken x s).kept hl (by rw [h]; decide) (by rw [h]; decide)).trans h
    · exact (actOnCause_holdTaken x s).braked hl
  rw [(actOnCause_holdTaken x s).traj, hm, ← h]

theorem actOnCause_retaken (x : Cause) (s : State) : CausesRetaken s (actOnCause x s) where
  causes := actOnCause_causes x s
  peerHold := by simp [actOnCause, startRepeat]
  trigger := fun _ => by rw [actOnCause_round]
  abandon := fun _ => by rw [actOnCause_round]
  dwell := fun _ => by rw [actOnCause_round]
  abandonSent := by rw [actOnCause_round]
  traj := actOnCause_traj_braked

theorem retakeCause_retaken (x : Cause) (s : State) : CausesRetaken s (retakeCause s x) := by
  cases h : s.hold.causes.has x
  · rw [retakeCause_of_not h]
    exact .refl s
  · rw [retakeCause_of_has h]
    exact actOnCause_retaken x s

theorem retakeCause_joins (x : Cause) (s : State) : Joins HoldAt 1 s.port (retakeCause s x).port := by
  cases h : s.hold.causes.has x
  · rw [retakeCause_of_not h]
    exact .of_queue rfl rfl
  · rw [retakeCause_of_has h]
    exact actOnCause_joins x s

/-- The plan is held and the repeat timer runs from now. -/
def HeldFromNow (s t : State) : Prop :=
  t.round.plan = some .held ∧ t.hold.repeatTimer = some (s.now + s.items.holdRepeat)

theorem actOnCause_heldFromNow (x : Cause) (s : State) : HeldFromNow s (actOnCause x s) :=
  ⟨by rw [actOnCause_round], actOnCause_repeatTimer x s⟩

section
variable (l : List Cause) {s : State}

theorem retakeAll_retaken (s : State) : CausesRetaken s (l.foldl retakeCause s) := by
  induction l generalizing s with
  | nil => exact .refl s
  | cons x l ih => exact (retakeCause_retaken x s).trans (ih _)

theorem retakeAll_joins (s : State) : Joins HoldAt l.length s.port (l.foldl retakeCause s).port := by
  induction l generalizing s with
  | nil => exact .refl _
  | cons x l ih =>
    rw [List.length_cons, Nat.add_comm]
    exact (retakeCause_joins x s).trans (ih _)

variable {l}

theorem retakeAll_none (h : ∀ x, s.hold.causes.has x = false) : l.foldl retakeCause s = s := by
  induction l with
  | nil => rfl
  | cons x l ih => rw [List.foldl_cons, retakeCause_of_not (h x), ih]

/-- Once held, the plan stays held, and the timer runs from the same instant. -/
theorem retakeAll_stays {t : State} (h : HeldFromNow s t) (hn : t.now = s.now) (hc : t.conf = s.conf) :
    HeldFromNow s (l.foldl retakeCause t) := by
  induction l generalizing t with
  | nil => exact h
  | cons x l ih =>
    refine ih ?_ (by simpa [State.now] using hn) (by simpa using hc)
    cases hx : t.hold.causes.has x
    · rwa [retakeCause_of_not hx]
    · rw [retakeCause_of_has hx]
      have := actOnCause_heldFromNow x t
      rwa [HeldFromNow, hn, State.items, hc] at this

theorem retakeAll_held {x : Cause} (hx : x ∈ l) (h : s.hold.causes.has x = true) :
    HeldFromNow s (l.foldl retakeCause s) := by
  induction l generalizing s with
  | nil => cases hx
  | cons y l ih =>
    rw [List.foldl_cons]
    cases hy : s.hold.causes.has y
    · rw [retakeCause_of_not hy]
      exact ih ((List.mem_cons.mp hx).resolve_left (by rintro rfl; simp [h] at hy)) h
    · rw [retakeCause_of_has hy]
      exact retakeAll_stays (actOnCause_heldFromNow y s) (by simp [State.now]) (by simp)

/-- With room for all of them, every cause retaken has its HOLD queued (R140). -/
theorem retakeAll_queued (hl : s.conf.life ≠ .strapFault) (room : Room s l.length) {x : Cause} (hx : x ∈ l)
    (h : s.hold.causes.has x = true) :
    Queued (l.foldl retakeCause s)
      ⟨.hold, s.conf.straps.address, 0x3E, holdPayload ⟨causeCode x, s.currentSeq, causeBits s.hold.causes⟩⟩
      (s.now + 50000) := by
  induction l generalizing s with
  | nil => cases hx
  | cons y l ih =>
    have hlen := (retakeCause_joins y s).length
    simp only [Room, List.length_cons] at room
    rw [List.foldl_cons]
    rcases List.mem_cons.mp hx with rfl | hx
    · have q := actOnCause_queued x hl (by omega)
      rw [← retakeCause_of_has h] at q
      exact q.of_joins (retakeAll_joins l _) (by have := hlen (by omega); omega)
    · have hc := (retakeCause_retaken y s).causes
      have q := ih (s := retakeCause s y) (by simpa using hl)
        (by have := hlen (by omega); simp only [Room]; omega) hx (by rw [hc]; exact h)
      rw [hc] at q
      simpa [State.now, State.currentSeq] using q

end

theorem mem_causes (x : Cause) : x ∈ [Cause.following, .encoder, .drive, .estop, .time] := by cases x <;> decide

theorem CauseSet.any_false {c : CauseSet} (h : c.any = false) (x : Cause) : c.has x = false := by
  simp only [CauseSet.any, Bool.or_eq_false_iff] at h
  obtain ⟨⟨⟨⟨h1, h2⟩, h3⟩, h4⟩, h5⟩ := h
  cases x <;> assumption

theorem CauseSet.any_true {c : CauseSet} (h : c.any = true) : ∃ x, c.has x = true := by
  by_contra hn
  simp only [not_exists, Bool.not_eq_true] at hn
  have h1 := hn .following
  have h2 := hn .encoder
  have h3 := hn .drive
  have h4 := hn .estop
  have h5 := hn .time
  simp only [CauseSet.has] at h1 h2 h3 h4 h5
  simp [CauseSet.any, h1, h2, h3, h4, h5] at h

/-! ### START (R177) -/

theorem ownAddressMatches_iff (s : State) :
    ownAddressMatches s = true ↔ s.ownRole.map s.items.addr.get = some s.ownAddress := by
  rw [ownAddressMatches]
  cases s.ownRole <;> simp

/-- The checks of R177 in their order. -/
theorem startFails_eq (s : State) :
    startFails s =
      if s.conf.life = .run then some .state
      else if s.ownRole.map s.items.addr.get ≠ some s.ownAddress then some .range
      else if s.items.addrControl = 15 then some .range
      else if s.items.softHi ≤ s.items.softLo then some .range
      else if s.items.tAgree < s.items.tPropose + 5000 then some .range
      else if s.time.timeState ≠ .locked ∨ s.time.setTaken = false then some .state
      else none := by
  refine if_congr (by simp [State.inRun]) rfl (if_congr ?_ rfl rfl)
  rw [Bool.not_eq_true', ← Bool.not_eq_true, ownAddressMatches_iff]

theorem judgeStart_fails {s : State} {r : Reason} (h : startFails s = some r) : judgeStart s = refused r 1 s := by
  simp only [judgeStart, h]

theorem judgeStart_enters {s : State} (h : startFails s = none) : judgeStart s = take (takeStart s) := by
  simp only [judgeStart, h]

/-- The state in which START retakes the causes: in RUN, with the plan READY and no set pending (R95, R177). -/
def started (s : State) : State :=
  ((s.withConf { s.conf with life := .run }).withTime { s.time with pendingSet := none }).withRound (readyRound s.round)

theorem takeStart_eq (s : State) :
    takeStart s = [Cause.following, .encoder, .drive, .estop, .time].foldl retakeCause (started s) := rfl

theorem takeStart_retaken (s : State) : CausesRetaken (started s) (takeStart s) := retakeAll_retaken _ _

theorem takeStart_quiet {s : State} (h : s.hold.causes.any = false) : takeStart s = started s :=
  retakeAll_none (s := started s) (CauseSet.any_false h)

theorem takeStart_held {s : State} (h : s.hold.causes.any = true) : HeldFromNow (started s) (takeStart s) := by
  obtain ⟨x, hx⟩ := CauseSet.any_true h
  exact retakeAll_held (s := started s) (mem_causes x) hx

theorem takeStart_queued {s : State} {x : Cause} (h : s.hold.causes.has x = true) (room : Room s 5) :
    HoldQueued x s (takeStart s) := by
  have q := retakeAll_queued (l := [.following, .encoder, .drive, .estop, .time]) (s := started s) (by simp [started])
    room (mem_causes x) h
  rwa [← (takeStart_retaken s).causes] at q

end Sys2Proof.Machine

namespace Sys2Proof.Proofs
open Sys2Proof.Machine

/-- Settles O41: a HOLD by the life state and its sender, the repeat by the persisting cause of lowest code. -/
theorem holdsAreTakenAndRepeated : Obligations.HoldsAreTakenAndRepeated := by
  constructor
  · intro o p s hp hl c
    refine ⟨_, rfl, fun h => hear_ignored hp rfl (judgeHold_outsideRun hl h),
      fun h ho => hear_taken hp rfl (judgeHold_own hl h ho), fun h ho => ?_⟩
    rw [show hear .hold o p (judgeHold o p) s = _ from hear_taken hp rfl (judgeHold_peer hl h ho)]
    exact ⟨takeHold_ofPeer s _, by simp, by simp; rfl, by simp, by simp, by simp⟩
  · intro s e ht hdue
    refine ⟨_, execHoldRepeat_due ht hdue, fun h => repeatHold_none (CauseSet.lowest_none h), fun x hx hlow => ?_⟩
    rw [repeatHold_some (CauseSet.lowest_some hx hlow)]
    exact ⟨startRepeat_sendHold_eq x s, fun hl hroom => startRepeat_sendHold_queued hl hroom⟩

/-- Settles O31: the refusals in their order; then the causes retaken one by one in RUN. -/
theorem startEntersRun : Obligations.StartEntersRun := by
  intro o s hp c
  refine ⟨_, rfl, ite_prop_iff_and.mpr ⟨fun he => hearCommand_refused hp rfl rfl (gateEstop_on he), fun he => ?_⟩⟩
  have hgate : gateEstop 1 judgeStart s = judgeStart s := gateEstop_off (by simpa using he)
  have fails : ∀ r, startFails s = some r →
      RefusesCommand c s (hearCommand 1 1 o [] (gateEstop 1 judgeStart) s) r 1 :=
    fun r h => hearCommand_refused hp rfl rfl (hgate.trans (judgeStart_fails h))
  refine refuses_firstFailing fails (startFails_eq s) fun hx => refuses_firstFailing fails hx fun hx =>
    refuses_firstFailing fails hx fun hx => refuses_firstFailing fails hx fun hx =>
      refuses_firstFailing fails hx fun hx => refuses_firstFailing fails hx fun hx => ?_
  rw [show hearCommand 1 1 o [] (gateEstop 1 judgeStart) s = _ from
    hearCommand_taken hp rfl rfl (hgate.trans (judgeStart_enters hx))]
  have hr := takeStart_retaken s
  refine ⟨rfl, by simp [takeStart], by simp [takeStart], by simp [takeStart], by simp [takeStart], hr.trigger rfl,
    hr.abandon rfl, hr.dwell rfl, hr.abandonSent, hr.causes, hr.peerHold, hr.traj, fun h => ?_, fun h => ?_⟩
  · rw [takeStart_quiet h]
    exact ⟨rfl, rfl, rfl, rfl⟩
  · obtain ⟨hplan, htimer⟩ := takeStart_held h
    exact ⟨hplan, htimer, fun x hx hroom => takeStart_queued hx hroom⟩

end Sys2Proof.Proofs
end

section
/-! The own outcome of a round (R37, R104); hence O57. -/

namespace Sys2Proof.Machine

/-! ### What the outcome is (R104) -/

theorem heardGo_iff {r : RoundRecord} {q : Nat} (hq : r.selected = some q) (x : Role) :
    heardGo r x = true ↔ ∃ d, r.heard.get x = some ⟨q, .go, d⟩ := by
  rw [heardGo, hq]
  rcases r.heard.get x with _ | ⟨n, v, d⟩
  · simp
  · simp [eq_comm (a := q), and_comm]

/-- Every roster axis role has proposed GO for the selected seq. -/
theorem allGo_iff {c : Items} {r : RoundRecord} {q : Nat} (hq : r.selected = some q) :
    allGo c r = true ↔ ∀ x, c.addr.get x ≠ 15 → ∃ d, r.heard.get x = some ⟨q, .go, d⟩ := by
  have hroles : ∀ x, x ∈ allRoles := by intro x; cases x <;> decide
  simp only [allGo, List.all_eq_true, hroles, true_implies, Bool.or_eq_true, Bool.not_eq_true', Items.inRoster,
    decide_eq_false_iff_not, heardGo_iff hq, ← imp_iff_not_or]

theorem mem_heardList (r : RoundRecord) (h : HeardProposal) : h ∈ heardList r ↔ ∃ x, r.heard.get x = some h := by
  have hroles : ∀ x, x ∈ allRoles := by intro x; cases x <;> decide
  simp only [heardList, List.mem_filterMap, hroles, true_and]

/-- The largest D of a list is above every D of it and is one of them, or the value begun with. -/
theorem foldl_max_spec (l : List HeardProposal) (m : Nat) :
    m ≤ l.foldl (fun m h => max m h.d) m ∧ (∀ h ∈ l, h.d ≤ l.foldl (fun m h => max m h.d) m) ∧
      (l.foldl (fun m h => max m h.d) m = m ∨ ∃ h ∈ l, h.d = l.foldl (fun m h => max m h.d) m) := by
  induction l generalizing m with
  | nil => simp
  | cons a l ih =>
    obtain ⟨hm, hall, hsome⟩ := ih (max m a.d)
    rw [List.foldl_cons]
    refine ⟨by omega, fun h hh => ?_, ?_⟩
    · rcases List.mem_cons.mp hh with rfl | hh
      · omega
      · exact hall h hh
    · rcases hsome with hsome | ⟨h, hh, he⟩
      · rcases Nat.le_total m a.d with hle | hle
        · exact .inr ⟨a, List.mem_cons_self, by omega⟩
        · exact .inl (by omega)
      · exact .inr ⟨h, List.mem_cons_of_mem a hh, he⟩

theorem le_largestD {r : RoundRecord} {x : Role} {h : HeardProposal} (hx : r.heard.get x = some h) :
    h.d ≤ largestD r :=
  (foldl_max_spec (heardList r) 0).2.1 h ((mem_heardList r h).mpr ⟨x, hx⟩)

theorem largestD_attained (r : RoundRecord) :
    largestD r = 0 ∨ ∃ x h, r.heard.get x = some h ∧ h.d = largestD r := by
  refine (foldl_max_spec (heardList r) 0).2.2.imp_right fun ⟨h, hh, he⟩ => ?_
  obtain ⟨x, hx⟩ := (mem_heardList r h).mp hh
  exact ⟨x, h, hx, he⟩

section
variable {c : Items} {r : RoundRecord}

theorem formOutcome_skip (h : r.verdict = .unreachable ∨ r.unreachableHeard = true) : formOutcome c r = .skip :=
  if_pos h

variable (hs : ¬(r.verdict = .unreachable ∨ r.unreachableHeard = true))
include hs

theorem formOutcome_go {q : Nat} (hq : r.selected = some q)
    (h : ∀ x, c.addr.get x ≠ 15 → ∃ d, r.heard.get x = some ⟨q, .go, d⟩) : formOutcome c r = .go (largestD r) := by
  rw [formOutcome, if_neg hs, if_pos ⟨by simp [hq], (allGo_iff hq).mpr h⟩]

theorem formOutcome_nothing
    (h : ¬∃ q, r.selected = some q ∧ ∀ x, c.addr.get x ≠ 15 → ∃ d, r.heard.get x = some ⟨q, .go, d⟩) :
    formOutcome c r = .nothing := by
  rw [formOutcome, if_neg hs, if_neg]
  rintro ⟨hsel, hall⟩
  obtain ⟨q, hq⟩ := Option.ne_none_iff_exists'.mp hsel
  exact h ⟨q, hq, (allGo_iff hq).mp hall⟩

end

/-! ### The instant (R104) -/

section
variable {s : State} {r : RoundRecord} {w : RoundRecord → PlanState} (hw : w = .inRound ∨ w = .scheduled)
  (hp : s.round.plan = some (w r))
include hw hp

theorem execOwnOutcome_due (hn : r.outcome = none) (h : r.epoch + s.items.tPropose ≤ s.now) :
    exec .ownOutcome s = .next (settleOutcome r s) := by
  have hd : dueOutcome s = some r := by
    simp only [dueOutcome, (roundOf_of_plan hw hp).1, hn, h, and_self, if_true]
  simp only [exec, execOwnOutcome, hd]

/-- The outcome is written into the round's record, and the port has its ROLL (R104). -/
theorem settleOutcome_eq :
    settleOutcome r s =
      { s with
        port := (settleOutcome r s).port
        round := { s.round with plan := some (w { r with outcome := some (formOutcome s.items r) }) } } := by
  rw [settleOutcome, updateRound_of_plan hw hp]
  refine State.eq_of_fields ?_ rfl ?_ ?_ ?_ ?_ ?_ ?_ ?_ ?_ ?_ <;> simp

end

/-- The ROLL of a verdict and a duration, with its deadline S (R28, R37). -/
def offerRoll (r : RoundRecord) (verdict d : Nat) (s : State) : State :=
  offerFrame .roll (callPayload ⟨r.epoch, r.selected.getD 0, verdict, d⟩) (r.epoch + s.items.tAgree) s

theorem sendRoll_skip (r : RoundRecord) (s : State) : sendRoll r .skip s = offerRoll r 1 0 s := rfl
theorem sendRoll_go (r : RoundRecord) (d : Nat) (s : State) : sendRoll r (.go d) s = offerRoll r 0 d s := rfl
theorem sendRoll_nothing (r : RoundRecord) (s : State) : sendRoll r .nothing s = s := rfl

/-- With room and before S, the ROLL is queued. -/
theorem offerRoll_queued {s : State} {r : RoundRecord} {verdict d : Nat} (hl : s.conf.life ≠ .strapFault)
    (room : Room s 1) (h : s.now < r.epoch + s.items.tAgree) (g : RoundRecord → RoundRecord) :
    Queued (offerRoll r verdict d (updateRound g s))
      ⟨.roll, 15, 0x3E, callPayload ⟨r.epoch, r.selected.getD 0, verdict, d⟩⟩ (r.epoch + s.items.tAgree) := by
  have q := offerFrame_queued .roll (callPayload ⟨r.epoch, r.selected.getD 0, verdict, d⟩)
    (r.epoch + (updateRound g s).items.tAgree) (updateRound g s) (by simpa using hl)
    (by simpa [State.now, State.items] using h) (by simpa using Nat.lt_of_succ_le room)
  simpa [offerRoll, State.items, ownFrame, everyRole] using q

end Sys2Proof.Machine

namespace Sys2Proof.Proofs
open Sys2Proof.Machine

/-- Settles O57: the outcome by the verdicts and the proposals heard, the ROLL by the outcome. -/
theorem outcomeIsFormed : Obligations.OutcomeIsFormed := by
  intro s r w hw hp hn hdue all skip roll
  refine ⟨_, formOutcome s.items r, execOwnOutcome_due hw hp hn hdue, settleOutcome_eq hw hp, fun hs => ?_,
    fun hs ⟨q, hq, hall⟩ => ?_, fun hs hall => ?_⟩
  · have ho := formOutcome_skip (c := s.items) hs
    refine ⟨ho, fun hl hroom hb => ?_⟩
    rw [settleOutcome, ho, sendRoll_skip]
    exact offerRoll_queued hl hroom hb _
  · have ho := formOutcome_go hs hq hall
    refine ⟨largestD r, ho, fun hl hroom hb => ?_, fun x h hx => le_largestD hx, largestD_attained r⟩
    rw [settleOutcome, ho, sendRoll_go]
    exact offerRoll_queued hl hroom hb _
  · have ho := formOutcome_nothing (c := s.items) hs hall
    refine ⟨ho, ?_⟩
    rw [settleOutcome, ho, sendRoll_nothing, updateRound_port]

end Sys2Proof.Proofs
end

section
/-! What leaves the plan as it is (R34, R49, R60, R107): the commands that touch neither the store nor the configuration,
that begin no round and take no ROLL. -/

namespace Sys2Proof.Machine

/-- A frame that has begun to be received is no taken ROLL, and it is heard in the round in progress or in none. -/
def Listens (s t : State) : Prop :=
  ∀ x, t.port.reception = some x → s.port.reception = some x ∨
    ((x.frame.cls = .roll → x.taken = false) ∧ ∀ n, x.round = some n → roundNumber s = some n)

/-- The plan is left as it is: the store, the life state, the straps, the items and the numbering of rounds are kept,
the round in progress goes on as it is or ends, no mode comes to work on the current record, and no ROLL is taken. -/
structure PlanKept (s t : State) : Prop where
  store : t.store = s.store
  life : t.conf.life = s.conf.life
  straps : t.conf.straps = s.conf.straps
  items : t.conf.items = s.conf.items
  rounds : t.round.rounds = s.round.rounds
  round : roundOf t = roundOf s ∨ roundOf t = none
  motion : onRecord t.traj.motion = true → onRecord s.traj.motion = true
  listens : Listens s t

theorem roundNumber_eq (s : State) : roundNumber s = (roundOf s).map RoundRecord.number := by
  simp only [roundNumber, roundOf]
  split <;> rfl

theorem roundOf_congr {s t : State} (h : t.round.plan = s.round.plan) : roundOf t = roundOf s := by
  rw [roundOf, roundOf, h]

/-- The frame being received is kept. -/
theorem Listens.of_same {s t : State} (h : t.port.reception = s.port.reception) : Listens s t :=
  fun _ hx => .inl (h ▸ hx)

theorem PlanKept.refl (s : State) : PlanKept s s := ⟨rfl, rfl, rfl, rfl, rfl, .inl rfl, id, .of_same rfl⟩

theorem PlanKept.trans {s t u : State} (h : PlanKept s t) (k : PlanKept t u) : PlanKept s u where
  store := k.store.trans h.store
  life := k.life.trans h.life
  straps := k.straps.trans h.straps
  items := k.items.trans h.items
  rounds := k.rounds.trans h.rounds
  round := k.round.elim (fun e => e ▸ h.round) .inr
  motion := fun m => h.motion (k.motion m)
  listens := fun x hx => by
    rcases k.listens x hx with hx | ⟨hr, hn⟩
    · exact h.listens x hx
    refine .inr ⟨hr, fun n hx => ?_⟩
    have := hn n hx
    rw [roundNumber_eq] at this ⊢
    rcases h.round with e | e <;> simp_all

/-- Two steps that keep the plan, the later one first. -/
theorem PlanKept.after {s t u : State} (k : PlanKept t u) (h : PlanKept s t) : PlanKept s u := h.trans k

/-- A block that holds nothing of the plan is replaced, the mode and the frame being received kept. -/
theorem PlanKept.of_blocks {s t : State} (store : t.store = s.store) (conf : t.conf = s.conf) (round : t.round = s.round)
    (motion : t.traj.motion = s.traj.motion) (reception : t.port.reception = s.port.reception) : PlanKept s t :=
  ⟨store, by rw [conf], by rw [conf], by rw [conf], by rw [round], .inl (roundOf_congr (by rw [round])),
    fun h => motion ▸ h, .of_same reception⟩

/-! ### Frames offered -/

@[simp] theorem SpanPort.offer_reception (p : SpanPort) (f : Frame) (now d : Nat) :
    (p.offer f now d).reception = p.reception := by
  simp only [SpanPort.offer, SpanPort.offerFull]
  (repeat' split) <;> rfl

@[simp] theorem offerFrame_reception (k : FrameClass) (x : List Byte) (d : Nat) (s : State) :
    (offerFrame k x d s).port.reception = s.port.reception := by
  simp only [offerFrame]
  split <;> simp

@[simp] theorem report_reception (e : EventKind) (q : Nat) (v : BitVec 32) (s : State) :
    (report e q v s).port.reception = s.port.reception := by
  simp only [report]
  split <;> simp

theorem offerFrame_planKept (k : FrameClass) (x : List Byte) (d : Nat) (s : State) :
    PlanKept s (offerFrame k x d s) := by
  apply PlanKept.of_blocks <;> simp

theorem report_planKept (e : EventKind) (q : Nat) (v : BitVec 32) (s : State) : PlanKept s (report e q v s) := by
  apply PlanKept.of_blocks <;> simp

theorem refuse_planKept (r : Reason) (k : FrameClass) (third : Nat) (e : EventKind) (q : Nat) (s : State) :
    PlanKept s (refuse r k third e q s) :=
  (report_planKept ..).after ⟨rfl, rfl, rfl, rfl, rfl, .inl rfl, id, .of_same rfl⟩

theorem drawSetpoint_planKept (s : State) : PlanKept s s.drawSetpoint := by
  apply PlanKept.of_blocks <;> simp

/-! ### Modes and holds -/

theorem settleOutputs_planKept (s : State) : PlanKept s (settleOutputs s) := by
  apply PlanKept.of_blocks <;> simp

theorem enterMotion_planKept {m : Motion} {s : State} (h : onRecord m = true → onRecord s.traj.motion = true) :
    PlanKept s (enterMotion m s) :=
  (settleOutputs_planKept _).after ⟨rfl, rfl, rfl, rfl, rfl, .inl rfl, h, .of_same rfl⟩

@[simp] theorem motionUnderHold_offRecord (s : State) : onRecord (motionUnderHold s) = false := by
  simp only [motionUnderHold, stopMotion]
  (repeat' split) <;> rfl

theorem takeHold_planKept (l : Bool) (s : State) : PlanKept s (takeHold l s) := by
  have hr : (takeHold l s).round = (holdPlan s).round := by simp [takeHold]
  refine ⟨by simp, by simp, by simp, by simp, by rw [hr]; rfl, .inr (by rw [roundOf, hr]; rfl), fun h => ?_,
    .of_same (by simp)⟩
  have hm : onRecord (takeHold l s).traj.motion = false := by
    cases l
    · simp [takeHold, enterMotion, motionUnderHold_offRecord]
    · simp [takeHold, enterMotion, onRecord]
  simp [hm] at h

theorem actOnCause_planKept (c : Cause) (s : State) : PlanKept s (actOnCause c s) :=
  (takeHold_planKept ..).trans (.trans (t := sendHold c (takeHold c.isLine s)) (offerFrame_planKept ..)
    (.of_blocks rfl rfl rfl rfl rfl))

theorem addCause_planKept (c : Cause) (s : State) : PlanKept s (addCause c s) := .of_blocks rfl rfl rfl rfl rfl

theorem raiseCause_planKept (c : Cause) (s : State) : PlanKept s (raiseCause c s) := by
  simp only [raiseCause]
  (repeat' split)
  · exact .refl s
  · exact (addCause_planKept ..).trans (actOnCause_planKept ..)
  · exact (addCause_planKept ..).trans (settleOutputs_planKept _)

theorem endCause_planKept (c : Cause) (s : State) : PlanKept s (endCause c s) := by
  simp only [endCause]
  split
  · exact .refl s
  · exact (settleOutputs_planKept _).after (.of_blocks rfl rfl rfl rfl rfl)

theorem retakeCauses_planKept (s : State) : PlanKept s (retakeCauses s) := by
  have one : ∀ c s, PlanKept s (retakeCause s c) := fun c s => by
    simp only [retakeCause]
    split
    · exact actOnCause_planKept c s
    · exact .refl s
  exact (one _ _).trans ((one _ _).trans ((one _ _).trans ((one _ _).trans (one _ _))))

/-! ### Frames heard -/

/-- What a reception that is no taken ROLL leaves of a kept plan. -/
theorem PlanKept.receiving {s t : State} {x : Reception} (h : PlanKept s t) (hr : x.frame.cls = .roll → x.taken = false)
    (hn : ∀ n, x.round = some n → roundNumber s = some n) : PlanKept s (t.receiving (some x)) :=
  { h with listens := by rintro _ ⟨rfl⟩; exact .inr ⟨hr, hn⟩ }

/-- Hearing a frame that is no ROLL keeps the plan where its owner does. -/
theorem hear_planKept {k : FrameClass} {o : Origin} {p : List Byte} {owner : State → Judged} {s : State}
    (hk : k ≠ .roll) (h : PlanKept s (owner s).state) : PlanKept s (hear k o p owner s) := by
  simp only [hear]
  (repeat' split)
  · exact .refl s
  · exact h.receiving (fun e => absurd e hk) fun _ e => e
  · exact (PlanKept.refl s).receiving (fun _ => rfl) nofun

theorem hearCommand_planKept {code len : Nat} {o : Origin} {args : List Byte} {owner : State → Judged} {s : State}
    (h : PlanKept s (owner s).state) : PlanKept s (hearCommand code len o args owner s) := by
  refine hear_planKept (by decide) ?_
  split
  · exact h
  · exact refuse_planKept ..

theorem refused_planKept (r : Reason) (code : Nat) (s : State) : PlanKept s (refused r code s).state :=
  refuse_planKept ..

theorem gateEstop_planKept {code : Nat} {owner : State → Judged} {s : State} (h : PlanKept s (owner s).state) :
    PlanKept s (gateEstop code owner s).state := by
  simp only [gateEstop]
  split
  · exact refuse_planKept ..
  · exact h

theorem withEpoch_planKept {code : Nat} {args : List Byte} {owner : Nat → State → Judged} {s : State}
    (h : ∀ e, PlanKept s (owner e s).state) : PlanKept s (withEpoch code args owner s).state := by
  simp only [withEpoch]
  split
  · exact refuse_planKept ..
  · exact gateEstop_planKept (h _)

/-! ### Owners that keep the plan -/

theorem judgeHold_planKept (o : Origin) (p : List Byte) (s : State) : PlanKept s (judgeHold o p s).state := by
  simp only [judgeHold]
  (repeat' split)
  · exact .refl s
  · exact .refl s
  · exact .refl s
  · exact (takeHold_planKept ..).after (.of_blocks rfl rfl rfl rfl rfl)

theorem judgeAbandon_planKept (p : List Byte) (s : State) : PlanKept s (judgeAbandon p s).state := by
  simp only [judgeAbandon]
  (repeat' split)
  · exact ⟨rfl, rfl, rfl, rfl, rfl, .inl rfl, id, .of_same rfl⟩
  all_goals exact .refl s

theorem judgeGuide_planKept (p : List Byte) (s : State) : PlanKept s (judgeGuide p s).state := by
  have clipped : ∀ x, PlanKept s (reportClip x s) := fun x => by
    simp only [reportClip]
    split
    · exact .refl s
    · exact report_planKept ..
  simp only [judgeGuide]
  (repeat' split)
  · exact .refl s
  · exact .refl s
  · exact (clipped _).trans (.of_blocks rfl rfl rfl rfl rfl)
  · exact .refl s

theorem judgeTimeSet_planKept (p : List Byte) (s : State) : PlanKept s (judgeTimeSet p s).state := by
  simp only [judgeTimeSet]
  (repeat' split)
  · exact refuse_planKept ..
  · exact refuse_planKept ..
  · exact refuse_planKept ..
  · exact refuse_planKept ..
  · exact .of_blocks rfl rfl rfl rfl rfl

theorem setTrigger_planKept (k : TriggerKind) (e : Nat) (s : State) : PlanKept s (setTrigger k e s) :=
  ⟨rfl, rfl, rfl, rfl, rfl, .inl rfl, id, .of_same rfl⟩

theorem judgeGo_planKept (e : Nat) (s : State) : PlanKept s (judgeGo e s).state := by
  simp only [judgeGo]
  split
  · exact setTrigger_planKept ..
  · exact refused_planKept ..

theorem judgeBreak_planKept (e : Nat) (s : State) : PlanKept s (judgeBreak e s).state := by
  simp only [judgeBreak]
  split
  · exact setTrigger_planKept ..
  · exact refused_planKept ..

theorem judgeReturn_planKept (e : Nat) (s : State) : PlanKept s (judgeReturn e s).state := by
  simp only [judgeReturn]
  split
  · exact setTrigger_planKept ..
  · exact refused_planKept ..

theorem addressOffset_planKept (args : List Byte) (s : State) : PlanKept s (addressOffset args s).state := by
  simp only [addressOffset]
  (repeat' split)
  · exact refused_planKept ..
  · refine gateEstop_planKept ?_
    simp only [judgeOffset]
    split
    · exact .of_blocks rfl rfl rfl rfl rfl
    · exact refused_planKept ..
  · exact .refl s

theorem judgeStatusReq_planKept (args : List Byte) (s : State) : PlanKept s (judgeStatusReq args s).state := by
  simp only [judgeStatusReq]
  (repeat' split)
  · exact (drawSetpoint_planKept _).after (offerFrame_planKept ..)
  · exact offerFrame_planKept ..
  · exact refused_planKept ..

theorem judgeTraceSet_planKept (args : List Byte) (s : State) : PlanKept s (judgeTraceSet args s).state := by
  simp only [judgeTraceSet]
  split
  · exact refused_planKept ..
  · exact gateEstop_planKept (.of_blocks rfl rfl rfl rfl rfl)

theorem judgeTraceRead_planKept (args : List Byte) (s : State) : PlanKept s (judgeTraceRead args s).state := by
  have sent : ∀ (l : List (TraceEntry × Nat)) (s : State), PlanKept s (l.foldl sendTraceData s) := fun l => by
    induction l with
    | nil => exact .refl
    | cons e l ih => exact fun s => .trans (t := sendTraceData s e) (offerFrame_planKept ..) (ih _)
  simp only [judgeTraceRead]
  (repeat' split)
  · exact refused_planKept ..
  · exact refused_planKept ..
  · exact sent _ s

/-! ### Time and link seconds -/

theorem judgeLink_planKept (s : State) : PlanKept s (judgeLink s) := by
  simp only [judgeLink]
  (repeat' split)
  · exact (report_planKept ..).after (.of_blocks rfl rfl rfl rfl rfl)
  · exact (report_planKept ..).after (.of_blocks rfl rfl rfl rfl rfl)
  · exact .refl s

theorem SpanPort.gradeRuns_reception (p : SpanPort) : p.gradeRuns.reception = p.reception := by
  simp only [SpanPort.gradeRuns]
  split <;> rfl

theorem gradeLink_planKept (s : State) : PlanKept s (gradeLink s) := by
  simp only [gradeLink]
  split
  · exact .refl s
  · exact (judgeLink_planKept _).after (.of_blocks rfl rfl rfl rfl s.port.gradeRuns_reception)

theorem stepTo_planKept (n : Nat) (s : State) : PlanKept s (stepTo n s) := by
  have graded : PlanKept s (gradeLink (passedBy n s)) := (gradeLink_planKept _).after (.of_blocks rfl rfl rfl rfl rfl)
  refine .after (.of_blocks ?_ ?_ ?_ ?_ ?_) graded <;> simp [stepTo_eq]

theorem coastSecond_planKept (s : State) : PlanKept s (coastSecond s) := by
  simp only [coastSecond, enterLost]
  (repeat' split)
  · exact (raiseCause_planKept ..).after ((report_planKept ..).after (.of_blocks rfl rfl rfl rfl rfl))
  · exact .of_blocks rfl rfl rfl rfl rfl
  · exact .refl s

theorem closeSecond_planKept (s : State) : PlanKept s (closeSecond s) :=
  (coastSecond_planKept _).after ((gradeLink_planKept _).after (.of_blocks rfl rfl rfl rfl rfl))

theorem edgeByState_planKept (s : State) : PlanKept s (edgeByState s) := by
  have locked : PlanKept s (lockFromFree s) :=
    (endCause_planKept ..).after ((report_planKept ..).after (.after (t := stepTo _ s) (.of_blocks rfl rfl rfl rfl rfl)
      (stepTo_planKept _ s)))
  have regained : PlanKept s (regainLock s) :=
    (endCause_planKept ..).after ((report_planKept ..).after (.of_blocks rfl rfl rfl rfl rfl))
  have applied : ∀ n, PlanKept s (applySet n s) := fun n =>
    (stepTo_planKept (n * Config.second) s).trans (.of_blocks rfl rfl rfl rfl rfl)
  simp only [edgeByState, edgeFree, edgeLocked, edgeRegain]
  (repeat' split)
  any_goals exact .of_blocks rfl rfl rfl rfl rfl
  · exact locked
  · exact applied _
  · exact regained
  · exact regained

theorem judgeExpected_planKept (s : State) : PlanKept s (judgeExpected s) := by
  simp only [judgeExpected, enterCoast]
  (repeat' split)
  · exact .of_blocks rfl rfl rfl rfl rfl
  · exact (report_planKept ..).after (.of_blocks rfl rfl rfl rfl rfl)
  · exact .of_blocks rfl rfl rfl rfl rfl

/-! ### The port -/

@[simp] theorem SpanPort.expire_reception (p : SpanPort) (now : Nat) : (p.expire now).reception = p.reception := rfl

theorem SpanPort.beginAttempt_reception (p : SpanPort) (now : Nat) : (p.beginAttempt now).reception = p.reception := by
  simp only [SpanPort.beginAttempt]
  (repeat' split) <;> rfl

theorem SpanPort.endAttempt_reception (p : SpanPort) (r : MediumResult) (now : Nat) :
    (p.endAttempt r now).reception = p.reception := by
  simp only [SpanPort.endAttempt, SpanPort.settleAttempt, SpanPort.keepForRetry]
  (repeat' split) <;> rfl

/-- The reception ends. -/
theorem PlanKept.endsReception {s t : State} (h : PlanKept s t) {p : SpanPort} (hp : p.reception = none) :
    PlanKept s (t.withPort p) :=
  { h with listens := fun x hx => by rw [State.withPort_port, hp] at hx; cases hx }

/-! ### Motion ends and the servo tick -/

theorem reportMotionEnd_planKept (t : Nat) (s : State) : PlanKept s (reportMotionEnd t s) := by
  simp only [reportMotionEnd]
  split
  · exact .refl s
  refine ⟨rfl, rfl, rfl, rfl, rfl, .inl ?_, id, .of_same rfl⟩
  simp only [roundOf, State.withRound_round]
  rcases s.round.plan with _ | p
  · rfl
  cases p
  case observing x => cases x <;> rfl
  all_goals rfl

/-- A motion end is one of a mode that works on the current record. -/
theorem endMotion_planKept {s : State} (g : Int) (a t : Nat) (h : onRecord s.traj.motion = true) :
    PlanKept s (endMotion g a t s) :=
  (reportMotionEnd_planKept ..).after
    ((enterMotion_planKept (s := s.withTraj { s.traj with trackSetpoint := g }) fun _ => h).after
      (.of_blocks rfl rfl rfl rfl rfl))

theorem reportAbandonCause_planKept (c : AbandonCause) (s : State) : PlanKept s (reportAbandonCause c s) := by
  simp only [reportAbandonCause]
  split
  · exact (offerFrame_planKept ..).after ⟨rfl, rfl, rfl, rfl, rfl, .inl rfl, id, .of_same rfl⟩
  · exact .refl s

theorem trackingTick_planKept (rec : Record) (t : Nat) (s : State) : PlanKept s (trackingTick rec t s).state := by
  have saturated : ∀ (b : Trajectory) (s : State), PlanKept s (reportSaturated b s) := fun b s => by
    simp only [reportSaturated]
    split
    · exact (report_planKept ..).after (.of_blocks rfl rfl rfl rfl rfl)
    · exact .refl s
  have losses : ∀ (l : Bool) (s : State), PlanKept s (reportLosses l s) := fun l s => by
    simp only [reportLosses]
    (repeat' split)
    · exact (reportAbandonCause_planKept ..).trans (reportAbandonCause_planKept ..)
    · exact reportAbandonCause_planKept ..
    · exact reportAbandonCause_planKept ..
    · exact .refl s
  exact (losses ..).after ((saturated ..).after (.of_blocks rfl rfl rfl rfl rfl))

theorem tickOnRecord_planKept {t : Nat} {s : State} {w : TickWork} (h : tickOnRecord t s = some w) :
    PlanKept s w.state := by
  simp only [tickOnRecord, Option.map_eq_some_iff] at h
  obtain ⟨rec, -, rfl⟩ := h
  exact trackingTick_planKept ..

theorem tickWork_planKept {t : Nat} {s : State} {w : TickWork} (h : tickWork t s = some w) : PlanKept s w.state := by
  simp only [tickWork] at h
  cases hm : s.traj.motion <;> simp only [hm] at h
  case slewing p =>
    simp only [slewingTick] at h
    split at h
    · cases h; exact .of_blocks rfl rfl rfl rfl rfl
    · exact (endMotion_planKept _ _ _ (by rw [hm]; rfl)).trans (tickOnRecord_planKept h)
  case settling =>
    refine .trans ?_ (tickOnRecord_planKept h)
    split
    · exact enterMotion_planKept fun _ => by rw [hm]; rfl
    · exact .refl s
  case tracking => exact tickOnRecord_planKept h
  case stopping p =>
    cases h
    simp only [stoppingTick]
    split
    · exact .of_blocks rfl rfl rfl rfl rfl
    · exact (enterMotion_planKept (m := .standing _) nofun).trans (.of_blocks rfl rfl rfl rfl rfl)
  all_goals cases h; exact .of_blocks rfl rfl rfl rfl rfl

theorem closeTick_planKept (good : Bool) (n : Nat) (m : Motion) (l : List TickEvent) (s : State) :
    PlanKept s (closeTick good n m l s) := by
  have composed : ∀ (l : List TickEvent) (s : State), PlanKept s (l.foldl composeEvent s) := fun l => by
    induction l with
    | nil => exact .refl
    | cons e l ih => exact fun s => .trans (report_planKept ..) (ih (composeEvent s e))
  have encoder : PlanKept s (reportEncoder good n s) := by
    simp only [reportEncoder]
    (repeat' split)
    · exact raiseCause_planKept ..
    · exact endCause_planKept ..
    · exact .refl s
  have following : ∀ s, PlanKept s (reportFollowing m s) := fun s => by
    simp only [reportFollowing]
    (repeat' split)
    · exact raiseCause_planKept ..
    · exact endCause_planKept ..
    · exact .refl s
  exact encoder.trans ((following _).trans (composed l _))

theorem execServoTick_planKept {r : EncoderReply} {s t : State} (he : execServoTick r s = .next t) : PlanKept s t := by
  simp only [execServoTick, tickAt, liveTick] at he
  split at he
  · split at he
    · cases he; exact .of_blocks rfl rfl rfl rfl rfl
    · split at he
      · rename_i n hn
        cases he
        obtain ⟨w, hw, rfl⟩ := Option.map_eq_some_iff.mp hn
        obtain ⟨l, -, hl⟩ := countAndFinish_eq s.time.nextTick (goodPosition r) w
        rw [hl]
        have worked := tickWork_planKept hw
        have counted : PlanKept w.state (countedTick s.time.nextTick (goodPosition r) w) := .of_blocks rfl rfl rfl rfl rfl
        exact (closeTick_planKept ..).after (counted.after (worked.after (.of_blocks rfl rfl rfl rfl rfl)))
      · cases he
  · cases he; exact .refl s

theorem fixFor_planKept {rec : Record} {r : Release} {s : State} (h : onRecord s.traj.motion = true) :
    PlanKept s (fixFor rec r s) := by
  simp only [fixFor, beginProfile]
  (repeat' split)
  · exact endMotion_planKept _ _ _ h
  · exact enterMotion_planKept fun _ => h
  · exact (enterMotion_planKept fun _ => h).trans (report_planKept ..)

theorem execBrakeTimerExpiry_planKept {s t : State} (he : execBrakeTimerExpiry s = .next t) : PlanKept s t := by
  simp only [execBrakeTimerExpiry, expireBrake] at he
  (repeat' split at he) <;> cases he
  · rename_i hm _ _ _
    exact (fixFor_planKept (by simp [clearBrakeTimer, hm, onRecord])).after (.of_blocks rfl rfl rfl rfl rfl)
  · exact .of_blocks rfl rfl rfl rfl rfl
  · exact .refl s

/-! ### Dwell timing -/

theorem arrive_planKept (s : State) : PlanKept s (arrive s) := by
  simp only [arrive]
  split
  · refine ⟨rfl, rfl, rfl, rfl, rfl, .inr rfl, id, .of_same rfl⟩
  · exact .refl s

theorem beginDwell_planKept (d : DwellRecord) (s : State) : PlanKept s (beginDwell d s) := by
  refine (report_planKept ..).after ⟨rfl, rfl, rfl, rfl, rfl, .inl ?_, id, .of_same rfl⟩
  simp only [roundOf, State.withRound_round, planAtDwellStart]
  cases s.round.plan with
  | none => rfl
  | some p => cases p <;> cases d.motionEnded <;> rfl

/-! ### The commands -/

/-- The commands that keep the plan: neither a change of store or configuration, nor a round, a PROPOSE or a ROLL. -/
def keepsPlan : Instr → Bool
  | .hardReset .. => false
  | .configItem .. => false
  | .start .. => false
  | .restart .. => false
  | .planHead .. => false
  | .planSeg .. => false
  | .intakeTimeout => false
  | .planClear .. => false
  | .propose .. => false
  | .goRoll .. => false
  | .skipRoll .. => false
  | .responseFieldReport _ => false
  | .ownOutcome => false
  | .roundResult => false
  | .pendingTriggerEpoch => false
  | .dwellEnd => false
  | .abandonEpoch => false
  | _ => true

theorem exec_planKept {c : Instr} {s t : State} (hc : keepsPlan c = true) (he : exec c s = .next t) : PlanKept s t := by
  cases c <;> try cases hc
  case servoTick => exact execServoTick_planKept he
  case brakeTimerExpiry => exact execBrakeTimerExpiry_planKept he
  all_goals cases he
  case ppsEdge => exact (edgeByState_planKept s).trans (.of_blocks rfl rfl rfl rfl rfl)
  case unitCorrection => split; exacts [.of_blocks rfl rfl rfl rfl rfl, .refl s]
  case correctionSecondEnd => split; exacts [.of_blocks rfl rfl rfl rfl rfl, .refl s]
  case expectedSecondJudgement => split; exacts [judgeExpected_planKept s, .refl s]
  case regainRunMiss => split; exacts [.of_blocks rfl rfl rfl rfl rfl, .refl s]
  case linkSecondClose => split; exacts [closeSecond_planKept s, .refl s]
  case driveFaultAsserted =>
    exact (raiseCause_planKept ..).after (.of_blocks rfl rfl rfl rfl rfl)
  case driveFaultDeasserted =>
    exact (endCause_planKept ..).after (.of_blocks rfl rfl rfl rfl rfl)
  case emergencyStopAsserted =>
    exact (raiseCause_planKept ..).after (.of_blocks rfl rfl rfl rfl rfl)
  case emergencyStopDeasserted =>
    exact (endCause_planKept ..).after (.of_blocks rfl rfl rfl rfl rfl)
  case holdRepeat =>
    simp only [repeatHold]
    (repeat' split)
    · exact .trans (t := sendHold _ s) (offerFrame_planKept ..) (.of_blocks rfl rfl rfl rfl rfl)
    · exact .of_blocks rfl rfl rfl rfl rfl
    · exact .refl s
  case attemptStart => split; exacts [.refl s, .of_blocks rfl rfl rfl rfl (s.port.beginAttempt_reception _)]
  case attemptEnd => split; exacts [.refl s, .of_blocks rfl rfl rfl rfl (s.port.endAttempt_reception ..)]
  case txDeadline => exact .of_blocks rfl rfl rfl rfl rfl
  case damagedFrame =>
    (repeat' split)
    · exact .refl s
    · exact (closeSecond_planKept s).endsReception rfl
    · exact (PlanKept.refl s).endsReception rfl
  case unknownClassFrame k _ _ => exact hear_planKept (by cases k <;> decide) (.refl s)
  case reportFrameHeard k _ _ => exact hear_planKept (by cases k <;> decide) (.refl s)
  case hold => exact hear_planKept (by decide) (judgeHold_planKept ..)
  case abandon => exact hear_planKept (by decide) (judgeAbandon_planKept ..)
  case guide => exact hear_planKept (by decide) (judgeGuide_planKept ..)
  case timeSet => exact hear_planKept (by decide) (judgeTimeSet_planKept ..)
  case commandUnknownCode => exact hear_planKept (by decide) (refuse_planKept ..)
  case go => exact hearCommand_planKept (withEpoch_planKept fun e => judgeGo_planKept e s)
  case breakIn => exact hearCommand_planKept (withEpoch_planKept fun e => judgeBreak_planKept e s)
  case returnTo => exact hearCommand_planKept (withEpoch_planKept fun e => judgeReturn_planKept e s)
  case offset => exact hearCommand_planKept (addressOffset_planKept ..)
  case statusReq => exact hearCommand_planKept (judgeStatusReq_planKept ..)
  case traceSet => exact hearCommand_planKept (judgeTraceSet_planKept ..)
  case traceRead => exact hearCommand_planKept (judgeTraceRead_planKept ..)
  case arrival => split; exacts [arrive_planKept s, .refl s]
  case dwellStart => split; exacts [beginDwell_planKept .., .refl s]

end Sys2Proof.Machine
end

section
/-! What a command does to the plan store and to the configuration (R47 to R63, R172, R174, R177, R178). -/

namespace Sys2Proof.Machine

/-! ### What a round does to the store -/

/-- The store `q` comes from `p` by the operations of a round: a record is skipped, its wrap_k rewritten, its dwell_done
set, or it moves in (R61, R62, R75, R112, R115). -/
inductive PlanStore.Moves (p : PlanStore) : PlanStore → Prop
  | stays : Moves p p
  | remove {q : PlanStore} (n : Nat) : Moves p q → Moves p (q.remove n)
  | setWrap {q : PlanStore} (n : Nat) (k : Int) : Moves p q → Moves p (q.setWrap n k)
  | setDwellDone {q : PlanStore} : Moves p q → Moves p q.setDwellDone
  | moveIn {q : PlanStore} (n : Nat) : Moves p q → Moves p (q.moveIn n)

theorem PlanStore.Moves.trans {p q r : PlanStore} (h : p.Moves q) (k : q.Moves r) : p.Moves r := by
  induction k with
  | stays => exact h
  | remove n _ ih => exact ih.remove n
  | setWrap n w _ ih => exact ih.setWrap n w
  | setDwellDone _ ih => exact ih.setDwellDone
  | moveIn n _ ih => exact ih.moveIn n

@[simp] theorem skipRecord_store (q v : Nat) (s : State) : (skipRecord q v s).store = s.store.remove q := by
  simp only [skipRecord]
  split <;> simp

theorem selectTarget_moves (e n : Nat) (k : RoundKind) (s : State) :
    s.store.Moves (selectTarget e n k s).state.store := by
  induction n generalizing k s with
  | zero => exact .stays
  | succ n ih =>
    simp only [selectTarget]
    (repeat' split)
    · exact .stays
    · refine .trans ?_ (ih _ _)
      rw [skipRecord_store]
      exact .remove _ .stays
    · exact .stays

theorem writeWrap_moves (q : Nat) (k : Option Int) (s : State) : s.store.Moves (writeWrap q k s).store := by
  cases k with
  | none => exact .stays
  | some w => exact .setWrap q w .stays

theorem proposeFor_moves (e : Nat) (x : Selection) : x.state.store.Moves (proposeFor e x).store := by
  have written := writeWrap_moves ((x.record.map Record.seq).getD 0) (formProposal (reportPlanEmpty x) e x.record).wrap
    (reportPlanEmpty x).drawSetpoint
  rw [drawSetpoint_store, reportPlanEmpty_store] at written
  simp only [proposeFor, sendPropose, offerFrame_store, State.withRound_store]
  exact written

theorem startRound_moves (k : RoundKind) (e : Nat) (s : State) : s.store.Moves (startRound k e s).store :=
  .trans (by simpa using selectTarget_moves e _ k (roundBegun (leaveForRound s) e k)) (proposeFor_moves ..)

@[simp] theorem slewStartFor_store (rec : Record) (t d : Nat) (s : State) :
    (slewStartFor rec t d s).store = s.store.moveIn rec.seq := by
  simp [slewStartFor]

@[simp] theorem closeDwell_store (d : DwellRecord) (s : State) :
    (closeDwell d s).store =
      if PlanStore.slotHolds s.store.current d.seq then s.store.setDwellDone else s.store := by
  simp only [closeDwell]
  split <;> simp

/-! ### What a command does to the store -/

/-- What becomes of the plan store at a command: a round's operations, emptied, an intake opened, a segment stored, a
record committed, an intake discarded, a plan cleared. -/
inductive StoreStep (s t : State) : Prop
  | moved : s.store.Moves t.store → StoreStep s t
  | emptied : t.store = .afterReset → StoreStep s t
  | opened (h : Header) : s.conf.life = .run → s.store.intake = none → headerFails s h = none →
      t.store = (takeHeader h s).store → StoreStep s t
  | stored (i : Intake) (g : SegFields) : s.store.intake = some i → i.nextExpected + 1 < i.reserved →
      t.store = (storeSegment i g s).store → StoreStep s t
  | committed (i : Intake) (g : SegFields) : s.store.intake = some i → ¬i.nextExpected + 1 < i.reserved →
      t.store = commitRecord i.header (Track.snoc i.segments g.segment) s.store → StoreStep s t
  | discarded : t.store = discardIntake s.store → StoreStep s t
  | cleared : s.conf.life = .run → admitsClear s.round.plan = true → t.store = clearPlan s.store → StoreStep s t

theorem StoreStep.of_same {s t : State} (h : t.store = s.store) : StoreStep s t := .moved (h ▸ .stays)

/-- What becomes of the configuration at a command: kept, an item set outside RUN, RUN entered by START, or reset. -/
inductive ConfStep (s t : State) : Prop
  | kept : t.conf.life = s.conf.life → t.conf.straps = s.conf.straps → t.conf.items = s.conf.items → ConfStep s t
  | configured : s.conf.life ≠ .run → t.conf.life = s.conf.life → t.conf.straps = s.conf.straps → ConfStep s t
  | started : ownAddressMatches s = true → s.conf.life ≠ .strapFault → t.conf.life = .run →
      t.conf.straps = s.conf.straps → t.conf.items = s.conf.items → ConfStep s t
  | reset (x : Straps) : t.conf.life = .ofStraps x → t.conf.straps = x → t.store = .afterReset → ConfStep s t

/-- The two of them. -/
structure PlanStep (s t : State) : Prop where
  store : StoreStep s t
  conf : ConfStep s t

theorem PlanStep.of_conf {s t : State} (h : StoreStep s t) (hc : t.conf = s.conf) : PlanStep s t :=
  ⟨h, .kept (by rw [hc]) (by rw [hc]) (by rw [hc])⟩

theorem PlanKept.planStep {s t : State} (h : PlanKept s t) : PlanStep s t :=
  ⟨.of_same h.store, .kept h.life h.straps h.items⟩

/-- What keeps the store, the life state, the straps and the items adds nothing. -/
theorem PlanStep.of_same {s t u : State} (h : PlanStep s t) (hs : u.store = t.store) (hl : u.conf.life = t.conf.life)
    (hx : u.conf.straps = t.conf.straps) (hi : u.conf.items = t.conf.items) : PlanStep s u := by
  obtain ⟨hstore, hconf⟩ := h
  refine ⟨?_, ?_⟩
  · cases hstore with
    | moved h => exact .moved (hs ▸ h)
    | emptied h => exact .emptied (hs ▸ h)
    | opened x h1 h2 h3 h => exact .opened x h1 h2 h3 (hs ▸ h)
    | stored i g h1 h2 h => exact .stored i g h1 h2 (hs ▸ h)
    | committed i g h1 h2 h => exact .committed i g h1 h2 (hs ▸ h)
    | discarded h => exact .discarded (hs ▸ h)
    | cleared h1 h2 h => exact .cleared h1 h2 (hs ▸ h)
  · cases hconf with
    | kept h1 h2 h3 => exact .kept (hl ▸ h1) (hx ▸ h2) (hi ▸ h3)
    | configured h h1 h2 => exact .configured h (hl ▸ h1) (hx ▸ h2)
    | started h h0 h1 h2 h3 => exact .started h h0 (hl ▸ h1) (hx ▸ h2) (hi ▸ h3)
    | reset x h1 h2 h3 => exact .reset x (hl ▸ h1) (hx ▸ h2) (hs ▸ h3)

theorem PlanStep.after {s t u : State} (k : PlanKept t u) (h : PlanStep s t) : PlanStep s u :=
  h.of_same k.store k.life k.straps k.items

/-! ### Owners -/

/-- A frame heard does to the plan what its owner does; STRAP_FAULT hears none. -/
theorem hear_planStep {k : FrameClass} {o : Origin} {p : List Byte} {owner : State → Judged} {s : State}
    (h : s.conf.life ≠ .strapFault → PlanStep s (owner s).state) : PlanStep s (hear k o p owner s) := by
  simp only [hear]
  split
  · exact (PlanKept.refl s).planStep
  rename_i hf
  split
  · exact (h (by simpa [State.inStrapFault] using hf)).of_same rfl rfl rfl rfl
  · exact (PlanKept.refl s).planStep.of_same rfl rfl rfl rfl

theorem hearCommand_planStep {code len : Nat} {o : Origin} {args : List Byte} {owner : State → Judged} {s : State}
    (h : s.conf.life ≠ .strapFault → PlanStep s (owner s).state) : PlanStep s (hearCommand code len o args owner s) := by
  refine hear_planStep fun hl => ?_
  split
  · exact h hl
  · exact (refuse_planKept ..).planStep

theorem gateEstop_planStep {code : Nat} {owner : State → Judged} {s : State} (h : PlanStep s (owner s).state) :
    PlanStep s (gateEstop code owner s).state := by
  simp only [gateEstop]
  split
  · exact (refuse_planKept ..).planStep
  · exact h

theorem judgePlanHead_planStep (p : List Byte) (s : State) : PlanStep s (judgePlanHead p s).state := by
  have refusal : ∀ r q, PlanStep s (refuseHead r q s).state := fun r q => (refuse_planKept ..).planStep
  simp only [judgePlanHead, judgeHeader]
  (repeat' split)
  · exact refusal ..
  · exact refusal ..
  · exact refusal ..
  · exact refusal ..
  · exact refusal ..
  · exact (PlanKept.refl s).planStep
  · exact refusal ..
  · exact refusal ..
  · exact .of_conf (.opened _ (by simp_all [State.inRun]) ‹_› ‹_› rfl) rfl

theorem judgePlanSeg_planStep (p : List Byte) (s : State) : PlanStep s (judgePlanSeg p s).state := by
  simp only [judgePlanSeg, judgeOpenSegment, finishIntake]
  (repeat' split)
  · exact (PlanKept.refl s).planStep
  · exact (PlanKept.refl s).planStep
  · exact .of_conf (.stored _ _ ‹_› ‹_› rfl) rfl
  · exact .after (report_planKept ..) (.of_conf (.committed _ _ ‹_› ‹_› rfl) rfl)
  · exact .after (refuse_planKept ..) (.of_conf (.discarded rfl) rfl)
  · exact (PlanKept.refl s).planStep
  · exact (PlanKept.refl s).planStep
  · exact (PlanKept.refl s).planStep
  · exact (PlanKept.refl s).planStep

theorem judgePlanClear_planStep (s : State) : PlanStep s (judgePlanClear s).state := by
  simp only [judgePlanClear]
  split
  · rename_i h
    simp only [Bool.and_eq_true, State.inRun, decide_eq_true_eq] at h
    exact .after (report_planKept ..) (.of_conf (.cleared h.1 h.2 rfl) rfl)
  · exact (refused_planKept ..).planStep

theorem judgeConfig_planStep (p : List Byte) (s : State) : PlanStep s (judgeConfig p s).state := by
  simp only [judgeConfig]
  (repeat' split)
  · exact (refuse_planKept ..).planStep
  · exact (refuse_planKept ..).planStep
  · exact (refuse_planKept ..).planStep
  · exact (refuse_planKept ..).planStep
  · rename_i i hi
    refine ⟨.of_same rfl, .configured (by simp_all [State.inRun]) (takeItem_life ..) ?_⟩
    rw [take_state, takeItem_conf, putItem_conf]

theorem judgeStart_planStep {s : State} (hl : s.conf.life ≠ .strapFault) : PlanStep s (judgeStart s).state := by
  simp only [judgeStart]
  split
  · exact (refused_planKept ..).planStep
  rename_i hf
  have hm : ownAddressMatches s = true := by
    simp only [startFails] at hf
    (repeat' split at hf) <;> simp_all
  exact .after (retakeCauses_planKept _) ⟨.of_same rfl, .started hm hl rfl rfl rfl⟩

theorem judgeRestart_planStep (s : State) : PlanStep s (judgeRestart s).state := by
  simp only [judgeRestart]
  split
  · exact .after (retakeCauses_planKept _) (.of_conf (.emptied (by simp [clearedBlocks])) (by simp [clearedBlocks]))
  · exact (refused_planKept ..).planStep

/-! ### The round -/

theorem judgePropose_planStep (o : Origin) (p : List Byte) (s : State) : PlanStep s (judgePropose o p s).state := by
  simp only [judgePropose]
  (repeat' split)
  · exact .of_conf (.of_same (by simp)) (by simp)
  all_goals exact (PlanKept.refl s).planStep

theorem judgeRoll_planStep (p : List Byte) (s : State) : PlanStep s (judgeRoll p s).state := by
  simp only [judgeRoll, judgeGoRoll, judgeSkipRoll]
  (repeat' split)
  · exact .of_conf (.of_same (by simp)) (by simp)
  · exact (PlanKept.refl s).planStep
  · exact .of_conf (.of_same (by simp)) (by simp)
  all_goals exact (PlanKept.refl s).planStep

theorem completeRoll_planStep (x : Reception) (b : BitVec 15) (s : State) : PlanStep s (completeRoll x b s) := by
  simp only [completeRoll, recordGo, recordSkip]
  (repeat' split)
  all_goals exact .of_conf (.of_same (by simp)) (by simp)

theorem settleOutcome_planStep (r : RoundRecord) (s : State) : PlanStep s (settleOutcome r s) := by
  simp only [settleOutcome, sendRoll]
  split
  all_goals exact .of_conf (.of_same (by simp)) (by simp)

/-- A round that starts moves records of the store and keeps the configuration. -/
theorem startRound_planStep (k : RoundKind) (e : Nat) {s u : State} (h : s.store.Moves u.store) (hc : u.conf = s.conf) :
    PlanStep s (startRound k e u) :=
  .of_conf (.moved (h.trans (startRound_moves ..))) (by simp [hc])

theorem execRoundResult_planStep {s t : State} (he : execRoundResult s = .next t) : PlanStep s t := by
  have skipped : ∀ v r, PlanStep s (skipAndReRound v r s) := fun v r =>
    startRound_planStep _ _ (by rw [skipRecord_store]; exact .remove _ .stays) (by simp)
  simp only [execRoundResult, roundResult, succeed] at he
  (repeat' split at he) <;> cases he
  · exact skipped ..
  · exact .of_conf (.of_same (by simp)) (by simp)
  · exact skipped ..
  · exact .of_conf (.moved (by rw [slewStartFor_store]; exact .moveIn _ .stays)) (by simp)
  · exact (PlanKept.refl s).planStep

theorem endDwell_planStep (d : DwellRecord) (s : State) : PlanStep s (endDwell d s) := by
  have closed : s.store.Moves (closeDwell d s).store := by
    rw [closeDwell_store]
    split
    · exact .setDwellDone .stays
    · exact .stays
  simp only [endDwell]
  split
  · exact startRound_planStep _ _ closed (by simp)
  · exact .of_conf (.moved closed) (by simp)

/-- What every command does to store and configuration. -/
theorem exec_planStep {c : Instr} {s t : State} (he : exec c s = .next t) : PlanStep s t := by
  cases c
  any_goals exact (exec_planKept rfl he).planStep
  case roundResult => exact execRoundResult_planStep he
  all_goals cases he
  case hardReset a r => exact ⟨.emptied rfl, .reset ⟨a, r⟩ rfl rfl rfl⟩
  case configItem => exact hear_planStep fun _ => judgeConfig_planStep ..
  case start => exact hearCommand_planStep fun hl => gateEstop_planStep (judgeStart_planStep hl)
  case restart => exact hearCommand_planStep fun _ => gateEstop_planStep (judgeRestart_planStep s)
  case planHead => exact hear_planStep fun _ => judgePlanHead_planStep ..
  case planSeg => exact hear_planStep fun _ => judgePlanSeg_planStep ..
  case intakeTimeout =>
    simp only [expireIntake]
    (repeat' split)
    · exact .after (report_planKept ..) (.of_conf (.discarded rfl) rfl)
    all_goals exact (PlanKept.refl s).planStep
  case planClear => exact hearCommand_planStep fun _ => gateEstop_planStep (judgePlanClear_planStep s)
  case propose => exact hear_planStep fun _ => judgePropose_planStep ..
  case goRoll => exact hear_planStep fun _ => judgeRoll_planStep ..
  case skipRoll => exact hear_planStep fun _ => judgeRoll_planStep ..
  case responseFieldReport =>
    split
    · exact (completeRoll_planStep _ _ s).of_same rfl rfl rfl rfl
    · exact (PlanKept.refl s).planStep
  case ownOutcome => split; exacts [settleOutcome_planStep _ s, (PlanKept.refl s).planStep]
  case pendingTriggerEpoch => split; exacts [startRound_planStep _ _ .stays rfl, (PlanKept.refl s).planStep]
  case dwellEnd => split; exacts [endDwell_planStep _ s, (PlanKept.refl s).planStep]
  case abandonEpoch =>
    split
    · exact startRound_planStep _ _ (by simpa using .setDwellDone .stays) (by simp)
    · exact (PlanKept.refl s).planStep

end Sys2Proof.Machine
end

section
/-! The segment pool, the order of the plan and the empty store outside RUN through every step (R47 to R49, R63); hence
O8, O11 and O13. -/

namespace Sys2Proof.Machine

/-! ### The operations of a round (R61, R62, R75, R112, R115) -/

/-- The store `q` holds no record that `p` does not hold, pending and excursion records in the places they had, and
owns or has free as many entries as `p`. -/
structure PlanStore.Shrinks (p q : PlanStore) : Prop where
  queue : (q.queue.map Record.header).Sublist (p.queue.map Record.header)
  held : ∀ n, q.heldSeqs.count n ≤ p.heldSeqs.count n
  ret : ∀ r, q.ret = some r → (∃ r', p.ret = some r' ∧ r.header = r'.header) ∨ r.header.kind = .planned
  excursion : ∀ r, q.excursion = some r → ∃ r', p.excursion = some r' ∧ r.header = r'.header
  intake : q.intake = p.intake
  lastAppended : q.lastAppended = p.lastAppended
  pool : q.owned + q.free = p.owned + p.free

theorem PlanStore.Shrinks.refl (p : PlanStore) : p.Shrinks p :=
  ⟨.refl _, fun _ => le_rfl, fun r h => .inl ⟨r, h, rfl⟩, fun r h => ⟨r, h, rfl⟩, rfl, rfl, rfl⟩

theorem PlanStore.Shrinks.trans {p q r : PlanStore} (h : p.Shrinks q) (k : q.Shrinks r) : p.Shrinks r where
  queue := k.queue.trans h.queue
  held := fun n => (k.held n).trans (h.held n)
  ret := fun x hx => by
    rcases k.ret x hx with ⟨y, hy, hxy⟩ | hk
    · rw [hxy]; exact h.ret y hy
    · exact .inr hk
  excursion := fun x hx => by
    obtain ⟨y, hy, hxy⟩ := k.excursion x hx
    rw [hxy]; exact h.excursion y hy
  intake := k.intake.trans h.intake
  lastAppended := k.lastAppended.trans h.lastAppended
  pool := k.pool.trans h.pool

theorem dropSlot_of_some {slot : Option Record} {n : Nat} {r : Record} (h : PlanStore.dropSlot slot n = some r) :
    slot = some r := by
  simp only [PlanStore.dropSlot] at h
  split at h
  · cases h
  · exact h

theorem queueSize_filter (q : List Record) (f : Record → Bool) :
    PlanStore.queueSize (q.filter fun r => !f r) + PlanStore.queueSize (q.filter f) = PlanStore.queueSize q := by
  induction q with
  | nil => rfl
  | cons r q ih =>
    simp only [PlanStore.queueSize] at ih ⊢
    cases h : f r <;> simp [h] <;> omega

theorem slotSize_dropSlot (slot : Option Record) (n : Nat) :
    PlanStore.slotSize (PlanStore.dropSlot slot n) + (if PlanStore.slotHolds slot n then PlanStore.slotSize slot else 0) =
      PlanStore.slotSize slot := by
  simp only [PlanStore.dropSlot]
  split <;> simp [PlanStore.slotSize]

theorem count_dropSlot (slot : Option Record) (n m : Nat) :
    ((PlanStore.dropSlot slot n).map Record.seq).toList.count m ≤ (slot.map Record.seq).toList.count m := by
  simp only [PlanStore.dropSlot]
  split <;> simp

theorem PlanStore.shrinks_remove (p : PlanStore) (n : Nat) : p.Shrinks (p.remove n) where
  queue := List.filter_sublist.map _
  held := fun m => by
    have hq := (List.Sublist.map Record.seq
      (List.filter_sublist (p := fun r => !decide (Record.seq r = n)) (l := p.queue))).count_le m
    have hc := count_dropSlot p.current n m
    have hr := count_dropSlot p.ret n m
    have he := count_dropSlot p.excursion n m
    simp only [heldSeqs, remove, List.count_append]
    omega
  ret := fun r h => .inl ⟨r, dropSlot_of_some h, rfl⟩
  excursion := fun r h => ⟨r, dropSlot_of_some h, rfl⟩
  intake := rfl
  lastAppended := rfl
  pool := by
    have hq := queueSize_filter p.queue fun r => decide (r.seq = n)
    have hc := slotSize_dropSlot p.current n
    have hr := slotSize_dropSlot p.ret n
    have he := slotSize_dropSlot p.excursion n
    simp only [owned, remove]
    omega

@[simp] theorem rewrap_header (n : Nat) (k : Int) (r : Record) : (PlanStore.rewrap n k r).header = r.header := by
  simp only [PlanStore.rewrap]
  split <;> rfl

@[simp] theorem rewrap_seq (n : Nat) (k : Int) (r : Record) : (PlanStore.rewrap n k r).seq = r.seq :=
  congrArg Header.seq (rewrap_header n k r)

@[simp] theorem rewrap_track (n : Nat) (k : Int) (r : Record) : (PlanStore.rewrap n k r).track = r.track := by
  simp only [PlanStore.rewrap]
  split <;> rfl

theorem slotSize_map {f : Record → Record} (h : ∀ r, (f r).track = r.track) (slot : Option Record) :
    PlanStore.slotSize (slot.map f) = PlanStore.slotSize slot := by
  cases slot <;> simp [PlanStore.slotSize, h]

theorem map_map_of_eq {α : Type} {f : Record → Record} {g : Record → α} (h : ∀ r, g (f r) = g r) (q : List Record) :
    (q.map f).map g = q.map g := by
  simp [Function.comp_def, h]

theorem seq_slot_map {f : Record → Record} (h : ∀ r, (f r).seq = r.seq) (slot : Option Record) :
    (slot.map f).map Record.seq = slot.map Record.seq := by
  cases slot <;> simp [h]

theorem PlanStore.shrinks_setWrap (p : PlanStore) (n : Nat) (k : Int) : p.Shrinks (p.setWrap n k) where
  queue := (map_map_of_eq (rewrap_header n k) p.queue) ▸ .refl _
  held := fun m => by
    simp only [heldSeqs, setWrap, map_map_of_eq (rewrap_seq n k), seq_slot_map (rewrap_seq n k), le_rfl]
  ret := fun r h => by
    obtain ⟨x, hx, rfl⟩ := Option.map_eq_some_iff.mp h
    exact .inl ⟨x, hx, rewrap_header ..⟩
  excursion := fun r h => by
    obtain ⟨x, hx, rfl⟩ := Option.map_eq_some_iff.mp h
    exact ⟨x, hx, rewrap_header ..⟩
  intake := rfl
  lastAppended := rfl
  pool := by
    have hs : queueSize (p.queue.map (rewrap n k)) = queueSize p.queue :=
      congrArg List.sum (map_map_of_eq (g := fun r => r.track.size) (fun r => by rw [rewrap_track]) p.queue)
    simp only [owned, setWrap, hs, slotSize_map (rewrap_track n k)]

theorem PlanStore.shrinks_setDwellDone (p : PlanStore) : p.Shrinks p.setDwellDone where
  queue := .refl _
  held := fun m => by
    simp only [heldSeqs, setDwellDone, seq_slot_map (f := fun r => { r with dwellDone := true }) (fun _ => rfl), le_rfl]
  ret := fun r h => .inl ⟨r, h, rfl⟩
  excursion := fun r h => ⟨r, h, rfl⟩
  intake := rfl
  lastAppended := rfl
  pool := by
    simp only [owned, setDwellDone, slotSize_map (f := fun r => { r with dwellDone := true }) (fun _ => rfl)]

/-- The record of a seq leaves the queue of its size. -/
theorem queueSize_erase {q : List Record} {r : Record} (h : r ∈ q) :
    PlanStore.queueSize (q.erase r) + r.track.size = PlanStore.queueSize q := by
  have := ((List.perm_cons_erase h).map fun r => r.track.size).sum_eq
  simp only [PlanStore.queueSize, this, List.map_cons, List.sum_cons]
  omega

theorem PlanStore.shrinks_moveIn (p : PlanStore) (n : Nat) : p.Shrinks (p.moveIn n) := by
  simp only [moveIn]
  split
  · exact .refl p
  split
  · refine ⟨.refl _, fun m => ?_, nofun, fun r h => ⟨r, h, rfl⟩, rfl, rfl, ?_⟩
    · simp [heldSeqs, List.count_append]
    · simp only [owned, slotSize]
      omega
  split
  · refine ⟨.refl _, fun m => ?_, fun r h => ?_, nofun, rfl, rfl, ?_⟩
    · simp only [heldSeqs, List.count_append, settleForExcursion]
      (repeat' split) <;> simp [*] <;> omega
    · simp only [settleForExcursion] at h
      (repeat' split at h)
      · rename_i hk
        cases h
        exact .inr hk.1
      all_goals exact .inl ⟨r, h, rfl⟩
    · simp only [owned, settleForExcursion]
      (repeat' split) <;> simp [slotSize, *] <;> omega
  split
  · rename_i r hr
    have hm := List.mem_of_find?_eq_some hr
    refine ⟨List.erase_sublist.map _, fun m => ?_, fun r h => .inl ⟨r, h, rfl⟩, fun r h => ⟨r, h, rfl⟩, rfl, rfl, ?_⟩
    · have := ((List.perm_cons_erase hm).map Record.seq).count_eq m
      simp only [heldSeqs, List.count_append, this, List.map_cons, List.count_cons, Option.map_some, Option.toList_some,
        List.count_nil]
      omega
    · have := queueSize_erase hm
      simp only [owned, slotSize] at this ⊢
      omega
  · exact .refl p

theorem PlanStore.Moves.shrinks {p q : PlanStore} (h : p.Moves q) : p.Shrinks q := by
  induction h with
  | stays => exact .refl p
  | remove n _ ih => exact ih.trans (shrinks_remove _ n)
  | setWrap n k _ ih => exact ih.trans (shrinks_setWrap _ n k)
  | setDwellDone _ ih => exact ih.trans (shrinks_setDwellDone _)
  | moveIn n _ ih => exact ih.trans (shrinks_moveIn _ n)

theorem PlanStore.Shrinks.mem_heldSeqs {p q : PlanStore} (h : p.Shrinks q) {n : Nat} (hn : n ∈ q.heldSeqs) :
    n ∈ p.heldSeqs :=
  List.count_pos_iff.mp ((List.count_pos_iff.mpr hn).trans_le (h.held n))

theorem PlanStore.Shrinks.excursion_none {p q : PlanStore} (h : p.Shrinks q) (he : p.excursion = none) :
    q.excursion = none := by
  by_contra hq
  obtain ⟨r, hr⟩ := Option.ne_none_iff_exists'.mp hq
  obtain ⟨r', hr', -⟩ := h.excursion r hr
  cases he.symm.trans hr'

/-- Nothing moves in an empty store. -/
theorem PlanStore.Moves.of_afterReset {q : PlanStore} (h : PlanStore.afterReset.Moves q) : q = .afterReset := by
  induction h with
  | stays => rfl
  | remove n _ ih => subst ih; rfl
  | setWrap n k _ ih => subst ih; rfl
  | setDwellDone _ ih => subst ih; rfl
  | moveIn n _ ih => subst ih; rfl

/-! ### A step's change of the plan -/

/-- The commands that wait and the free draws are no part of the plan. -/
theorem PlanStep.of_source {s t : State} (x : List Instr) (n : Nat)
    (h : PlanStep ((s.withPending x).withFreeDraws n) t) : PlanStep s t := by
  obtain ⟨hs, hc⟩ := h
  constructor
  · cases hs with
    | moved h => exact .moved h
    | emptied h => exact .emptied h
    | opened x h1 h2 h3 h => exact .opened x h1 h2 h3 h
    | stored i g h1 h2 h => exact .stored i g h1 h2 h
    | committed i g h1 h2 h => exact .committed i g h1 h2 h
    | discarded h => exact .discarded h
    | cleared h1 h2 h => exact .cleared h1 h2 h
  · cases hc with
    | kept h1 h2 h3 => exact .kept h1 h2 h3
    | configured h h1 h2 => exact .configured h h1 h2
    | started h h0 h1 h2 h3 => exact .started h h0 h1 h2 h3
    | reset x h1 h2 h3 => exact .reset x h1 h2 h3

theorem step_planStep {s t : State} (he : step s = .next t) : PlanStep s t := by
  cases hp : s.pending with
  | cons c rest =>
    rw [step_of_waiting hp] at he
    exact .of_source rest s.freeDraws (exec_planStep he)
  | nil =>
    rw [step_of_empty hp] at he
    cases hd : due s with
    | none =>
      rw [idle_of_none hd] at he
      cases he
      exact PlanKept.planStep (t := passMicrosecond s) (.of_blocks rfl rfl rfl rfl rfl)
    | some c =>
      rw [idle_of_due hd] at he
      have hdraw : drawReply c s = (s.withPending s.pending).withFreeDraws (drawReply c s).freeDraws := by cases c <;> rfl
      exact .of_source _ _ (hdraw ▸ exec_planStep he)

/-! ### An admitted header (R50 steps 4 to 9) -/

/-- What a header that no check refuses satisfies. -/
structure HeaderFits (s : State) (h : Header) : Prop where
  unselected : h.kind = .excursion → excursionSelected s = false
  ordered : h.kind = .planned → s.store.lastAppended < h.seq
  new : h.seq ∉ s.store.heldSeqs
  counted : rosterCountZero s.items h.counts = false
  room : h.kind = .planned → s.store.queue.length < 32
  entries : ownCount s h.counts ≤ freeFor s h.kind

theorem headerFits_of_none {s : State} {h : Header} (hf : headerFails s h = none) : HeaderFits s h := by
  simp only [headerFails] at hf
  split at hf; · cases hf
  rename_i hsel
  split at hf; · cases hf
  rename_i hord
  split at hf; · cases hf
  rename_i hnew
  split at hf; · cases hf
  rename_i hrange
  split at hf; · cases hf
  rename_i hroom
  split at hf; · cases hf
  rename_i hfree
  simp only [not_or, Bool.not_eq_true] at hrange
  obtain ⟨-, -, -, -, hcount⟩ := hrange
  refine ⟨fun hk => ?_, fun hk => ?_, fun hm => hnew ((s.store.holds_iff _).mpr hm), hcount, fun hk => ?_, by omega⟩
  · simpa using not_and.mp hsel hk
  · have := not_and.mp hord hk
    omega
  · have := not_and.mp hroom hk
    simp only [Config.pendingCapacity] at this
    omega

/-- The store without its loaded excursion, when the header replaces it (R52). -/
def makeRoom (h : Header) (p : PlanStore) : PlanStore := if h.kind = .excursion then discardExcursion p else p

theorem takeHeader_eq (h : Header) (s : State) :
    takeHeader h s = s.withStore (openIntake h (ownCount s h.counts) s.now (makeRoom h s.store)) := rfl

theorem makeRoom_shrinks (h : Header) (p : PlanStore) : p.Shrinks (makeRoom h p) := by
  rw [makeRoom]
  split
  · refine ⟨.refl _, fun n => ?_, fun r hr => .inl ⟨r, hr, rfl⟩, nofun, rfl, rfl, ?_⟩
    · simp [PlanStore.heldSeqs, discardExcursion, List.count_append]
    · simp only [PlanStore.owned, discardExcursion, PlanStore.slotSize]
      omega
  · exact .refl p

theorem makeRoom_free (h : Header) (s : State) : (makeRoom h s.store).free = freeFor s h.kind := by
  rw [makeRoom, freeFor]
  split <;> rfl

theorem makeRoom_excursion {h : Header} (hk : h.kind = .excursion) (p : PlanStore) : (makeRoom h p).excursion = none := by
  rw [makeRoom, if_pos hk]
  rfl

/-- Reserving entries of the free ones keeps their sum (R49, R51). -/
theorem openIntake_conserves {h : Header} {n now : Nat} {p : PlanStore} (hi : p.intake = none) (hn : n ≤ p.free) :
    (openIntake h n now p).owned + (openIntake h n now p).free = p.owned + p.free := by
  simp only [PlanStore.owned, openIntake, hi]
  omega

/-! ### The intake's end (R49, R56) -/

theorem Track.size_snoc (l : List Segment) (x : Segment) : (Track.snoc l x).size = l.length + 1 := by
  rw [← Track.length_segments, Track.segments_snoc, List.length_append]
  rfl

theorem discardIntake_intake (p : PlanStore) : (discardIntake p).intake = none := by
  rcases h : p.intake with _ | i <;> simp [discardIntake, h]

theorem discardIntake_places (p : PlanStore) :
    (discardIntake p).queue = p.queue ∧ (discardIntake p).current = p.current ∧ (discardIntake p).ret = p.ret ∧
      (discardIntake p).excursion = p.excursion ∧ (discardIntake p).lastAppended = p.lastAppended := by
  rcases h : p.intake with _ | i <;> simp [discardIntake, h]

theorem discardIntake_conserves (p : PlanStore) :
    (discardIntake p).owned + (discardIntake p).free = p.owned + p.free := by
  rcases h : p.intake with _ | i
  · simp [discardIntake, h]
  · simp [discardIntake, h, PlanStore.owned]
    omega

theorem commitRecord_intake (h : Header) (t : Track) (p : PlanStore) : (commitRecord h t p).intake = none := by
  simp only [commitRecord]
  split <;> rfl

/-- The record owns the entries that its intake held reserved. -/
theorem commitRecord_conserves {h : Header} {t : Track} {p : PlanStore} {i : Intake} (hi : p.intake = some i)
    (hn : t.size = i.reserved) (he : h.kind = .excursion → p.excursion = none) :
    (commitRecord h t p).owned + (commitRecord h t p).free = p.owned + p.free := by
  rcases hk : h.kind with _ | _
  · simp [commitRecord, hk, PlanStore.owned, PlanStore.queueSize, hi, hn]
    omega
  · simp [commitRecord, hk, PlanStore.owned, PlanStore.slotSize, he hk, hi, hn]

theorem clearPlan_intake (p : PlanStore) : (clearPlan p).intake = none := by
  rw [clearPlan_eq]

/-! ### The segment pool (R49) -/

theorem ownCount_congr {s t : State} (h : t.conf.straps = s.conf.straps) (x : PerRole Nat) :
    ownCount t x = ownCount s x := by
  simp only [ownCount, State.ownRole, h]

/-- The own count of a header that passes is not 0: the own role has a roster address (R50 step 7). -/
theorem ownCount_pos {s : State} {x : PerRole Nat} (hr : ∃ r, s.ownRole = some r ∧ s.items.addr.get r ≠ 15)
    (hc : rosterCountZero s.items x = false) : 0 < ownCount s x := by
  obtain ⟨r, hr, ha⟩ := hr
  have hm : r ∈ allRoles := by cases r <;> decide
  simp only [rosterCountZero, List.any_eq_false, Bool.and_eq_true, Items.inRoster, decide_eq_true_eq, not_and] at hc
  rw [ownCount, hr]
  exact Nat.pos_of_ne_zero (hc r hm ha)

/-- What the pool asks of the store, with the own count of a header. -/
structure PoolKept (count : PerRole Nat → Nat) (p : PlanStore) : Prop where
  conserved : p.owned + p.free = 128
  intake : ∀ i, p.intake = some i →
    i.reserved = count i.header.counts ∧ i.segments.length = i.nextExpected ∧ i.nextExpected < i.reserved ∧
    (i.header.kind = .excursion → p.excursion = none)

theorem PoolKept.closed {count : PerRole Nat → Nat} {p : PlanStore} (h : p.owned + p.free = 128) (hi : p.intake = none) :
    PoolKept count p := ⟨h, fun i h => by rw [hi] at h; cases h⟩

theorem poolKept_afterReset (count : PerRole Nat → Nat) : PoolKept count .afterReset := .closed rfl rfl

theorem StoreStep.poolKept {s t : State} (h : StoreStep s t) (hp : s.Pooled) : PoolKept (ownCount s) t.store := by
  have conserved := hp.conserved
  cases h with
  | moved h =>
    have hs := h.shrinks
    refine ⟨by have := hs.pool; omega, fun i hi => ?_⟩
    obtain ⟨h1, h2, h3, h4⟩ := hp.intake i (hs.intake ▸ hi)
    exact ⟨h1, h2, h3, fun hk => hs.excursion_none (h4 hk)⟩
  | emptied h => exact h ▸ poolKept_afterReset _
  | opened x hl hi hf h =>
    have fits := headerFits_of_none hf
    have hs := makeRoom_shrinks x s.store
    have hn : ownCount s x.counts ≤ (makeRoom x s.store).free := makeRoom_free x s ▸ fits.entries
    rw [h, takeHeader_eq, State.withStore_store]
    refine ⟨?_, ?_⟩
    · have := openIntake_conserves (h := x) (now := s.now) (hs.intake.trans hi) hn
      have := hs.pool
      omega
    · rintro _ ⟨rfl⟩
      exact ⟨rfl, rfl, ownCount_pos (hp.roster hl) fits.counted, fun hk => makeRoom_excursion hk _⟩
  | stored i g hi hn h =>
    obtain ⟨h1, h2, h3, h4⟩ := hp.intake i hi
    rw [h, storeSegment, State.withStore_store]
    refine ⟨?_, ?_⟩
    · simpa [PlanStore.owned, hi] using conserved
    · rintro _ ⟨rfl⟩
      exact ⟨h1, by simp [h2], hn, h4⟩
  | committed i g hi hn h =>
    obtain ⟨h1, h2, h3, h4⟩ := hp.intake i hi
    have hsize : (Track.snoc i.segments g.segment).size = i.reserved := by
      rw [Track.size_snoc]
      omega
    exact h ▸ .closed ((commitRecord_conserves hi hsize h4).trans conserved) (commitRecord_intake ..)
  | discarded h => exact h ▸ .closed ((discardIntake_conserves _).trans conserved) (discardIntake_intake _)
  | cleared _ _ h => exact h ▸ .closed ((clearPlan_conserves _).trans conserved) (clearPlan_intake _)

theorem PoolKept.congr {f g : PerRole Nat → Nat} {p : PlanStore} (h : PoolKept f p) (e : ∀ x, g x = f x) :
    PoolKept g p :=
  ⟨h.conserved, fun i hi => (e _).symm ▸ h.intake i hi⟩

/-- Straps that are not those of STRAP_FAULT name an address (R172). -/
theorem LifeState.address_of_ofStraps {x : Straps} (h : LifeState.ofStraps x ≠ .strapFault) : x.address ≠ 15 :=
  fun ha => h ((ofStraps_strapFault_iff x).mpr (.inl ha))

theorem PlanStep.pooled {s t : State} (h : PlanStep s t) (hp : s.Pooled) : t.Pooled := by
  obtain ⟨hstore, hconf⟩ := h
  have pool := hstore.poolKept hp
  cases hconf with
  | kept hl hx hi =>
    obtain ⟨hcon, hint⟩ := pool.congr (ownCount_congr hx)
    refine ⟨hcon, hint, fun hr => ?_, fun hs => ?_⟩
    · simpa only [State.ownRole, State.items, hx, hi] using hp.roster (hl ▸ hr)
    · exact hx ▸ hp.straps (hl ▸ hs)
  | configured hn hl hx =>
    obtain ⟨hcon, hint⟩ := pool.congr (ownCount_congr hx)
    exact ⟨hcon, hint, fun hr => absurd (hl ▸ hr) hn, fun hs => hx ▸ hp.straps (hl ▸ hs)⟩
  | started hm hn hl hx hi =>
    obtain ⟨hcon, hint⟩ := pool.congr (ownCount_congr hx)
    have ha := hp.straps hn
    refine ⟨hcon, hint, fun _ => ?_, fun _ => hx ▸ ha⟩
    obtain ⟨r, hr, hro⟩ := Option.map_eq_some_iff.mp ((ownAddressMatches_iff s).mp hm)
    refine ⟨r, by rw [State.ownRole, hx]; exact hr, ?_⟩
    rw [State.items, hi, ← State.items, hro]
    exact fun h15 => ha (BitVec.eq_of_toNat_eq h15)
  | reset x hl hx hs =>
    obtain ⟨hcon, hint⟩ := poolKept_afterReset (ownCount t)
    refine ⟨hs ▸ hcon, hs ▸ hint, fun hr => ?_, fun hn => ?_⟩
    · rw [hl] at hr
      rcases LifeState.ofStraps_config_or x with h | h <;> cases h.symm.trans hr
    · exact hx ▸ LifeState.address_of_ofStraps (hl ▸ hn)

/-! ### The order of the plan (R47, R48) -/

theorem PlanStore.heldSeqs_nodup_of_count {p q : PlanStore} (h : ∀ n, q.heldSeqs.count n ≤ p.heldSeqs.count n)
    (hp : p.heldSeqs.Nodup) : q.heldSeqs.Nodup :=
  List.nodup_iff_count_le_one.mpr fun n => (h n).trans (List.nodup_iff_count_le_one.mp hp n)

theorem PlanStore.Shrinks.exists_header {p q : PlanStore} (h : p.Shrinks q) {r : Record} (hr : r ∈ q.queue) :
    ∃ r' ∈ p.queue, r.header = r'.header := by
  obtain ⟨r', hr', he⟩ := List.mem_map.mp (h.queue.subset (List.mem_map_of_mem hr))
  exact ⟨r', hr', he.symm⟩

theorem PlanStore.Shrinks.length_le {p q : PlanStore} (h : p.Shrinks q) : q.queue.length ≤ p.queue.length := by
  simpa using h.queue.length_le

theorem PlanStore.Shrinks.ordered {p q : PlanStore} (h : p.Shrinks q) (o : p.Ordered) : q.Ordered where
  room := h.length_le.trans o.room
  rising := by
    have hp : (p.queue.map Record.header).Pairwise fun a b => a.seq < b.seq := List.pairwise_map.mpr o.rising
    have hq := hp.sublist h.queue
    rw [List.pairwise_map] at hq
    exact hq
  appended := fun r hr => by
    obtain ⟨r', hr', he⟩ := h.exists_header hr
    rw [h.lastAppended, Record.seq, he]
    exact o.appended r' hr'
  queued := fun r hr => by
    obtain ⟨r', hr', he⟩ := h.exists_header hr
    rw [he]
    exact o.queued r' hr'
  returning := fun r hr => by
    rcases h.ret r hr with ⟨r', hr', he⟩ | hk
    · rw [he]; exact o.returning r' hr'
    · exact hk
  excursions := fun r hr => by
    obtain ⟨r', hr', he⟩ := h.excursion r hr
    rw [he]
    exact o.excursions r' hr'
  once := heldSeqs_nodup_of_count h.held o.once
  arriving := fun i hi => by
    obtain ⟨hn, hk, hx⟩ := o.arriving i (h.intake ▸ hi)
    refine ⟨fun hm => hn (h.mem_heldSeqs hm), fun hp => ?_, fun hp => h.excursion_none (hx hp)⟩
    have := h.length_le
    have := hk hp
    rw [h.lastAppended]
    omega

theorem PlanStore.afterReset_ordered : PlanStore.afterReset.Ordered := by
  constructor <;> simp [PlanStore.afterReset, PlanStore.heldSeqs]

/-- An intake that is replaced by one of the same header, or ends. -/
theorem PlanStore.Ordered.withIntake {p q : PlanStore} (o : p.Ordered) (hq : q.queue = p.queue)
    (hc : q.current = p.current) (hr : q.ret = p.ret) (he : q.excursion = p.excursion)
    (hl : q.lastAppended = p.lastAppended)
    (hi : ∀ i, q.intake = some i → ∃ j, p.intake = some j ∧ j.header = i.header) : q.Ordered := by
  have hs : q.heldSeqs = p.heldSeqs := by simp only [heldSeqs, hq, hc, hr, he]
  refine ⟨hq ▸ o.room, hq ▸ o.rising, by rw [hq, hl]; exact o.appended, hq ▸ o.queued, hr ▸ o.returning,
    he ▸ o.excursions, hs ▸ o.once, fun i h => ?_⟩
  obtain ⟨j, hj, hij⟩ := hi i h
  rw [hs, hl, hq, he, ← hij]
  exact o.arriving j hj

/-- The header of a new intake passes the checks of R50, so its record will find its place. -/
theorem openIntake_ordered {h : Header} {n now : Nat} {p : PlanStore} (o : p.Ordered) (hn : h.seq ∉ p.heldSeqs)
    (hk : h.kind = .planned → p.lastAppended < h.seq ∧ p.queue.length < 32)
    (hx : h.kind = .excursion → p.excursion = none) : (openIntake h n now p).Ordered :=
  { o with arriving := by rintro _ ⟨rfl⟩; exact ⟨hn, hk, hx⟩ }

/-- The record of the open intake commits to its place (R56). -/
theorem commitRecord_ordered {t : Track} {p : PlanStore} {i : Intake} (o : p.Ordered) (hi : p.intake = some i) :
    (commitRecord i.header t p).Ordered := by
  obtain ⟨hn, hp, hx⟩ := o.arriving i hi
  rcases hk : i.header.kind with _ | _
  · obtain ⟨hl, hr⟩ := hp hk
    simp only [commitRecord, hk]
    refine ⟨by simp; omega, ?_, ?_, ?_, o.returning, o.excursions, ?_, nofun⟩
    · refine List.pairwise_append.mpr ⟨o.rising, by simp, fun a ha b hb => ?_⟩
      rw [List.mem_singleton.mp hb]
      exact (o.appended a ha).trans_lt hl
    · simp only [List.mem_append, List.mem_singleton]
      rintro r (hr | rfl)
      · exact (o.appended r hr).trans hl.le
      · exact le_rfl
    · simp only [List.mem_append, List.mem_singleton]
      rintro r (hr | rfl)
      · exact o.queued r hr
      · exact hk
    · refine List.Perm.nodup (l := i.header.seq :: p.heldSeqs) ?_ (List.nodup_cons.mpr ⟨hn, o.once⟩)
      simp only [PlanStore.heldSeqs, List.map_append, List.map_cons, List.map_nil, List.append_assoc]
      exact List.perm_middle.symm
  · have he := hx hk
    simp only [commitRecord, hk]
    refine ⟨o.room, o.rising, o.appended, o.queued, o.returning, ?_, ?_, nofun⟩
    · rintro _ ⟨rfl⟩
      exact hk
    · refine List.Perm.nodup (l := i.header.seq :: p.heldSeqs) ?_ (List.nodup_cons.mpr ⟨hn, o.once⟩)
      simp only [PlanStore.heldSeqs, he, Option.map_none, Option.toList_none, List.append_nil, Option.map_some,
        Option.toList_some]
      exact (List.perm_append_singleton _ _).symm

theorem clearPlan_ordered {p : PlanStore} (o : p.Ordered) : (clearPlan p).Ordered := by
  rw [clearPlan_eq]
  refine ⟨Nat.zero_le _, .nil, nofun, nofun, o.returning, nofun, ?_, nofun⟩
  refine o.once.sublist ?_
  simp only [PlanStore.heldSeqs, List.map_nil, List.nil_append, Option.map_none, Option.toList_none, List.append_nil,
    List.append_assoc]
  exact ((List.Sublist.refl _).append (List.sublist_append_left _ _)).trans (List.sublist_append_right _ _)

theorem StoreStep.ordered {s t : State} (h : StoreStep s t) (o : s.store.Ordered) : t.store.Ordered := by
  cases h with
  | moved h => exact h.shrinks.ordered o
  | emptied h => exact h ▸ PlanStore.afterReset_ordered
  | opened x hl hi hf h =>
    have fits := headerFits_of_none hf
    have hs := makeRoom_shrinks x s.store
    rw [h, takeHeader_eq, State.withStore_store]
    refine openIntake_ordered (hs.ordered o) (fun hm => fits.new (hs.mem_heldSeqs hm)) (fun hk => ?_)
      fun hk => makeRoom_excursion hk _
    have := hs.length_le
    have := fits.room hk
    exact ⟨hs.lastAppended ▸ fits.ordered hk, by omega⟩
  | stored i g hi _ h =>
    rw [h]
    refine o.withIntake rfl rfl rfl rfl rfl ?_
    rintro _ ⟨rfl⟩
    exact ⟨i, hi, rfl⟩
  | committed i g hi _ h => exact h ▸ commitRecord_ordered o hi
  | discarded h =>
    obtain ⟨hq, hc, hr, he, hl⟩ := discardIntake_places s.store
    exact h ▸ o.withIntake hq hc hr he hl fun i hi => by rw [discardIntake_intake] at hi; cases hi
  | cleared _ _ h => exact h ▸ clearPlan_ordered o

/-! ### The empty store (R63) -/

/-- Outside RUN no header is taken and no segment finds an intake. -/
theorem StoreStep.stays_empty {s t : State} (h : StoreStep s t) (hl : s.conf.life ≠ .run)
    (he : s.store = .afterReset) : t.store = .afterReset := by
  have hi : s.store.intake = none := by rw [he]; rfl
  cases h with
  | moved h => exact (he ▸ h).of_afterReset
  | emptied h => exact h
  | opened _ hr => exact absurd hr hl
  | stored i _ h => cases hi.symm.trans h
  | committed i _ h => cases hi.symm.trans h
  | discarded h => rw [h, he]; rfl
  | cleared hr => exact absurd hr hl

theorem PlanStep.empty_outside_run {s t : State} (h : PlanStep s t) (he : s.conf.life ≠ .run → s.store = .afterReset)
    (ht : t.conf.life ≠ .run) : t.store = .afterReset := by
  cases h.conf with
  | kept hl => exact h.store.stays_empty (hl ▸ ht) (he (hl ▸ ht))
  | configured hn => exact h.store.stays_empty hn (he hn)
  | started _ _ hl => exact absurd hl ht
  | reset _ _ _ hs => exact hs

/-- START takes causes as raised, which leaves the store alone. -/
theorem judgeStart_store (s : State) : (judgeStart s).state.store = s.store := by
  simp only [judgeStart]
  split
  · simp
  · simp [takeStart]

end Sys2Proof.Machine

namespace Sys2Proof.Proofs
open Sys2Proof.Machine

/-- Settles O11: each way a command can change the store moves entries between owners and the free ones. -/
theorem segmentPoolIsConserved : Obligations.SegmentPoolIsConserved :=
  fun _ _ hp he => (step_planStep he).pooled hp

/-- Settles O13: a round only takes records away or moves them, and a record that commits passed the checks of R50. -/
theorem planKeepsItsOrder : Obligations.PlanKeepsItsOrder :=
  fun _ _ o he => (step_planStep he).store.ordered o

/-- Settles O8: only a header in RUN opens an intake, and without one the empty store has nothing to move. -/
theorem planStoreFillsOnlyInRun : Obligations.PlanStoreFillsOnlyInRun := by
  refine ⟨?_, fun s t he hs ht => (step_planStep hs).empty_outside_run he ht, ?_⟩
  · rintro a r s _ ⟨rfl⟩
    exact ⟨rfl, rfl, rfl, rfl, rfl, rfl, rfl, rfl⟩
  · rintro o args s _ ⟨rfl⟩
    simp only [hearCommand, hear, gateEstop]
    (repeat' split) <;> simp [judgeStart_store]

end Sys2Proof.Proofs
end

section
/-! The round in progress, the records it needs and the frame being received, through every step (R60, R61, R105 to R107,
R118); hence O5. -/

namespace Sys2Proof.Machine

/-! ### A round that goes on -/

/-- A round record `r'` continues `r`: the same round, as honest, asserting what it asserted. -/
structure RoundRecord.Continues (r r' : RoundRecord) : Prop where
  number : r'.number = r.number
  selected : r'.selected = r.selected
  honest : r.Honest → r'.Honest
  asserted : ∀ p, r.Asserted p → r'.Asserted p

theorem RoundRecord.Continues.refl (r : RoundRecord) : r.Continues r := ⟨rfl, rfl, id, fun _ => id⟩

theorem RoundRecord.Continues.trans {a b c : RoundRecord} (h : a.Continues b) (k : b.Continues c) : a.Continues c :=
  ⟨k.number.trans h.number, k.selected.trans h.selected, fun x => k.honest (h.honest x),
    fun p x => k.asserted p (h.asserted p x)⟩

/-- What the claims about rounds read of a round record. -/
theorem RoundRecord.Continues.of_same {r r' : RoundRecord} (number : r'.number = r.number)
    (selected : r'.selected = r.selected) (verdict : r'.verdict = r.verdict) (ownD : r'.ownD = r.ownD)
    (go : r'.goAsserted = r.goAsserted) (skip : r'.skipAsserted = r.skipAsserted)
    (completeGo : r'.completeGo = r.completeGo) (completeSkip : r'.completeSkip = r.completeSkip) : r.Continues r' where
  number := number
  selected := selected
  honest := fun h => by
    refine ⟨?_, ?_, ?_, ?_⟩ <;> simp only [selected, verdict, ownD, go, skip, completeGo, completeSkip]
    exacts [h.oneSide, h.ownGo, h.enough, h.skipped]
  asserted := fun p h => by simpa only [Asserted, ownD, go, skip] using h

/-- What a frame whose reception has begun says of the round: it is heard in the one in progress or in none, and a
taken ROLL asserts. -/
def Heard (s t : State) : Prop :=
  ∀ x, t.port.reception = some x → s.port.reception = some x ∨
    ((∀ n, x.round = some n → roundNumber s = some n) ∧
      (x.frame.cls = .roll → x.taken = true → ∀ r, roundOf t = some r → r.Asserted x.frame.payload))

/-- No round begins: the one in progress goes on or ends, its selected record stays held, and no mode comes to work on a
current record that is not there. -/
structure RoundGoesOn (s t : State) : Prop where
  rounds : t.round.rounds = s.round.rounds
  round : ∀ r', roundOf t = some r' → ∃ r, roundOf s = some r ∧ r.Continues r'
  current : onRecord t.traj.motion = true →
    onRecord s.traj.motion = true ∧ (s.store.current ≠ none → t.store.current ≠ none)
  held : ∀ r q, roundOf t = some r → r.selected = some q → q ∈ s.store.heldSeqs → q ∈ t.store.heldSeqs
  heard : Heard s t

theorem PlanKept.goesOn {s t : State} (h : PlanKept s t) : RoundGoesOn s t where
  rounds := h.rounds
  round := fun r hr => by
    rcases h.round with e | e
    · exact ⟨r, e ▸ hr, .refl r⟩
    · cases e.symm.trans hr
  current := fun m => ⟨h.motion m, h.store ▸ id⟩
  held := fun _ _ _ _ => h.store ▸ id
  heard := fun x hx => by
    rcases h.listens x hx with hx | ⟨hr, hn⟩
    · exact .inl hx
    · exact .inr ⟨hn, fun hc ht => by rw [hr hc] at ht; cases ht⟩

theorem RoundGoesOn.trans {s t u : State} (h : RoundGoesOn s t) (k : RoundGoesOn t u) : RoundGoesOn s u where
  rounds := k.rounds.trans h.rounds
  round := fun r hr => by
    obtain ⟨r1, h1, c1⟩ := k.round r hr
    obtain ⟨r2, h2, c2⟩ := h.round r1 h1
    exact ⟨r2, h2, c2.trans c1⟩
  current := fun m => by
    obtain ⟨m1, c1⟩ := k.current m
    obtain ⟨m2, c2⟩ := h.current m1
    exact ⟨m2, fun c => c1 (c2 c)⟩
  held := fun r q hr hq hs => by
    obtain ⟨r1, h1, c1⟩ := k.round r hr
    exact k.held r q hr hq (h.held r1 q h1 (c1.selected ▸ hq) hs)
  heard := fun x hx => by
    rcases k.heard x hx with hx | ⟨hn, ha⟩
    · rcases h.heard x hx with hx | ⟨hn, ha⟩
      · exact .inl hx
      · refine .inr ⟨hn, fun hc ht r hr => ?_⟩
        obtain ⟨r1, h1, c1⟩ := k.round r hr
        exact c1.asserted _ (ha hc ht r1 h1)
    · refine .inr ⟨fun n hxn => ?_, ha⟩
      have hnum := hn n hxn
      rw [roundNumber_eq] at hnum ⊢
      obtain ⟨r1, h1, rfl⟩ := Option.map_eq_some_iff.mp hnum
      obtain ⟨r2, h2, c2⟩ := h.round r1 h1
      rw [h2, c2.number]
      rfl

/-- No round is in progress any more. -/
theorem RoundGoesOn.of_noRound {s t : State} (hr : roundOf t = none) (rounds : t.round.rounds = s.round.rounds)
    (current : onRecord t.traj.motion = true →
      onRecord s.traj.motion = true ∧ (s.store.current ≠ none → t.store.current ≠ none))
    (reception : t.port.reception = s.port.reception) : RoundGoesOn s t :=
  ⟨rounds, fun _ h => (nomatch hr.symm.trans h), current, fun _ _ h => (nomatch hr.symm.trans h),
    fun _ h => .inl (reception ▸ h)⟩

/-- What keeps the plan adds nothing. -/
theorem RoundGoesOn.after {s t u : State} (k : PlanKept t u) (h : RoundGoesOn s t) : RoundGoesOn s u := h.trans k.goesOn

theorem RoundGoesOn.agreeing {s t : State} (h : RoundGoesOn s t) (a : s.Agreeing) : t.Agreeing where
  honest := fun r' hr => by
    obtain ⟨r, hr, c⟩ := h.round r' hr
    exact c.honest (a.honest r hr)
  numbered := fun r' hr => by
    obtain ⟨r, hr, c⟩ := h.round r' hr
    rw [h.rounds, c.number]
    exact a.numbered r hr
  heardIn := fun x n hx hn => by
    rw [h.rounds]
    rcases h.heard x hx with hx | ⟨hb, -⟩
    · exact a.heardIn x n hx hn
    · have := hb n hn
      rw [roundNumber_eq] at this
      obtain ⟨r, hr, rfl⟩ := Option.map_eq_some_iff.mp this
      exact a.numbered r hr
  asserted := fun x r' hx hr hc ht hn => by
    rcases h.heard x hx with hx | ⟨-, ha⟩
    · obtain ⟨r, hr, c⟩ := h.round r' hr
      exact c.asserted _ (a.asserted x r hx hr hc ht (c.number ▸ hn))
    · exact ha hc ht r' hr

theorem ne_none_of_slotHolds {x : Option Record} {q : Nat} (h : PlanStore.slotHolds x q = true) : x ≠ none := by
  rintro rfl
  cases h

/-- A record is found exactly where its seq is held. -/
theorem PlanStore.find_ne_none_iff (p : PlanStore) (q : Nat) : p.find q ≠ none ↔ q ∈ p.heldSeqs := by
  rw [← holds_iff]
  simp only [find, holds, Bool.or_eq_true]
  split
  · rename_i h
    exact iff_of_true (ne_none_of_slotHolds h) (.inl (.inl (.inr h)))
  rename_i hc
  split
  · rename_i h
    exact iff_of_true (ne_none_of_slotHolds h) (.inl (.inr h))
  rename_i hr
  split
  · rename_i h
    exact iff_of_true (ne_none_of_slotHolds h) (.inr h)
  rename_i he
  simp [hc, hr, he]

theorem RoundGoesOn.placed {s t : State} (h : RoundGoesOn s t) (p : s.Placed) : t.Placed where
  current := fun m => by
    obtain ⟨m, c⟩ := h.current m
    exact c (p.current m)
  selected := fun r' q hr hq => by
    obtain ⟨r, hs, c⟩ := h.round r' hr
    rw [PlanStore.find_ne_none_iff]
    exact h.held r' q hr hq ((s.store.find_ne_none_iff q).mp (p.selected r q hs (c.selected ▸ hq)))

/-! ### Frames heard -/

theorem RoundGoesOn.receiving {s t : State} {x : Reception} (h : RoundGoesOn s t)
    (hn : ∀ n, x.round = some n → roundNumber s = some n)
    (ha : x.frame.cls = .roll → x.taken = true → ∀ r, roundOf t = some r → r.Asserted x.frame.payload) :
    RoundGoesOn s (t.receiving (some x)) :=
  { h with heard := by rintro _ ⟨rfl⟩; exact .inr ⟨hn, ha⟩ }

/-- Hearing a frame leaves of the round what its owner leaves, where a taken ROLL asserts. -/
theorem hear_goesOn {k : FrameClass} {o : Origin} {p : List Byte} {owner : State → Judged} {s : State}
    (h : RoundGoesOn s (owner s).state)
    (ha : k = .roll → (owner s).taken = true → ∀ r, roundOf (owner s).state = some r → r.Asserted p) :
    RoundGoesOn s (hear k o p owner s) := by
  simp only [hear]
  (repeat' split)
  · exact (PlanKept.refl s).goesOn
  · exact h.receiving (fun _ e => e) ha
  · exact (PlanKept.refl s).goesOn.receiving nofun nofun

theorem hearCommand_goesOn {code len : Nat} {o : Origin} {args : List Byte} {owner : State → Judged} {s : State}
    (h : RoundGoesOn s (owner s).state) : RoundGoesOn s (hearCommand code len o args owner s) := by
  refine hear_goesOn ?_ nofun
  split
  · exact h
  · exact (refuse_planKept ..).goesOn

theorem gateEstop_goesOn {code : Nat} {owner : State → Judged} {s : State} (h : RoundGoesOn s (owner s).state) :
    RoundGoesOn s (gateEstop code owner s).state := by
  simp only [gateEstop]
  split
  · exact (refuse_planKept ..).goesOn
  · exact h

/-! ### Configuration, START and RESTART -/

theorem judgeConfig_goesOn (p : List Byte) (s : State) : RoundGoesOn s (judgeConfig p s).state := by
  simp only [judgeConfig]
  (repeat' split)
  · exact (refuse_planKept ..).goesOn
  · exact (refuse_planKept ..).goesOn
  · exact (refuse_planKept ..).goesOn
  · exact (refuse_planKept ..).goesOn
  · exact ⟨rfl, fun r hr => ⟨r, hr, .refl r⟩, fun m => ⟨m, id⟩, fun _ _ _ _ => id, fun _ => .inl⟩

theorem judgeStart_goesOn (s : State) : RoundGoesOn s (judgeStart s).state := by
  simp only [judgeStart]
  split
  · exact (refused_planKept ..).goesOn
  · exact .after (retakeCauses_planKept _) (.of_noRound rfl rfl (fun m => ⟨m, id⟩) rfl)

theorem judgeRestart_goesOn (s : State) : RoundGoesOn s (judgeRestart s).state := by
  simp only [judgeRestart]
  split
  · exact .after (retakeCauses_planKept _) (.after (settleOutputs_planKept _) (.of_noRound rfl rfl nofun rfl))
  · exact (refused_planKept ..).goesOn

/-! ### The plan store's frames -/

/-- A change of the store under a mode that keeps the current record, and a round that keeps its own. -/
theorem RoundGoesOn.of_store {s : State} {p : PlanStore} (hc : p.current = s.store.current)
    (hh : ∀ r q, roundOf s = some r → r.selected = some q → q ∈ s.store.heldSeqs → q ∈ p.heldSeqs) :
    RoundGoesOn s (s.withStore p) :=
  ⟨rfl, fun r hr => ⟨r, hr, .refl r⟩, fun m => ⟨m, hc ▸ id⟩, hh, fun _ => .inl⟩

/-- A header that passes discards no excursion that the round has selected (R50 step 4). -/
theorem takeHeader_goesOn {h : Header} {s : State} (hf : HeaderFits s h) : RoundGoesOn s (takeHeader h s) := by
  rw [takeHeader_eq]
  refine .of_store ?_ fun r q hr hq hm => ?_
  · simp only [openIntake, makeRoom, discardExcursion]
    split <;> rfl
  · have hplaces : (openIntake h (ownCount s h.counts) s.now (makeRoom h s.store)).heldSeqs =
        (makeRoom h s.store).heldSeqs := rfl
    rw [hplaces, makeRoom]
    split
    · rename_i hk
      have hne : (s.store.excursion.map Record.seq) ≠ some q := fun he => by
        have := hf.unselected hk
        rw [← Bool.not_eq_true, excursionSelected_iff, hr] at this
        exact this ⟨fun hn => by simp [hn] at he, hq.trans he.symm⟩
      simpa [PlanStore.heldSeqs, discardExcursion, hne] using hm
    · exact hm

theorem judgePlanHead_goesOn (p : List Byte) (s : State) : RoundGoesOn s (judgePlanHead p s).state := by
  have refusal : ∀ r q, RoundGoesOn s (refuseHead r q s).state := fun r q => (refuse_planKept ..).goesOn
  simp only [judgePlanHead, judgeHeader]
  (repeat' split)
  · exact refusal ..
  · exact refusal ..
  · exact refusal ..
  · exact refusal ..
  · exact refusal ..
  · exact (PlanKept.refl s).goesOn
  · exact refusal ..
  · exact refusal ..
  · exact takeHeader_goesOn (headerFits_of_none ‹_›)

theorem discardIntake_goesOn (s : State) : RoundGoesOn s (s.withStore (discardIntake s.store)) := by
  obtain ⟨hq, hc, hr, he, -⟩ := discardIntake_places s.store
  exact .of_store hc fun _ _ _ _ hm => by simpa only [PlanStore.heldSeqs, hq, hc, hr, he] using hm

/-- The record that commits joins those held. -/
theorem commitRecord_goesOn {i : Intake} (t : Track) {s : State} (hp : s.Pooled) (hi : s.store.intake = some i) :
    RoundGoesOn s (s.withStore (commitRecord i.header t s.store)) := by
  obtain ⟨-, -, -, hx⟩ := hp.intake i hi
  rcases hk : i.header.kind with _ | _
  · refine .of_store (by simp only [commitRecord, hk]) fun _ _ _ _ hm => ?_
    simp only [commitRecord, hk, PlanStore.heldSeqs, List.map_append, List.mem_append] at hm ⊢
    tauto
  · refine .of_store (by simp only [commitRecord, hk]) fun _ _ _ _ hm => ?_
    simp only [commitRecord, hk, PlanStore.heldSeqs, hx hk, List.mem_append, Option.map_none, Option.toList_none,
      List.not_mem_nil, or_false] at hm ⊢
    exact .inl hm

theorem judgePlanSeg_goesOn (p : List Byte) {s : State} (hp : s.Pooled) : RoundGoesOn s (judgePlanSeg p s).state := by
  simp only [judgePlanSeg, judgeOpenSegment, finishIntake]
  (repeat' split)
  · exact (PlanKept.refl s).goesOn
  · exact (PlanKept.refl s).goesOn
  · exact .of_store rfl fun _ _ _ _ => id
  · exact .after (report_planKept ..) (commitRecord_goesOn _ hp ‹_›)
  · exact .after (refuse_planKept ..) (discardIntake_goesOn s)
  all_goals exact (PlanKept.refl s).goesOn

/-- PLAN_CLEAR is admitted with no round in progress (R59). -/
theorem judgePlanClear_goesOn (s : State) : RoundGoesOn s (judgePlanClear s).state := by
  simp only [judgePlanClear]
  split
  · rename_i h
    simp only [Bool.and_eq_true] at h
    have hr : roundOf s = none := by
      rcases hp : s.round.plan with _ | p
      · simp [roundOf, hp]
      · cases p <;> simp_all [roundOf, admitsClear]
    exact .after (report_planKept ..)
      (.of_store (by rw [clearPlan_eq]) fun r _ h => by rw [hr] at h; cases h)
  · exact (refused_planKept ..).goesOn

/-! ### The round's own record -/

theorem roundOf_updateRound (f : RoundRecord → RoundRecord) (s : State) :
    roundOf (updateRound f s) = (roundOf s).map f := by
  simp only [updateRound, roundOf]
  rcases hp : s.round.plan with _ | p
  · simp [hp]
  · cases p <;> simp [hp]

/-- The record of the round in progress rewritten so that it continues. -/
theorem updateRound_goesOn {f : RoundRecord → RoundRecord} {s : State}
    (h : ∀ r, roundOf s = some r → r.Continues (f r)) : RoundGoesOn s (updateRound f s) := by
  refine ⟨?_, fun r' hr => ?_, fun m => ⟨by simpa using m, by simp⟩, fun _ _ _ _ hm => by simpa using hm,
    fun x hx => .inl (by simpa using hx)⟩
  · simp only [updateRound]
    split <;> rfl
  · rw [roundOf_updateRound] at hr
    obtain ⟨r, hs, rfl⟩ := Option.map_eq_some_iff.mp hr
    exact ⟨r, hs, h r hs⟩

theorem judgePropose_goesOn (o : Origin) (p : List Byte) (s : State) : RoundGoesOn s (judgePropose o p s).state := by
  simp only [judgePropose]
  (repeat' split)
  · exact updateRound_goesOn fun r _ => .of_same rfl rfl rfl rfl rfl rfl rfl rfl
  all_goals exact (PlanKept.refl s).goesOn

theorem settleOutcome_goesOn (r : RoundRecord) (s : State) : RoundGoesOn s (settleOutcome r s) := by
  have updated : RoundGoesOn s (updateRound (fun r => { r with outcome := some (formOutcome s.items r) }) s) :=
    updateRound_goesOn fun r _ => .of_same rfl rfl rfl rfl rfl rfl rfl rfl
  simp only [settleOutcome, sendRoll]
  split
  · exact .after (offerFrame_planKept ..) updated
  · exact .after (offerFrame_planKept ..) updated
  · exact updated

/-- A GO roll is asserted for a selected record with the own verdict GO and no SKIP asserted (R105). -/
theorem continues_assertGo {s : State} {r : RoundRecord} {f : CallFields} (h : assertsGo s r f = true) :
    r.Continues { r with goAsserted := true } := by
  obtain ⟨hm, hv, hs, -, -⟩ := (assertsGo_iff s r f).mp h
  obtain ⟨-, hsel, -, -⟩ := (rollMatches_iff s r f).mp hm
  refine ⟨rfl, rfl, fun hr => ⟨?_, fun _ => ⟨hv, by simp [hsel]⟩, fun d hd => ⟨rfl, (hr.enough d hd).2⟩, hr.skipped⟩,
    fun p => ?_⟩
  · simp [hs]
  · rintro ⟨g, hg, ⟨h0, -, hd⟩ | h1⟩
    · exact ⟨g, hg, .inl ⟨h0, rfl, hd⟩⟩
    · exact ⟨g, hg, .inr h1⟩

/-- A SKIP roll is asserted where no GO is (R106). -/
theorem continues_assertSkip {s : State} {r : RoundRecord} {f : CallFields} (h : assertsSkip s r f = true) :
    r.Continues { r with skipAsserted := true } := by
  obtain ⟨-, hg⟩ := (assertsSkip_iff s r f).mp h
  refine ⟨rfl, rfl, fun hr => ⟨?_, hr.ownGo, hr.enough, fun _ => rfl⟩, fun p => ?_⟩
  · simp [hg]
  · rintro ⟨g, hf, h0 | ⟨h1, -⟩⟩
    · exact ⟨g, hf, .inl h0⟩
    · exact ⟨g, hf, .inr ⟨h1, rfl⟩⟩

/-- The decision on a ROLL keeps the round going, and a ROLL that is taken asserts (R105, R106). -/
theorem judgeRoll_goesOn (p : List Byte) (s : State) :
    RoundGoesOn s (judgeRoll p s).state ∧
      ((judgeRoll p s).taken = true → ∀ r, roundOf (judgeRoll p s).state = some r → r.Asserted p) := by
  have left : RoundGoesOn s (leave s).state ∧
      ((leave s).taken = true → ∀ r, roundOf (leave s).state = some r → r.Asserted p) :=
    ⟨(PlanKept.refl s).goesOn, nofun⟩
  rcases hf : readCall p with _ | f
  · rw [judgeRoll, hf]; exact left
  rcases hr : roundOf s with _ | r
  · rw [judgeRoll, hf, hr]; exact left
  by_cases hg : f.verdict = 0 ∧ assertsGo s r f = true
  · obtain ⟨hv, ha⟩ := hg
    rw [judgeRoll_go hf hr hv ha]
    refine ⟨updateRound_goesOn fun x hx => ?_, fun _ x hx => ⟨f, hf, .inl ⟨hv, ?_⟩⟩⟩
    · cases hr.symm.trans hx
      exact continues_assertGo ha
    · rw [take_state, roundOf_updateRound, hr] at hx
      cases hx
      exact ⟨rfl, ((assertsGo_iff s r f).mp ha).2.2.2.2⟩
  by_cases hs : f.verdict = 1 ∧ assertsSkip s r f = true
  · obtain ⟨hv, ha⟩ := hs
    rw [judgeRoll_skip hf hr hv ha]
    refine ⟨updateRound_goesOn fun x hx => ?_, fun _ x hx => ⟨f, hf, .inr ⟨hv, ?_⟩⟩⟩
    · cases hr.symm.trans hx
      exact continues_assertSkip ha
    · rw [take_state, roundOf_updateRound, hr] at hx
      cases hx
      rfl
  · rw [judgeRoll_other hf hr hg hs]; exact left

/-- A round record with another plan state around it. -/
theorem RoundGoesOn.of_record {s : State} {r r' : RoundRecord} {p : PlanState} (hr : roundOf s = some r)
    (hp : p = .inRound r' ∨ p = .scheduled r') (hc : r.Continues r') :
    RoundGoesOn s (s.withRound { s.round with plan := some p }) := by
  refine ⟨rfl, fun x hx => ⟨r, hr, ?_⟩, fun m => ⟨m, id⟩, fun _ _ _ _ => id, fun _ => .inl⟩
  rcases hp with rfl | rfl <;> cases hx <;> exact hc

/-- A complete ROLL is recorded for what the round asserted (R107). -/
theorem completeRoll_goesOn {x : Reception} (b : BitVec 15) {s : State} (a : s.Agreeing)
    (hx : s.port.reception = some x) : RoundGoesOn s (completeRoll x b s) := by
  have same : RoundGoesOn s s := (PlanKept.refl s).goesOn
  rw [completeRoll]
  split
  case isFalse => exact same
  case isTrue h =>
    obtain ⟨hroll, -⟩ := Bool.and_eq_true _ _ ▸ h
    obtain ⟨hc, ht, hn, hnum⟩ := (rollOfRound_iff x s).mp hroll
    rw [roundNumber_eq] at hnum
    rcases hr : roundOf s with _ | r
    · exact absurd (by rw [hnum, hr]; rfl) hn
    rw [hr] at hnum
    obtain ⟨f, hf, hfacts⟩ := a.asserted x r hx hr hc ht hnum
    rw [hf]
    dsimp only
    split
    · rename_i hv
      obtain ⟨-, hg, hd⟩ := hfacts.resolve_right fun h => absurd (hv.symm.trans h.1) (by decide)
      rw [recordGo, hr]
      refine .of_record hr (.inr rfl) ⟨rfl, rfl, fun h => ⟨h.oneSide, h.ownGo, ?_, h.skipped⟩, fun _ => id⟩
      rintro _ ⟨rfl⟩
      exact ⟨hg, hd.trans (le_max_left _ _)⟩
    · rename_i hv
      obtain ⟨-, hs⟩ := hfacts.resolve_left fun h => hv h.1
      refine updateRound_goesOn fun y hy => ?_
      cases hr.symm.trans hy
      exact ⟨rfl, rfl, fun h => ⟨h.oneSide, h.ownGo, h.enough, fun _ => hs⟩, fun _ => id⟩

/-! ### A round that begins (R98 to R102) -/

/-- What a round needs when it begins: a mode that works on the current record finds one, and no frame is being received
in a round to come. -/
structure State.Based (s : State) : Prop where
  current : onRecord s.traj.motion = true → s.store.current ≠ none
  heardIn : ∀ x n, s.port.reception = some x → x.round = some n → n ≤ s.round.rounds

theorem State.Sound.based {s : State} (h : s.Sound) : s.Based := ⟨h.placed.current, h.agreeing.heardIn⟩

/-- The dwell record is the one item of the round engine that a skip changes (R101). -/
theorem skipRecord_round (q v : Nat) (s : State) :
    ∃ d, (skipRecord q v s).round = { s.round with dwell := d } := by
  have dropped : ∀ u : State, ∃ d, (dropDwellOf q u).round = { u.round with dwell := d } := fun u => by
    simp only [dropDwellOf]
    (repeat' split)
    · exact ⟨none, rfl⟩
    · exact ⟨_, rfl⟩
    · exact ⟨_, rfl⟩
  simp only [skipRecord]
  split
  · simpa [standOnRemoval, apply_ite] using dropped (s.withStore (s.store.remove q))
  · exact ⟨s.round.dwell, by simp⟩

@[simp] theorem skipRecord_reception (q v : Nat) (s : State) :
    (skipRecord q v s).port.reception = s.port.reception := by
  simp only [skipRecord]
  split <;> simp

theorem standOnRemoval_offRecord (s : State) : onRecord (standOnRemoval s).traj.motion = false := by
  rw [standOnRemoval]
  split
  · simp [enterMotion, onRecord]
  · rename_i h
    cases hm : s.traj.motion <;> simp_all [standsOnRemoval, onRecord]

/-- A skip of the current record leaves no mode that works on it (R101). -/
theorem State.Based.skipRecord {s : State} (h : s.Based) (q v : Nat) : (Machine.skipRecord q v s).Based where
  current := fun m => by
    rw [skipRecord_store]
    simp only [Machine.skipRecord] at m
    split at m
    · simp [standOnRemoval_offRecord] at m
    · rename_i hc
      simpa [PlanStore.remove, PlanStore.dropSlot, hc] using h.current (by simpa using m)
  heardIn := fun x n hx hn => by
    obtain ⟨d, hd⟩ := skipRecord_round q v s
    rw [hd]
    exact h.heardIn x n (by simpa using hx) hn

/-- What the window skips of a selection leave. -/
structure SelectedFrom (s t : State) : Prop where
  based : s.Based → t.Based
  rounds : t.round.rounds = s.round.rounds
  reception : t.port.reception = s.port.reception

theorem selectRecord_held {p : PlanStore} {k : RoundKind} {r : Record} (h : selectRecord p k = some r) :
    r.seq ∈ p.heldSeqs := by
  have hcur : p.current = some r → r.seq ∈ p.heldSeqs := fun e => by simp [PlanStore.heldSeqs, e]
  have hret : p.ret = some r → r.seq ∈ p.heldSeqs := fun e => by simp [PlanStore.heldSeqs, e]
  have hexc : p.excursion = some r → r.seq ∈ p.heldSeqs := fun e => by simp [PlanStore.heldSeqs, e]
  have hque : p.queue.head? = some r → r.seq ∈ p.heldSeqs := fun e => by
    simp [PlanStore.heldSeqs, List.mem_map_of_mem (List.mem_of_mem_head? (Option.mem_def.mpr e))]
  cases k <;> simp only [selectRecord, selectRecord.afterCurrent] at h <;> (repeat' split at h) <;> simp_all

theorem selectTarget_from (e n : Nat) (k : RoundKind) (s : State) :
    SelectedFrom s (selectTarget e n k s).state ∧
      ∀ r, (selectTarget e n k s).record = some r → r.seq ∈ (selectTarget e n k s).state.store.heldSeqs := by
  induction n generalizing k s with
  | zero => exact ⟨⟨id, rfl, rfl⟩, nofun⟩
  | succ n ih =>
    simp only [selectTarget]
    (repeat' split)
    · exact ⟨⟨id, rfl, rfl⟩, nofun⟩
    · obtain ⟨hs, hr⟩ := ih (kindAfterSkip k) (skipRecord (Record.seq ‹_›) 0 s)
      obtain ⟨d, hd⟩ := skipRecord_round (Record.seq ‹_›) 0 s
      exact ⟨⟨fun h => hs.based (h.skipRecord ..), by rw [hs.rounds, hd], by rw [hs.reception, skipRecord_reception]⟩, hr⟩
    · rename_i h _
      exact ⟨⟨id, rfl, rfl⟩, by rintro _ ⟨rfl⟩; exact selectRecord_held h⟩

@[simp] theorem setWrap_heldSeqs (p : PlanStore) (n : Nat) (k : Int) : (p.setWrap n k).heldSeqs = p.heldSeqs := by
  simp only [PlanStore.heldSeqs, PlanStore.setWrap, map_map_of_eq (rewrap_seq n k), seq_slot_map (rewrap_seq n k)]

/-- A write of a wrap_k. -/
theorem writeWrap_held (q : Nat) (k : Option Int) (s : State) :
    (writeWrap q k s).store.heldSeqs = s.store.heldSeqs ∧
      ((writeWrap q k s).store.current = none ↔ s.store.current = none) := by
  cases k with
  | none => exact ⟨rfl, Iff.rfl⟩
  | some w => exact ⟨setWrap_heldSeqs .., by simp [writeWrap, PlanStore.setWrap]⟩

theorem freshRound_honest (number epoch : Nat) (k : RoundKind) (q : Option Nat) (p : Proposal) :
    (freshRound number epoch k q p).Honest := ⟨nofun, nofun, nofun, nofun⟩

/-- The round that a proposal forms is honest, numbered anew, and its selected record is held. -/
theorem proposeFor_sound {e : Nat} {x : Selection} (hb : x.state.Based)
    (hh : ∀ r, x.record = some r → r.seq ∈ x.state.store.heldSeqs)
    (hn : ∀ y n, x.state.port.reception = some y → y.round = some n → n < x.state.round.rounds) :
    (proposeFor e x).Agreeing ∧ (proposeFor e x).Placed := by
  have hround : ∃ p, roundOf (proposeFor e x) =
      some (freshRound x.state.round.rounds e x.kind (x.record.map Record.seq) p) := by
    simp only [proposeFor, sendPropose, roundOf, offerFrame_round, State.withRound_round, reportPlanEmpty_round]
    exact ⟨_, rfl⟩
  have hrounds : (proposeFor e x).round.rounds = x.state.round.rounds := by
    simp [proposeFor, sendPropose]
  have hrec : (proposeFor e x).port.reception = x.state.port.reception := by
    simp only [proposeFor, sendPropose, offerFrame_reception, State.withRound_port, writeWrap_port, drawSetpoint_port,
      reportPlanEmpty]
    split <;> simp
  have htraj : (proposeFor e x).traj = x.state.traj := by simp [proposeFor, sendPropose]
  obtain ⟨hheld, hcur⟩ := writeWrap_held ((x.record.map Record.seq).getD 0)
    (formProposal (reportPlanEmpty x) e x.record).wrap (reportPlanEmpty x).drawSetpoint
  have hstore : (proposeFor e x).store = (writeWrap ((x.record.map Record.seq).getD 0)
      (formProposal (reportPlanEmpty x) e x.record).wrap (reportPlanEmpty x).drawSetpoint).store := by
    simp only [proposeFor, sendPropose, offerFrame_store, State.withRound_store]
    rfl
  rw [← hstore, drawSetpoint_store, reportPlanEmpty_store] at hheld hcur
  obtain ⟨p, hp⟩ := hround
  refine ⟨⟨?_, ?_, ?_, ?_⟩, ?_, ?_⟩
  · intro r hr
    cases hp.symm.trans hr
    exact freshRound_honest ..
  · intro r hr
    cases hp.symm.trans hr
    exact hrounds.ge
  · intro y n hy hyn
    rw [hrounds]
    exact (hn y n (hrec ▸ hy) hyn).le
  · intro y r hy hr _ _ hyn
    cases hp.symm.trans hr
    exact absurd (hn y _ (hrec ▸ hy) hyn) (lt_irrefl _)
  · intro m
    rw [htraj] at m
    exact fun h => hb.current m (hcur.mp h)
  · intro r q hr hq
    cases hp.symm.trans hr
    obtain ⟨rec, hrec, rfl⟩ := Option.map_eq_some_iff.mp hq
    rw [PlanStore.find_ne_none_iff, hheld]
    exact hh rec hrec

/-- A round that starts is in agreement, and its selected record is held. -/
theorem startRound_sound (k : RoundKind) (e : Nat) {s : State} (hb : s.Based) :
    (startRound k e s).Agreeing ∧ (startRound k e s).Placed := by
  have hfrom : (roundBegun (leaveForRound s) e k).round.rounds = s.round.rounds + 1 := by
    simp only [roundBegun, leaveForRound, State.withRound_round]
    split <;> rfl
  have hbegun : (roundBegun (leaveForRound s) e k).Based := by
    refine ⟨fun m => by simpa using hb.current (by simpa using m), fun x n hx hn => ?_⟩
    rw [hfrom]
    exact (hb.heardIn x n (by simpa using hx) hn).trans (Nat.le_succ _)
  obtain ⟨hs, hr⟩ := selectTarget_from e (selectionFuel (roundBegun (leaveForRound s) e k).store) k
    (roundBegun (leaveForRound s) e k)
  refine proposeFor_sound (hs.based hbegun) hr fun y n hy hn => ?_
  rw [hs.rounds, hfrom]
  rw [hs.reception] at hy
  exact Nat.lt_succ_of_le (hb.heardIn y n (by simpa using hy) hn)

/-! ### The slew start and the end of a dwell (R62, R84, R112, R115) -/

/-- The selected record moves into the current slot (R62). -/
theorem moveIn_current {p : PlanStore} {q : Nat} (h : p.find q ≠ none) : (p.moveIn q).current ≠ none := by
  rw [PlanStore.moveIn]
  split
  · exact ne_none_of_slotHolds ‹_›
  rename_i hc
  split
  · exact ne_none_of_slotHolds ‹_›
  rename_i hr
  split
  · exact ne_none_of_slotHolds ‹_›
  rename_i he
  rw [PlanStore.find, if_neg hc, if_neg hr, if_neg he] at h
  split
  · exact nofun
  · rename_i hq
    exact absurd hq h

/-- No round is begun or ended, and the frame being received stays. -/
structure SameRound (s t : State) : Prop where
  round : roundOf t = roundOf s
  rounds : t.round.rounds = s.round.rounds
  reception : t.port.reception = s.port.reception

theorem SameRound.trans {s t u : State} (h : SameRound s t) (k : SameRound t u) : SameRound s u :=
  ⟨k.round.trans h.round, k.rounds.trans h.rounds, k.reception.trans h.reception⟩

theorem SameRound.of_blocks {s t : State} (hr : t.round = s.round) (hx : t.port.reception = s.port.reception) :
    SameRound s t := ⟨roundOf_congr (by rw [hr]), by rw [hr], hx⟩

theorem reportMotionEnd_sameRound (t : Nat) (s : State) : SameRound s (reportMotionEnd t s) := by
  refine ⟨?_, (reportMotionEnd_planKept t s).rounds, by simp⟩
  simp only [reportMotionEnd]
  split
  · rfl
  simp only [roundOf, State.withRound_round]
  rcases s.round.plan with _ | p
  · rfl
  cases p
  case observing x => cases x <;> rfl
  all_goals rfl

theorem fixFor_sameRound (rec : Record) (r : Release) (s : State) : SameRound s (fixFor rec r s) := by
  simp only [fixFor, beginProfile]
  (repeat' split)
  · exact .trans (t := enterMotion _ _) (.of_blocks (by simp) (by simp)) (reportMotionEnd_sameRound ..)
  · exact .of_blocks (by simp) (by simp)
  · exact .of_blocks (by simp) (by simp)

theorem slewMotion_sameRound (rec : Record) (e d : Nat) (s : State) : SameRound s (slewMotion rec e d s) := by
  simp only [slewMotion]
  (repeat' split)
  · exact .trans (.of_blocks (by simp) (by simp)) (fixFor_sameRound ..)
  · exact .of_blocks (by simp) (by simp)
  · exact fixFor_sameRound ..

/-- A slew start ends the round and has its record in the current slot. -/
theorem slewStartFor_sound {rec : Record} (e d : Nat) {s : State} (hb : s.Based) (hr : s.store.find rec.seq ≠ none) :
    (slewStartFor rec e d s).Agreeing ∧ (slewStartFor rec e d s).Placed := by
  have moved := slewMotion_sameRound rec e d (fillSettle rec.seq (e + d) (slewItems rec (e + d)
    (slewRound rec (e + d) (s.withStore (s.store.moveIn rec.seq)))))
  have begun : SameRound (slewRound rec (e + d) (s.withStore (s.store.moveIn rec.seq))) (fillSettle rec.seq (e + d)
      (slewItems rec (e + d) (slewRound rec (e + d) (s.withStore (s.store.moveIn rec.seq))))) := .of_blocks rfl rfl
  have same := (begun.trans moved).trans (u := slewStartFor rec e d s)
    (.of_blocks (by simp [slewStartFor]) (by simp [slewStartFor]))
  have noRound : ∀ {r}, roundOf (slewStartFor rec e d s) ≠ some r := fun h => nomatch same.round.symm.trans h
  refine ⟨⟨fun _ h => absurd h noRound, fun _ h => absurd h noRound, ?_, fun _ _ _ h => absurd h noRound⟩,
    fun _ => ?_, fun _ _ h => absurd h noRound⟩
  · rw [same.rounds, same.reception]
    exact hb.heardIn
  · rw [slewStartFor_store]
    exact moveIn_current hr

theorem State.Based.withDwellDone {s t : State} (h : s.Based) (ht : t.traj = s.traj)
    (hs : t.store = s.store ∨ t.store = s.store.setDwellDone) (hr : t.round.rounds = s.round.rounds)
    (hx : t.port.reception = s.port.reception) : t.Based where
  current := fun m => by
    have hc := h.current (ht ▸ m)
    rcases hs with e | e <;> rw [e]
    · exact hc
    · simpa [PlanStore.setDwellDone] using hc
  heardIn := by rw [hr, hx]; exact h.heardIn

theorem stall_planKept (r : RoundRecord) (s : State) : PlanKept s (stall r s) := by
  have waits : PlanKept s (s.withRound { s.round with plan := some .waiting }) :=
    ⟨rfl, rfl, rfl, rfl, rfl, .inr rfl, id, .of_same rfl⟩
  simp only [stall]
  split
  · exact (report_planKept ..).after waits
  · exact (report_planKept ..).after (waits.trans (.of_blocks rfl rfl rfl rfl rfl))

/-! ### Every command -/

/-- A complete GO is one that the round asserted, so its selected record is held (R105, R107, R109). -/
theorem selected_held {s : State} {r : RoundRecord} {d : Nat} (h : s.Sound) (hr : roundOf s = some r)
    (hd : r.completeGo = some d) : s.store.find (r.selected.getD 0) ≠ none := by
  have honest := h.agreeing.honest r hr
  obtain ⟨-, hsel⟩ := honest.ownGo (honest.enough d hd).1
  obtain ⟨q, hq⟩ := Option.ne_none_iff_exists'.mp hsel
  rw [hq]
  exact h.placed.selected r q hr hq

/-- The record of a seq is one with that seq. -/
theorem seq_of_find {p : PlanStore} {q : Nat} {r : Record} (h : p.find q = some r) : r.seq = q := by
  have slot : ∀ {x : Option Record}, PlanStore.slotHolds x q = true → x = some r → r.seq = q := fun hx he => by
    obtain ⟨y, hy, hyq⟩ := (slotHolds_iff _ q).mp hx
    cases he.symm.trans hy
    exact hyq
  rw [PlanStore.find] at h
  split at h
  · exact slot ‹_› h
  split at h
  · exact slot ‹_› h
  split at h
  · exact slot ‹_› h
  · simpa using List.find?_some h

theorem dueResult_some {s : State} {r : RoundRecord} (h : dueResult s = some r) : roundOf s = some r := by
  rw [dueResult] at h
  split at h
  · split at h
    · cases h; assumption
    · cases h
  · cases h

theorem execRoundResult_answers {s : State} (h : s.Sound) : ∃ t, execRoundResult s = .next t ∧ t.Agreeing ∧ t.Placed := by
  have skipped : ∀ v r, (skipAndReRound v r s).Agreeing ∧ (skipAndReRound v r s).Placed := fun v r =>
    startRound_sound _ _ (h.based.skipRecord _ v)
  have same : ∀ {t}, PlanKept s t → t.Agreeing ∧ t.Placed := fun k => ⟨k.goesOn.agreeing h.agreeing, k.goesOn.placed h.placed⟩
  rw [execRoundResult]
  split
  case h_2 => exact ⟨_, rfl, h.agreeing, h.placed⟩
  case h_1 r hr =>
    rw [roundResult]
    split
    · exact ⟨_, rfl, skipped ..⟩
    split
    · exact ⟨_, rfl, same (stall_planKept r s)⟩
    · rename_i d hd
      have held := selected_held h (dueResult_some hr) hd
      split
      · rename_i rec hrec
        refine ⟨_, rfl, ?_⟩
        rw [succeed]
        split
        · exact skipped ..
        · exact slewStartFor_sound _ _ h.based (by rw [seq_of_find hrec]; exact held)
      · exact absurd ‹_› held

theorem endDwell_sound (d : DwellRecord) {s : State} (h : s.Sound) : (endDwell d s).Agreeing ∧ (endDwell d s).Placed := by
  have closed : (closeDwell d s).traj = s.traj ∧ (closeDwell d s).round = { s.round with dwell := none } ∧
      (closeDwell d s).port.reception = s.port.reception := by
    simp only [closeDwell]
    split <;> simp
  obtain ⟨ht, hr, hx⟩ := closed
  have hstore : (closeDwell d s).store = s.store ∨ (closeDwell d s).store = s.store.setDwellDone := by
    rw [closeDwell_store]
    split
    · exact .inr rfl
    · exact .inl rfl
  rw [endDwell]
  split
  · exact startRound_sound _ _ (h.based.withDwellDone ht hstore (by simp [hr]) hx)
  · have goes : RoundGoesOn s (closeDwell d s) := by
      refine ⟨by rw [hr], fun r e => ⟨r, ?_, .refl r⟩, fun m => ⟨ht ▸ m, ?_⟩, fun _ _ _ _ hm => ?_, fun _ e => .inl (hx ▸ e)⟩
      · rw [← e]
        exact roundOf_congr (by rw [hr])
      · rcases hstore with e | e <;> rw [e] <;> simp [PlanStore.setDwellDone]
      · rcases hstore with e | e <;> rw [e]
        · exact hm
        · simpa only [PlanStore.heldSeqs, PlanStore.setDwellDone,
            seq_slot_map (f := fun r => { r with dwellDone := true }) (fun _ => rfl)] using hm
    exact ⟨goes.agreeing h.agreeing, goes.placed h.placed⟩

theorem hardReset_sound (a : BitVec 4) (r : BitVec 3) {s t : State} (he : exec (.hardReset a r) s = .next t) :
    t.Agreeing ∧ t.Placed := by
  cases he
  have noRound : ∀ {s : State} {r}, s.round = .afterReset → roundOf s ≠ some r := fun h => by
    rw [roundOf, h]
    exact nofun
  exact ⟨⟨fun _ h => absurd h (noRound rfl), fun _ h => absurd h (noRound rfl), fun _ _ h => (nomatch h),
    fun _ _ h => (nomatch h)⟩, fun h => (nomatch h), fun _ _ h => absurd h (noRound rfl)⟩

/-- A command that keeps the plan answers where the records that modes work on are held (R118). -/
theorem exec_answers {c : Instr} {s : State} (hc : keepsPlan c = true) (h : s.Placed) : ∃ t, exec c s = .next t := by
  cases c <;> try cases hc
  case servoTick reply =>
    show ∃ t, execServoTick reply s = .next t
    simp only [execServoTick, tickAt, liveTick]
    split
    · split
      · exact ⟨_, rfl⟩
      · obtain ⟨w, hw⟩ := tickWork_answers (t := s.time.nextTick)
          (s := (advanceTick s).withAxis (sampleAxis (goodPosition reply) (advanceTick s).axis)) h.current
        rw [hw]
        exact ⟨_, rfl⟩
    · exact ⟨_, rfl⟩
  case brakeTimerExpiry =>
    show ∃ t, execBrakeTimerExpiry s = .next t
    simp only [execBrakeTimerExpiry, expireBrake]
    (repeat' split)
    · exact ⟨_, rfl⟩
    · rename_i hm _ hn
      exact absurd hn (h.current (by rw [hm]; rfl))
    · exact ⟨_, rfl⟩
    · exact ⟨_, rfl⟩
  all_goals exact ⟨_, rfl⟩

/-- Every command answers, and leaves the round, the records it needs and the frame being received in agreement. -/
theorem exec_agreeing_placed (c : Instr) {s : State} (h : s.Sound) :
    ∃ t, exec c s = .next t ∧ t.Agreeing ∧ t.Placed := by
  have goes : ∀ {t}, RoundGoesOn s t → t.Agreeing ∧ t.Placed := fun g => ⟨g.agreeing h.agreeing, g.placed h.placed⟩
  have kept : keepsPlan c = true → ∃ t, exec c s = .next t ∧ t.Agreeing ∧ t.Placed := fun hk => by
    obtain ⟨t, ht⟩ := exec_answers hk h.placed
    exact ⟨t, ht, goes (exec_planKept hk ht).goesOn⟩
  have same : RoundGoesOn s s := (PlanKept.refl s).goesOn
  cases c
  any_goals exact kept rfl
  case roundResult => exact execRoundResult_answers h
  case hardReset a r => exact ⟨_, rfl, hardReset_sound a r rfl⟩
  all_goals refine ⟨_, rfl, ?_⟩
  case configItem => exact goes (hear_goesOn (judgeConfig_goesOn ..) nofun)
  case start => exact goes (hearCommand_goesOn (gateEstop_goesOn (judgeStart_goesOn s)))
  case restart => exact goes (hearCommand_goesOn (gateEstop_goesOn (judgeRestart_goesOn s)))
  case planHead => exact goes (hear_goesOn (judgePlanHead_goesOn ..) nofun)
  case planSeg => exact goes (hear_goesOn (judgePlanSeg_goesOn _ h.pooled) nofun)
  case intakeTimeout =>
    simp only [expireIntake]
    (repeat' split)
    · exact goes (.after (report_planKept ..) (discardIntake_goesOn s))
    · exact goes same
    · exact goes same
  case planClear => exact goes (hearCommand_goesOn (gateEstop_goesOn (judgePlanClear_goesOn s)))
  case propose => exact goes (hear_goesOn (judgePropose_goesOn ..) nofun)
  case goRoll => exact goes (hear_goesOn (judgeRoll_goesOn ..).1 fun _ => (judgeRoll_goesOn ..).2)
  case skipRoll => exact goes (hear_goesOn (judgeRoll_goesOn ..).1 fun _ => (judgeRoll_goesOn ..).2)
  case responseFieldReport =>
    split
    · rename_i x hx
      have done := completeRoll_goesOn (slotsRead x ‹_› s) h.agreeing hx
      exact goes { done with heard := nofun }
    · exact goes same
  case ownOutcome =>
    split
    · exact goes (settleOutcome_goesOn ..)
    · exact goes same
  case pendingTriggerEpoch =>
    split
    · exact startRound_sound _ _ ⟨h.based.current, h.based.heardIn⟩
    · exact goes same
  case dwellEnd =>
    split
    · exact endDwell_sound _ h
    · exact goes same
  case abandonEpoch =>
    split
    · exact startRound_sound _ _ (h.based.withDwellDone (by simp) (.inr (by simp)) (by simp) (by simp))
    · exact goes same

theorem exec_sound (c : Instr) {s : State} (h : s.Sound) : ∃ t, exec c s = .next t ∧ t.Sound := by
  obtain ⟨t, ht, ha, hp⟩ := exec_agreeing_placed c h
  exact ⟨t, ht, (exec_planStep ht).pooled h.pooled, ha, hp⟩

theorem PlanKept.sound {s t : State} (k : PlanKept s t) (h : s.Sound) : t.Sound :=
  ⟨k.planStep.pooled h.pooled, k.goesOn.agreeing h.agreeing, k.goesOn.placed h.placed⟩

end Sys2Proof.Machine

namespace Sys2Proof.Proofs
open Sys2Proof.Machine

/-- Settles O5: only a tick, the brake timer and a round result need a record, which is where they look for it; what each
command leaves of the round, of its records and of the pool is sound again. -/
theorem everyStepAnswersAndStaysSound : Obligations.EveryStepAnswersAndStaysSound := by
  intro s h
  cases hp : s.pending with
  | cons c rest =>
    rw [step_of_waiting hp]
    exact exec_sound c (PlanKept.sound (s := s) (t := s.withPending rest) (.of_blocks rfl rfl rfl rfl rfl) h)
  | nil =>
    rw [step_of_empty hp]
    cases hd : due s with
    | none =>
      rw [idle_of_none hd]
      exact ⟨_, rfl, PlanKept.sound (s := s) (t := passMicrosecond s) (.of_blocks rfl rfl rfl rfl rfl) h⟩
    | some c =>
      rw [idle_of_due hd]
      have drawn : PlanKept s (drawReply c s) := by cases c <;> exact .of_blocks rfl rfl rfl rfl rfl
      exact exec_sound c (drawn.sound h)

end Sys2Proof.Proofs
end

section
/-! Headers that open an intake, and headers while one is open (R50 to R53); hence O49 and O50. -/

namespace Sys2Proof.Machine

/-- The checks of R50 find nothing against an admitted header. -/
theorem State.AdmitsHeader.headerFails_none {s : State} {h : Header} (a : s.AdmitsHeader h) {role : Role}
    (hrole : s.ownRole = some role) : headerFails s h = none := by
  have selected : ¬(h.kind = .excursion ∧ excursionSelected s = true) := by
    rintro ⟨hk, hsel⟩
    obtain ⟨he, hq⟩ := (excursionSelected_iff s).mp hsel
    obtain ⟨e, he⟩ := Option.ne_none_iff_exists'.mp he
    rw [he, Option.map_some, Option.bind_eq_some_iff] at hq
    obtain ⟨r, hr, hrq⟩ := hq
    exact a.unselected hk r e e.seq hr he hrq rfl
  have order : ¬(h.kind = .planned ∧ h.seq ≤ s.store.lastAppended) := fun ⟨hk, hl⟩ => by
    have := a.order hk
    omega
  have held : ¬s.store.holds h.seq = true := fun hh => a.fresh ((s.store.holds_iff _).mp hh)
  have counted : rosterCountZero s.items h.counts = false := by
    simpa [rosterCountZero, Items.inRoster] using fun r _ => a.roster r
  have range : ¬(h.seq = 0 ∨ h.dwell < 1000000 ∨ 3600000000 < h.dwell ∨ h.windowClose < h.windowOpen ∨
      rosterCountZero s.items h.counts = true) := by
    rw [counted]
    have := a.seq
    have := a.dwell
    have := a.window
    simp only [Bool.false_eq_true, or_false]
    omega
  have room : ¬(h.kind = .planned ∧ Config.pendingCapacity ≤ s.store.queue.length) := fun ⟨hk, hl⟩ => by
    have := a.room hk
    simp only [Config.pendingCapacity] at hl
    omega
  have pool : ¬freeFor s h.kind < ownCount s h.counts := by
    rw [ownCount, hrole, freeFor]
    exact not_lt.mpr (a.pool role hrole)
  rw [headerFails, if_neg selected, if_neg order, if_neg held, if_neg range, if_neg room, if_neg pool]

theorem countAbove6_eq_false {x : PerRole Nat} (h : ∀ r, x.get r ≤ 6) : countAbove6 x = false := by
  simpa [countAbove6] using fun r _ => h r

/-- A well-formed header in RUN without ESTOP comes to the intake (R36, R40, R50). -/
theorem judgePlanHead_reads {h : HeadFields} {k : RecordKind} {s : State} (hs : h.seq < 2 ^ 16)
    (ho : h.windowOpen < 2 ^ 48) (hw : h.windowClose < 2 ^ 48) (hd : h.dwell < 2 ^ 32) (hk : kindOfCode h.kind = some k)
    (hc : ∀ r, h.counts.get r ≤ 6) : judgePlanHead (headPayload h) s = judgeHeader (headerOf h k) s := by
  have hkind : h.kind ≤ 1 := by
    by_contra hn
    rw [kindOfCode_none (not_le.mp hn)] at hk
    cases hk
  have hf := readHead_headPayload hs (by omega) ho hw hd fun r => (hc r).trans_lt (by decide)
  exact judgePlanHead_header hf hk (countAbove6_eq_false hc)

section
variable {h : Header} {s : State} (hr : s.conf.life = .run) (he : s.hold.causes.estop = false)
include hr he

theorem judgeHeader_closed (hi : s.store.intake = none) (hf : headerFails s h = none) :
    judgeHeader h s = take (takeHeader h s) := by
  simp [judgeHeader, State.inRun, hr, he, hi, hf]

theorem judgeHeader_open {i : Intake} (hi : s.store.intake = some i) :
    judgeHeader h s = if i.header = h then take s else refuseHead .busy h.seq s := by
  simp [judgeHeader, State.inRun, hr, he, hi]

end

/-- The store of a taken header: the loaded excursion gone, the own count reserved (R51, R52). -/
theorem takeHeader_store (h : HeadFields) (k : RecordKind) (s : State) :
    (takeHeader (headerOf h k) s).store =
      { s.store with
        excursion := if k = .excursion then none else s.store.excursion
        free := (takeHeader (headerOf h k) s).store.free
        intake := some
          { header := headerOf h k, reserved := ownCount s h.counts, segments := [], nextExpected := 0
            lastTaken := none, start := s.now } } := by
  cases k <;> rfl

theorem takeHeader_free {h : HeadFields} {k : RecordKind} {s : State} (hn : ownCount s h.counts ≤ freeFor s k) :
    (takeHeader (headerOf h k) s).store.free + ownCount s h.counts = freeFor s k := by
  have hfree : (takeHeader (headerOf h k) s).store.free = freeFor s k - ownCount s h.counts := by
    have := makeRoom_free (headerOf h k) s
    exact congrArg (· - ownCount s h.counts) this
  omega

end Sys2Proof.Machine

namespace Sys2Proof.Proofs
open Sys2Proof.Machine

/-- Settles O49: no check of R50 finds anything, and the header is taken. -/
theorem headerOpensAnIntake : Obligations.HeaderOpensAnIntake := by
  intro o h k role s hs ho hw hd hk a hrole hp c loaded
  have hcount : ownCount s h.counts = h.counts.get role := by rw [ownCount, hrole]
  have hf := a.headerFails_none hrole
  have hj : judgePlanHead (headPayload h) s = take (takeHeader (headerOf h k) s) := by
    rw [judgePlanHead_reads hs ho hw hd hk a.counts, judgeHeader_closed a.run a.estop a.closed hf]
  refine ⟨_, congrArg Host.Outcome.next (hear_taken hp rfl hj), ?_, ?_⟩
  · rw [← hcount]
    exact congrArg (fun p => (s.withStore p).receiving _) (takeHeader_store h k s)
  · rw [← hcount]
    exact takeHeader_free (headerFits_of_none hf).entries

/-- Settles O50: the open intake's header is compared with the one heard. -/
theorem headerWhileAnIntakeIsOpen : Obligations.HeaderWhileAnIntakeIsOpen := by
  intro o h k i s hs ho hw hd hk hc hr he hi hp c
  have hj : judgePlanHead (headPayload h) s =
      if i.header = headerOf h k then take s else refuseHead .busy h.seq s := by
    rw [judgePlanHead_reads hs ho hw hd hk hc, judgeHeader_open hr he hi]
    rfl
  refine ⟨fun e => ?_, fun e => ?_⟩
  · rw [if_pos e] at hj
    exact congrArg Host.Outcome.next (hear_taken hp rfl hj)
  · rw [if_neg e] at hj
    refine ⟨_, rfl, ?_, ?_⟩
    · exact hear_refused hp rfl hj
    · exact (hear_refused hp rfl hj).rest ▸ hi

end Sys2Proof.Proofs
end

section
/-! The state after reset meets the invariants (R1, R34, R49, R63, R94, R95, R130, R160, R168, R175); hence O2. -/

namespace Sys2Proof.Machine

theorem reset_atRest : State.reset.AtRest := by constructor <;> rfl

theorem reset_dormant : State.reset.Dormant := fun _ => reset_atRest

theorem reset_pooled : State.reset.Pooled := ⟨rfl, nofun, nofun, fun _ => by decide⟩

/-- Reset is what a hard reset with its straps leaves of it. -/
theorem reset_sound : State.reset.Sound :=
  have ⟨agreeing, placed⟩ := hardReset_sound 1 1 (s := State.reset) (t := State.reset) rfl
  ⟨reset_pooled, agreeing, placed⟩

theorem reset_bounded : State.reset.Bounded := ⟨reset_dormant, by decide, by decide, by decide, by decide⟩

theorem reset_timed : State.reset.Timed := ⟨Nat.zero_le _, nofun⟩

theorem reset_traceBounded : State.reset.axis.TraceBounded := ⟨Nat.zero_le _, nofun⟩

/-- Every default lies in its range (R175). -/
theorem reset_inRange (i : Item) : i.lo ≤ State.reset.items.read i ∧ State.reset.items.read i ≤ i.hi := by
  cases i
  case addr r => cases r <;> decide
  all_goals decide

theorem reset_configured : State.reset.Configured where
  ranges := reset_inRange
  step := by decide
  settle := ⟨by decide, by decide, .inl (by decide)⟩
  brake := ⟨by decide, by decide, .inl (by decide)⟩
  rate := rfl

end Sys2Proof.Machine

namespace Sys2Proof.Proofs
open Sys2Proof.Machine

/-- Settles O2: invariant by invariant, from the hard-reset values. -/
theorem resetMeetsTheInvariants : Obligations.ResetMeetsTheInvariants :=
  ⟨reset_sound, SpanPort.afterReset_ordered, PlanStore.afterReset_ordered, ⟨rfl, rfl⟩, reset_bounded, reset_timed,
    reset_traceBounded, reset_configured, reset_dormant⟩

end Sys2Proof.Proofs
end

section
/-! RESTART (R64, R178): the plan emptied, the axis on its brake, the causes that persist taken as raised; hence O32. -/

namespace Sys2Proof.Machine

/-- The axis rests on its brake: nothing is left for a hold to change of it. -/
structure OnBrake (s : State) : Prop where
  motion : s.traj.motion = .braked
  settle : s.axis.settle = none
  driveEnable : s.axis.driveEnable = false
  brakeApplied : s.axis.brakeApplied = true

/-- The outputs of the brake, where they are out already, are no new transfer (R160). -/
theorem enterBraked_axis {s : State} (hd : s.axis.driveEnable = false) (hb : s.axis.brakeApplied = true) :
    (enterMotion .braked s).axis = s.axis := by
  rw [← State.withAxis_same (s := s)]
  cases hx : s.axis
  simp_all [enterMotion, settleOutputs, driveOn]

theorem motionUnderHold_braked {s : State} (h : s.traj.motion = .braked) : motionUnderHold s = .braked := by
  rw [motionUnderHold, h]

theorem stopBrakeTimer_braked {s : State} (h : s.traj.motion = .braked) : stopBrakeTimer s = s := by
  rw [stopBrakeTimer, h]

/-- A hold finds nothing to do on the brake (R135, R136, R160, R165). -/
theorem actOnCause_onBrake (x : Cause) {s : State} (h : OnBrake s) : (actOnCause x s).axis = s.axis := by
  have hm : (dropSettle (holdPlan s)).traj.motion = .braked := h.motion
  have hdrop : (dropSettle (holdPlan s)).axis = s.axis := by
    have hs := h.settle
    cases hx : s.axis
    simp_all [dropSettle, holdPlan]
  have hhold : takeHold x.isLine s = enterMotion .braked (dropSettle (holdPlan s)) := by
    simp only [takeHold, stopBrakeTimer_braked hm, motionUnderHold_braked hm, ite_self]
  have haxis : (actOnCause x s).axis = (takeHold x.isLine s).axis := by simp [actOnCause]
  rw [haxis, hhold, enterBraked_axis (hdrop ▸ h.driveEnable) (hdrop ▸ h.brakeApplied), hdrop]

theorem retakeAll_onBrake (l : List Cause) {s : State} (h : OnBrake s) :
    (l.foldl retakeCause s).axis = s.axis := by
  induction l generalizing s with
  | nil => rfl
  | cons x l ih =>
    rw [List.foldl_cons]
    cases hx : s.hold.causes.has x
    · rw [retakeCause_of_not hx]
      exact ih h
    · rw [retakeCause_of_has hx]
      have ha := actOnCause_onBrake x h
      rw [← ha]
      refine ih ⟨?_, ha ▸ h.settle, ha ▸ h.driveEnable, ha ▸ h.brakeApplied⟩
      rw [actOnCause_traj_braked h.motion]
      exact h.motion

/-- The state in which RESTART retakes the causes (R64, R178). -/
def restarted (s : State) : State := enterMotion .braked (clearedBlocks s)

theorem restarted_onBrake (s : State) : OnBrake (restarted s) := ⟨rfl, rfl, rfl, rfl⟩

/-- Of the causes, DRIVE and TIME can persist through a RESTART (R64, R144). -/
theorem takeRestart_eq {s : State} (he : s.hold.causes.estop = false) :
    takeRestart s = [Cause.drive, .time].foldl retakeCause (restarted s) := by
  have cleared : ∀ x, x = .following ∨ x = .encoder ∨ x = .estop →
      (restarted s).hold.causes.has x = false := by
    rintro x (rfl | rfl | rfl)
    exacts [rfl, rfl, he]
  have estop : (retakeCause (restarted s) .drive).hold.causes.has .estop = false := by
    rw [(retakeCause_retaken ..).causes]
    exact cleared .estop (by simp)
  rw [takeRestart, retakeCauses, ← restarted]
  simp only [List.foldl_cons, List.foldl_nil, retakeCause_of_not (cleared .following (by simp)),
    retakeCause_of_not (cleared .encoder (by simp)), retakeCause_of_not estop]

theorem atRest_iff_code (m : Motion) : atRest m = true ↔ motionCode m ∈ [4, 5] := by
  cases m <;> simp [atRest, motionCode]

theorem judgeRestart_eq (s : State) :
    judgeRestart s =
      if s.conf.life ≠ .run ∨ motionCode s.traj.motion ∉ [4, 5] then refused .state 7 s else take (takeRestart s) := by
  rw [judgeRestart, ← ite_not]
  refine if_congr ?_ rfl rfl
  rw [Bool.and_eq_true, State.inRun, decide_eq_true_eq, atRest_iff_code]
  tauto

section
variable {s : State} (he : s.hold.causes.estop = false)
include he

theorem takeRestart_retaken : CausesRetaken (restarted s) (takeRestart s) := by
  rw [takeRestart_eq he]
  exact retakeAll_retaken _ _

theorem takeRestart_axis : (takeRestart s).axis = (restarted s).axis := by
  rw [takeRestart_eq he]
  exact retakeAll_onBrake _ (restarted_onBrake s)

/-- With neither DRIVE nor TIME in the set nothing is retaken. -/
theorem takeRestart_quiet (hd : s.hold.causes.drive = false) (ht : s.hold.causes.time = false) :
    takeRestart s = restarted s := by
  rw [takeRestart_eq he]
  refine retakeAll_none fun x => ?_
  cases x
  exacts [rfl, rfl, hd, he, ht]

theorem takeRestart_held (h : s.hold.causes.drive = true ∨ s.hold.causes.time = true) :
    HeldFromNow s (takeRestart s) := by
  rw [takeRestart_eq he]
  rcases h with h | h
  · exact retakeAll_held (s := restarted s) (x := .drive) (by simp) h
  · exact retakeAll_held (s := restarted s) (x := .time) (by simp) h

/-- A cause that persists has its HOLD queued, with seq 0 as the current slot is empty (R140). -/
theorem takeRestart_queued (hl : s.conf.life = .run) {x : Cause} (hx : (restarted s).hold.causes.has x = true)
    (room : Room s 2) :
    Queued (takeRestart s)
      ⟨.hold, s.conf.straps.address, 0x3E, holdPayload ⟨causeCode x, 0, causeBits (restarted s).hold.causes⟩⟩
      (s.now + 50000) := by
  have hm : x ∈ [Cause.drive, .time] := by
    cases x
    · cases hx
    · cases hx
    · simp
    · cases he.symm.trans hx
    · simp
  rw [takeRestart_eq he]
  exact retakeAll_queued (l := [.drive, .time]) (s := restarted s) (fun h => nomatch hl.symm.trans h) room hm hx

end

end Sys2Proof.Machine

namespace Sys2Proof.Proofs
open Sys2Proof.Machine

/-- Settles O32: the refusals, then the cleared blocks with DRIVE and TIME retaken, which leaves the axis as it is on its
brake. -/
theorem restartClearsThePlan : Obligations.RestartClearsThePlan := by
  intro o s hp c
  refine ⟨_, rfl, ite_prop_iff_and.mpr ⟨fun he => hearCommand_refused hp rfl rfl (gateEstop_on he), fun he => ?_⟩⟩
  replace he : s.hold.causes.estop = false := by simpa using he
  have hgate : gateEstop 7 judgeRestart s = judgeRestart s := gateEstop_off he
  refine ite_prop_iff_and.mpr
    ⟨fun hr => hearCommand_refused hp rfl rfl (hgate.trans ((judgeRestart_eq s).trans (if_pos hr))), fun hr => ?_⟩
  rw [show hearCommand 7 1 o [] (gateEstop 7 judgeRestart) s = _ from
    hearCommand_taken hp rfl rfl (hgate.trans ((judgeRestart_eq s).trans (if_neg hr)))]
  have hl : s.conf.life = .run := by
    by_contra h
    exact hr (.inl h)
  have retaken := takeRestart_retaken he
  have axis := takeRestart_axis he
  have store : (takeRestart s).store = .afterReset := by simp [takeRestart, clearedBlocks]
  have hstore : (takeRestart s).store.queue = [] ∧ (takeRestart s).store.current = none ∧
      (takeRestart s).store.ret = none ∧ (takeRestart s).store.excursion = none ∧ (takeRestart s).store.free = 128 ∧
      (takeRestart s).store.intake = none ∧ (takeRestart s).store.lastAppended = 0 ∧
      (takeRestart s).store.lastCommitted = 0 := by
    rw [store]
    exact ⟨rfl, rfl, rfl, rfl, rfl, rfl, rfl, rfl⟩
  refine ⟨rfl, by simp [takeRestart, clearedBlocks], by simp [takeRestart, clearedBlocks],
    by simp [takeRestart, clearedBlocks], hstore,
    ⟨retaken.trigger rfl, retaken.abandon rfl, retaken.dwell rfl, retaken.abandonSent⟩, retaken.traj rfl, ?_, ?_,
    retaken.causes, retaken.peerHold, fun hd ht => ?_, fun h => ?_⟩
  · simp only [State.receiving_axis, axis]
    rfl
  · intro x hd hx
    simp only [State.receiving_axis, axis]
    simp [restarted, enterMotion, settleOutputs, driveOn, clearedBlocks, restartAxis, State.lastSetpoint, hd, hx]
  · simp only [takeRestart_quiet he hd ht]
    exact ⟨rfl, rfl, rfl⟩
  · obtain ⟨hplan, htimer⟩ := takeRestart_held he h
    refine ⟨hplan, htimer, fun x hx room => ?_⟩
    have q := takeRestart_queued he hl (retaken.causes ▸ hx) room
    rw [← retaken.causes] at q
    exact q

end Sys2Proof.Proofs
end

section
/-! A skip apart from its event, and the round that starts after the skips (R61, R98 to R102). -/

namespace Sys2Proof.Machine

/-! ### A skip without its event (R61, R101) -/

/-- A record skipped, the event of the skip left out. -/
def quietSkip (q : Nat) (s : State) : State :=
  if PlanStore.slotHolds s.store.current q then
    standOnRemoval (dropSettle (dropDwellOf q (s.withStore (s.store.remove q))))
  else s.withStore (s.store.remove q)

theorem skipRecord_eq (q v : Nat) (s : State) : skipRecord q v s = report .skipped q (valueU v) (quietSkip q s) := rfl

theorem dropSlot_eq_filter (slot : Option Record) (q : Nat) :
    PlanStore.dropSlot slot q = slot.filter fun r => decide (r.seq ≠ q) := by
  rcases slot with _ | r
  · rfl
  · by_cases h : r.seq = q <;> simp [PlanStore.dropSlot, PlanStore.slotHolds, Option.filter, h]

theorem standsOnRemoval_iff (m : Motion) : standsOnRemoval m = true ↔ motionCode m ≤ 2 ∨ motionCode m = 6 := by
  cases m <;> simp [standsOnRemoval, motionCode]

theorem standsOnRemoval_not (m : Motion) : standsOnRemoval m = false ↔ motionCode m ∈ [3, 4, 5] := by
  cases m <;> simp [standsOnRemoval, motionCode]

theorem standOnRemoval_stays {s : State} (h : standsOnRemoval s.traj.motion = false) : standOnRemoval s = s :=
  if_neg (by simp [h])

theorem standOnRemoval_stands {s : State} (h : standsOnRemoval s.traj.motion = true) :
    standOnRemoval s = enterMotion (.standing s.lastSetpoint) s.drawSetpoint := if_pos h

/-- The mode is all that a removal changes of the trajectory unit. -/
theorem standOnRemoval_traj (s : State) :
    (standOnRemoval s).traj = { s.traj with motion := (standOnRemoval s).traj.motion } := by
  simp only [standOnRemoval]
  split <;> simp [enterMotion]

/-- The outputs are all that a removal changes of the axis. -/
theorem standOnRemoval_axis (s : State) :
    (standOnRemoval s).axis =
      { s.axis with
        driveEnable := (standOnRemoval s).axis.driveEnable, brakeApplied := (standOnRemoval s).axis.brakeApplied
        link := (standOnRemoval s).axis.link } := by
  simp only [standOnRemoval]
  split <;> simp [enterMotion, settleOutputs]

/-- What a change of mode does to the axis (R160). -/
theorem enterMotion_axis_eq (m : Motion) (s : State) :
    (enterMotion m s).axis =
      { s.axis with
        driveEnable := driveOn m s.hold.causes, brakeApplied := !driveOn m s.hold.causes
        link :=
          if s.axis.driveEnable && !driveOn m s.hold.causes then some ⟨false, s.lastSetpoint, 0⟩ else s.axis.link } :=
  rfl

theorem dropDwellOf_round (q : Nat) (s : State) :
    (dropDwellOf q s).round = { s.round with dwell := s.round.dwell.filter fun d => decide (d.seq ≠ q) } := by
  have same : s.round = { s.round with dwell := s.round.dwell } := rfl
  rcases hd : s.round.dwell with _ | d
  · rw [hd] at same
    simpa [dropDwellOf, hd] using same
  · rw [hd] at same
    by_cases h : d.seq = q
    · simp [dropDwellOf, hd, Option.filter, h]
    · simpa [dropDwellOf, hd, Option.filter, h] using same

section
variable {q : Nat} {s : State}

theorem quietSkip_away (h : PlanStore.slotHolds s.store.current q = false) :
    quietSkip q s = s.withStore (s.store.remove q) := if_neg (by simp [h])

theorem quietSkip_current (h : PlanStore.slotHolds s.store.current q = true) :
    quietSkip q s = standOnRemoval (dropSettle (dropDwellOf q (s.withStore (s.store.remove q)))) := if_pos h

@[simp] theorem quietSkip_store (q : Nat) (s : State) : (quietSkip q s).store = s.store.remove q := by
  simp only [quietSkip]
  split <;> simp

@[simp] theorem quietSkip_port (q : Nat) (s : State) : (quietSkip q s).port = s.port := by
  simp only [quietSkip]
  split <;> simp

theorem slotHolds_eq_true_of {x : Option Record} (h : ∃ r, x = some r ∧ r.seq = q) : PlanStore.slotHolds x q = true :=
  (slotHolds_iff x q).mpr h

/-- A skip leaves what R61 and R101 say. -/
theorem quietSkip_skippedFrom (q : Nat) (s : State) : SkippedFrom q s (quietSkip q s) where
  queue := by
    rw [quietSkip_store]
    exact congrArg (s.store.queue.filter ·) (funext fun r => (decide_not (p := r.seq = q)).symm)
  current := by rw [quietSkip_store]; exact dropSlot_eq_filter ..
  ret := by rw [quietSkip_store]; exact dropSlot_eq_filter ..
  excursion := by rw [quietSkip_store]; exact dropSlot_eq_filter ..
  pool := by rw [quietSkip_store]; exact (PlanStore.shrinks_remove s.store q).pool
  intake := by rw [quietSkip_store]; rfl
  appended := by rw [quietSkip_store]; exact ⟨rfl, rfl⟩
  away := fun h => by
    have hn : PlanStore.slotHolds s.store.current q = false := by
      rw [← Bool.not_eq_true, slotHolds_iff]
      exact fun ⟨r, hr, hq⟩ => h r hr hq
    rw [quietSkip_away hn]
    rfl
  stands := fun h hm => by
    rw [quietSkip_current (slotHolds_eq_true_of h), standOnRemoval_stands ((standsOnRemoval_iff _).mpr (by simpa using hm))]
    exact ⟨_, rfl, fun x hx => lastSetpoint_of_some (by simpa [dropSettle] using hx)⟩
  outputs := fun h hm => by
    rw [quietSkip_current (slotHolds_eq_true_of h), standOnRemoval_stands ((standsOnRemoval_iff _).mpr (by simpa using hm))]
    exact settleOutputs_outputsSafe _
  stays := fun hm => by
    cases hc : PlanStore.slotHolds s.store.current q
    · rw [quietSkip_away hc, State.withStore_traj]
    · rw [quietSkip_current hc, standOnRemoval_stays ((standsOnRemoval_not _).mpr (by simpa using hm))]
      simp
  settle := fun h => by
    rw [quietSkip_current (slotHolds_eq_true_of h), standOnRemoval_axis]
    rfl
  dwell := fun h => by
    rw [quietSkip_current (slotHolds_eq_true_of h), standOnRemoval_round, dropSettle_round, dropDwellOf_round]
    rfl
  rest := by
    cases hc : PlanStore.slotHolds s.store.current q
    · rw [quietSkip_away hc]
      exact ⟨rfl, rfl, rfl, rfl, rfl, rfl, rfl⟩
    · rw [quietSkip_current hc]
      refine ⟨by simp, by simp, by simp, by simp, by simp, ?_, ?_⟩
      · rw [standOnRemoval_traj]
        simp
      · rw [standOnRemoval_axis]
        simp [dropSettle]

end

/-! ### The axis beside the frames composed -/

/-- Two states are the same but for the frames composed, the round begun and the peer-hold mark. -/
structure SameAxis (s t : State) : Prop where
  time : t.time = s.time
  store : t.store = s.store
  traj : t.traj = s.traj
  axis : t.axis = s.axis
  conf : t.conf = s.conf
  pins : t.pins = s.pins
  freeDraws : t.freeDraws = s.freeDraws
  dwell : t.round.dwell = s.round.dwell
  linkState : t.port.linkState = s.port.linkState
  causes : t.hold.causes = s.hold.causes

theorem SameAxis.refl (s : State) : SameAxis s s := ⟨rfl, rfl, rfl, rfl, rfl, rfl, rfl, rfl, rfl, rfl⟩

section
variable {s t : State} (h : SameAxis s t)
include h

theorem SameAxis.lastSetpoint : t.lastSetpoint = s.lastSetpoint := by
  simp only [State.lastSetpoint, h.axis, h.freeDraws]

theorem SameAxis.withStore (p : PlanStore) : SameAxis (s.withStore p) (t.withStore p) := { h with store := rfl }

theorem SameAxis.dropSettle : SameAxis (dropSettle s) (dropSettle t) :=
  { h with axis := by simp only [Machine.dropSettle, State.withAxis_axis, h.axis] }

theorem SameAxis.dropDwellOf (q : Nat) : SameAxis (dropDwellOf q s) (dropDwellOf q t) := by
  obtain ⟨h1, h2, h3, h4, h5, h6, h7, h8, h9, h10⟩ := h
  constructor <;> simp [dropDwellOf_round, *]

theorem SameAxis.drawSetpoint : SameAxis s.drawSetpoint t.drawSetpoint := by
  have hf : t.drawSetpoint.freeDraws = s.drawSetpoint.freeDraws := by
    simp only [State.drawSetpoint, h.axis]
    split
    · exact congrArg (· + 1) h.freeDraws
    · exact h.freeDraws
  obtain ⟨h1, h2, h3, h4, h5, h6, -, h8, h9, h10⟩ := h
  constructor <;> simp [*]

theorem SameAxis.enterMotion (m : Motion) : SameAxis (enterMotion m s) (enterMotion m t) := by
  have ha : (Machine.enterMotion m t).axis = (Machine.enterMotion m s).axis := by
    rw [enterMotion_axis_eq, enterMotion_axis_eq, h.axis, h.causes, h.lastSetpoint]
  have ht : (Machine.enterMotion m t).traj = (Machine.enterMotion m s).traj := by
    simp only [Machine.enterMotion, settleOutputs_traj, State.withTraj_traj, h.traj]
  obtain ⟨h1, h2, -, -, h5, h6, h7, h8, h9, h10⟩ := h
  constructor <;> simp [*]

theorem SameAxis.standOnRemoval : SameAxis (standOnRemoval s) (standOnRemoval t) := by
  simp only [Machine.standOnRemoval, h.traj, h.lastSetpoint]
  split
  · exact h.drawSetpoint.enterMotion _
  · exact h

theorem SameAxis.quietSkip (q : Nat) : SameAxis (quietSkip q s) (quietSkip q t) := by
  simp only [Machine.quietSkip, h.store]
  split
  · exact ((h.withStore _).dropDwellOf q).dropSettle.standOnRemoval
  · exact h.withStore _

/-- An event composed in the first state. -/
theorem SameAxis.ofReport (e : EventKind) (q : Nat) (v : BitVec 32) : SameAxis (report e q v s) t := by
  have hl := (report_sameLink e q v s).state
  obtain ⟨h1, h2, h3, h4, h5, h6, h7, h8, h9, h10⟩ := h
  constructor <;> simp [*]

end

/-- A proposal is computed from the track, the axis and the configuration (R81 to R83). -/
theorem SameAxis.computeProposal {s t : State} (h : SameAxis s t) (rec : Record) (e : Nat) :
    computeProposal s rec e = computeProposal t rec e := by
  have hs : s = ((((t.withPort s.port).withRound s.round).withHold s.hold).withPending s.pending) := by
    apply State.eq_of_fields <;> simp [h.time, h.store, h.traj, h.axis, h.conf, h.pins, h.freeDraws]
  rw [hs]
  rfl

/-! ### Selection (R99, R100) -/

theorem selectRecord_eq_choice (p : PlanStore) (k : RoundKind) : selectRecord p k = p.choice k := by
  have after : selectRecord.afterCurrent p = (p.ret <|> p.queue.head?) := by
    rw [selectRecord.afterCurrent]
    rcases p.ret with _ | r <;> rfl
  cases k
  case breakRound => rfl
  case returnRound => exact after
  case ordinary =>
    simp only [selectRecord, PlanStore.choice, after]
    rcases p.current with _ | r
    · rfl
    · cases hd : r.dwellDone <;> simp [Option.filter, hd]

theorem kindAfterSkip_eq (k : RoundKind) : kindAfterSkip k = if k = .breakRound then .ordinary else k := by
  cases k <;> rfl

theorem choice_held {p : PlanStore} {k : RoundKind} {r : Record} (h : p.choice k = some r) : r.seq ∈ p.heldSeqs :=
  selectRecord_held ((selectRecord_eq_choice p k).trans h)

theorem toList_dropSlot (slot : Option Record) (n : Nat) :
    ((PlanStore.dropSlot slot n).map Record.seq).toList = (slot.map Record.seq).toList.filter fun m => decide (m ≠ n) := by
  rcases slot with _ | r
  · rfl
  · by_cases h : r.seq = n <;> simp [PlanStore.dropSlot, PlanStore.slotHolds, h]

/-- A removed seq is held nowhere, every other where it was. -/
theorem heldSeqs_remove (p : PlanStore) (n : Nat) :
    (p.remove n).heldSeqs = p.heldSeqs.filter fun m => decide (m ≠ n) := by
  have queue : (p.queue.filter fun r => !decide (r.seq = n)).map Record.seq =
      (p.queue.map Record.seq).filter fun m => decide (m ≠ n) := by
    rw [List.filter_map]
    exact congrArg (List.map Record.seq) (congrArg (p.queue.filter ·) (funext fun r => (decide_not (p := r.seq = n)).symm))
  simp only [PlanStore.heldSeqs, PlanStore.remove, List.filter_append, toList_dropSlot, queue]

theorem heldSeqs_remove_lt {p : PlanStore} {n : Nat} (h : n ∈ p.heldSeqs) :
    (p.remove n).heldSeqs.length < p.heldSeqs.length := by
  rw [heldSeqs_remove]
  exact List.length_filter_lt_length_iff_exists.mpr ⟨n, h, by simp⟩

theorem length_heldSeqs_le (p : PlanStore) : p.heldSeqs.length ≤ p.queue.length + 3 := by
  have slot : ∀ x : Option Nat, x.toList.length ≤ 1 := by rintro (_ | _) <;> simp
  have := slot (p.current.map Record.seq)
  have := slot (p.ret.map Record.seq)
  have := slot (p.excursion.map Record.seq)
  simp only [PlanStore.heldSeqs, List.length_append, List.length_map]
  omega

theorem choice_open {p : PlanStore} {k : RoundKind} {n : Nat} (h : ∀ r, p.choice k = some r → ¬r.header.windowClose < n) :
    p.Open k n := fun r hr => not_lt.mp (h r hr)

/-- What a selection from `s` makes of it, as `u` goes through its skips without their events to `v` (R99 to R101). -/
structure Selected (e : Nat) (k : RoundKind) (s u : State) (x : Selection) (gone : List Nat) (v : State) : Prop where
  skips : WindowSkips (e + u.items.tAgree) k u gone x.kind v
  same : SameAxis x.state v
  record : x.record = v.store.choice x.kind
  round : ∃ d, x.state.round = { s.round with dwell := d }
  hold : x.state.hold = s.hold
  joins : Joins AnyFrame gone.length s.port x.state.port
  told : ∀ q ∈ gone, Enabled s .skipped → s.port.queue.length + gone.length ≤ 8 →
    Queued x.state (eventFrame s .skipped q 0) (s.now + 1000000)

@[simp] theorem quietSkip_conf (q : Nat) (s : State) : (quietSkip q s).conf = s.conf :=
  (quietSkip_skippedFrom q s).rest.2.2.2.1

@[simp] theorem quietSkip_time (q : Nat) (s : State) : (quietSkip q s).time = s.time :=
  (quietSkip_skippedFrom q s).rest.1

/-- The event of a skip (R61). -/
theorem skipRecord_queued {q v : Nat} {s : State} (h : Enabled s .skipped) (room : s.port.queue.length < 8) :
    Queued (skipRecord q v s) (eventFrame s .skipped q (valueU v)) (s.now + 1000000) := by
  have told := report_queued .skipped q (valueU v) (quietSkip q s) (by simpa [Enabled, State.items] using h)
    (by simpa using room)
  simpa only [skipRecord_eq, eventFrame, State.now, quietSkip_conf, quietSkip_time] using told

theorem skipRecord_joins (q v : Nat) (s : State) : Joins AnyFrame 1 s.port (skipRecord q v s).port := by
  rw [skipRecord_eq]
  exact report_joins_any (quietSkip_port q s) ..

/-- With fuel above the number of records held the selection ends at an open choice or at none. -/
theorem selectTarget_selected (e : Nat) {n : Nat} (k : RoundKind) {s u : State} (h : SameAxis s u)
    (hn : u.store.heldSeqs.length < n) :
    ∃ gone v, Selected e k s u (selectTarget e n k s) gone v := by
  induction n generalizing k s u with
  | zero => omega
  | succ n ih =>
    simp only [selectTarget, selectRecord_eq_choice, ← h.store]
    rcases hc : u.store.choice k with _ | r
    · exact ⟨[], u, .ended k u (by rw [PlanStore.Open, hc]; exact nofun), h, hc.symm, ⟨_, rfl⟩, rfl, .refl _, nofun⟩
    dsimp only
    have hclosed : windowClosed s e r = decide (r.header.windowClose < e + u.items.tAgree) := by
      rw [windowClosed, State.items, State.items, h.conf]
    by_cases hw : r.header.windowClose < e + u.items.tAgree
    · rw [hclosed, if_pos (by simpa using hw)]
      have hlt := heldSeqs_remove_lt (choice_held hc)
      obtain ⟨gone, v, sel⟩ := ih (kindAfterSkip k) (s := skipRecord r.seq 0 s) (u := quietSkip r.seq u)
        ((h.quietSkip r.seq).ofReport ..) (by rw [quietSkip_store]; omega)
      obtain ⟨skips, same, record, ⟨d, round⟩, hold, joins, told⟩ := sel
      have hjoin := skipRecord_joins r.seq 0 s
      have hitems : (quietSkip r.seq u).items = u.items := by rw [State.items, quietSkip_conf, State.items]
      rw [hitems] at skips
      refine ⟨r.seq :: gone, v,
        .again k _ r u (quietSkip r.seq u) v gone hc hw (quietSkip_skippedFrom ..) (kindAfterSkip_eq k ▸ skips), same,
        record, ?_, hold.trans (by simp), ?_, ?_⟩
      · obtain ⟨d', hd⟩ := skipRecord_round r.seq 0 s
        exact ⟨d, by rw [round, hd]⟩
      · rw [List.length_cons, Nat.add_comm]
        exact hjoin.trans joins
      · intro q hq he hroom
        rw [List.length_cons] at hroom
        have hlen := hjoin.length (by omega)
        rcases List.mem_cons.mp hq with rfl | hq
        · exact (skipRecord_queued (v := 0) he (by omega)).of_joins joins (by omega)
        · have := told q hq (by simpa [Enabled, State.items] using he) (by omega)
          simpa [eventFrame, State.now] using this
    · rw [hclosed, if_neg (by simpa using hw)]
      refine ⟨[], u, .ended k u (choice_open fun x hx => ?_), h, hc.symm, ⟨_, rfl⟩, rfl, .refl _, nofun⟩
      cases hc.symm.trans hx
      exact hw

/-! ### The proposal of a round (R98, R99, R102) -/

theorem leaveForRound_round (s : State) :
    (leaveForRound s).round = { s.round with abandon := none, rounds := s.round.rounds + 1 } := by
  simp only [leaveForRound]
  split <;> rfl

theorem leaveForRound_hold (s : State) :
    (leaveForRound s).hold = if s.round.plan = some .held then { s.hold with peerHold := false } else s.hold := by
  simp only [leaveForRound, planHeld, decide_eq_true_eq]
  split <;> rfl

/-- The state in which a round selects, beside the state it starts from (R98). -/
theorem roundBegun_sameAxis {s u : State} (h : SameAxis s u) (e : Nat) (k : RoundKind) :
    SameAxis (roundBegun (leaveForRound s) e k) u := by
  have hcauses : (leaveForRound s).hold.causes = s.hold.causes := by
    rw [leaveForRound_hold]
    split <;> rfl
  obtain ⟨h1, h2, h3, h4, h5, h6, h7, h8, h9, h10⟩ := h
  constructor <;> simp [*]
  simp [roundBegun, leaveForRound_round]

theorem ownNotReady_iff (s : State) : ownNotReady s = true ↔ s.Barred := by
  simp [ownNotReady, State.Barred, or_assoc]

/-- The own proposal of a target depends on the link, the causes, mount time, the axis and the configuration. -/
theorem SameAxis.formProposal {s t : State} (h : SameAxis s t) (e : Nat) (r : Option Record) :
    formProposal s e r = formProposal t e r := by
  cases r with
  | none => rfl
  | some r => simp only [Machine.formProposal, ownNotReady, h.linkState, h.causes, h.time, h.computeProposal r e]

theorem formProposal_barred {s : State} (e : Nat) (r : Record) (h : s.Barred) :
    formProposal s e (some r) = ⟨.notReady, 0, none⟩ := if_pos ((ownNotReady_iff s).mpr h)

theorem formProposal_ready {s : State} (e : Nat) (r : Record) (h : ¬s.Barred) :
    formProposal s e (some r) = computeProposal s r e := if_neg (mt (ownNotReady_iff s).mp h)

/-- PLAN_EMPTY changes the port alone, and only when no record is selected. -/
theorem formProposal_reportPlanEmpty (e : Nat) (x : Selection) :
    formProposal (reportPlanEmpty x) e x.record = formProposal x.state e x.record := by
  rcases hr : x.record with _ | r
  · rfl
  · rw [reportPlanEmpty, if_neg (by simp [hr])]

/-- The round record with which a round proposes (R98, R102). -/
def proposalOf (e : Nat) (x : Selection) : RoundRecord :=
  freshRound x.state.round.rounds e x.kind (x.record.map Record.seq) (formProposal x.state e x.record)

theorem proposalOf_epoch (e : Nat) (x : Selection) : (proposalOf e x).epoch = e := rfl

theorem proposeFor_eq (e : Nat) (x : Selection) :
    proposeFor e x =
      sendPropose (proposalOf e x)
        ((writeWrap ((x.record.map Record.seq).getD 0) (formProposal x.state e x.record).wrap
            (reportPlanEmpty x).drawSetpoint).withRound
          { x.state.round with plan := some (.inRound (proposalOf e x)) }) := by
  simp only [proposeFor, formProposal_reportPlanEmpty, reportPlanEmpty_round, writeWrap_round, drawSetpoint_round]
  rfl

theorem proposeFor_round (e : Nat) (x : Selection) :
    (proposeFor e x).round = { x.state.round with plan := some (.inRound (proposalOf e x)) } := by
  simp [proposeFor_eq]

theorem proposeFor_store (e : Nat) (x : Selection) :
    (proposeFor e x).store =
      (writeWrap ((x.record.map Record.seq).getD 0) (formProposal x.state e x.record).wrap x.state).store := by
  rw [proposeFor_eq, sendPropose_store, State.withRound_store]
  cases (formProposal x.state e x.record).wrap <;> simp [writeWrap]

theorem reportPlanEmpty_joins (x : Selection) : Joins AnyFrame 1 x.state.port (reportPlanEmpty x).port := by
  simp only [reportPlanEmpty]
  split
  · exact report_joins_any rfl ..
  · exact .refl _

theorem reportPlanEmpty_length {x : Selection} (h : x.state.port.queue.length + 1 < 8) :
    (reportPlanEmpty x).port.queue.length < 8 := by
  have := (reportPlanEmpty_joins x).length (by omega)
  omega

/-- The PROPOSE of a round joins the queue (R37, R102). -/
theorem proposeFor_proposes {e : Nat} {x : Selection} (hl : x.state.conf.life ≠ .strapFault)
    (room : x.state.port.queue.length + 1 < 8) (hd : x.state.now < e + x.state.items.tPropose) :
    Queued (proposeFor e x)
      ⟨.propose, x.state.conf.straps.address, 0x3E,
        callPayload ⟨e, (proposalOf e x).selected.getD 0, verdictCode (proposalOf e x).verdict,
          if (proposalOf e x).verdict = .go then (proposalOf e x).ownD else 0⟩⟩
      (e + x.state.items.tPropose) := by
  have room' := reportPlanEmpty_length room
  rw [proposeFor_eq, sendPropose]
  have sent := offerFrame_queued .propose
    (callPayload ⟨e, (proposalOf e x).selected.getD 0, verdictCode (proposalOf e x).verdict,
      if (proposalOf e x).verdict = .go then (proposalOf e x).ownD else 0⟩)
    (e + x.state.items.tPropose)
    ((writeWrap ((x.record.map Record.seq).getD 0) (formProposal x.state e x.record).wrap
        (reportPlanEmpty x).drawSetpoint).withRound
      { x.state.round with plan := some (.inRound (proposalOf e x)) })
    (by simpa using hl) (by simpa [State.now] using hd) (by simpa using room')
  simpa [ownFrame, State.items, everyRole, proposalOf_epoch] using sent

/-- A frame of another class that is queued before the proposal stays queued. -/
theorem Queued.proposeFor {e : Nat} {x : Selection} {f : Frame} {d : Nat} (q : Queued (reportPlanEmpty x) f d)
    (room : x.state.port.queue.length + 1 < 8) (hc : f.cls ≠ .propose) : Queued (proposeFor e x) f d := by
  have room' := reportPlanEmpty_length room
  rw [proposeFor_eq, sendPropose]
  refine Queued.offerFrame_other (Queued.of_port q ?_) ?_ hc <;> simp [room']

theorem Queued.reportPlanEmpty {x : Selection} {f : Frame} {d : Nat} (q : Queued x.state f d)
    (room : x.state.port.queue.length + 1 < 8) : Queued (reportPlanEmpty x) f d :=
  q.of_joins (reportPlanEmpty_joins x) (by omega)

/-- PLAN_EMPTY of an ordinary round without a target (R99). -/
theorem reportPlanEmpty_queued {x : Selection} (h : Enabled x.state .planEmpty) (hk : x.kind = .ordinary)
    (hr : x.record = none) (hc : x.state.store.choice .ordinary = none) (room : x.state.port.queue.length < 8) :
    Queued (reportPlanEmpty x) (eventFrame x.state .planEmpty 0 0) (x.state.now + 1000000) := by
  have empty : x.state.store.queue = [] ∧ x.state.store.ret = none := by
    simp only [PlanStore.choice, Option.orElse_eq_orElse, Option.orElse_eq_or, Option.or_eq_none_iff,
      List.head?_eq_none_iff] at hc
    exact ⟨hc.2.2, hc.2.1⟩
  rw [reportPlanEmpty, if_pos ⟨hr, hk, empty⟩]
  exact report_queued _ _ _ _ h room

/-! ### A round that starts after its skips (R98 to R102) -/

/-- The selection of a round that starts with the frames of `p` queued. -/
def selectionOf (k : RoundKind) (e : Nat) (s : State) : Selection :=
  selectTarget e (selectionFuel s.store) k (roundBegun (leaveForRound s) e k)

theorem selectionOf_conf (k : RoundKind) (e : Nat) (s : State) : (selectionOf k e s).state.conf = s.conf := by
  simp [selectionOf]

theorem selectionOf_now (k : RoundKind) (e : Nat) (s : State) : (selectionOf k e s).state.now = s.now := by
  simp [selectionOf, State.now]

theorem startRound_eq (k : RoundKind) (e : Nat) (s : State) : startRound k e s = proposeFor e (selectionOf k e s) := by
  simp only [startRound, selectionOf, roundBegun_store, leaveForRound_store]

section
variable {k : RoundKind} {e : Nat} {s u : State} {gone : List Nat} {v : State}
  (h : SameAxis s u) (hround : s.round = u.round) (hhold : s.hold = u.hold)
  (sel : Selected e k (roundBegun (leaveForRound s) e k) u (selectionOf k e s) gone v)
  (hlen : u.port.queue.length + 1 ≤ 8 → s.port.queue.length ≤ u.port.queue.length + 1)
include sel

include hlen in
theorem Selected.room (room : Room u (gone.length + 3)) : (selectionOf k e s).state.port.queue.length + 1 < 8 := by
  have h1 := sel.joins.length
  rw [Room] at room
  simp only [roundBegun_port, leaveForRound_port] at h1
  omega

include h hround hhold hlen in
/-- What a round that starts proposes, from the state before its skips to the state they leave. -/
theorem Selected.proposed :
    RoundProposed e (Room u (gone.length + 3)) u v (startRound k e s) (proposalOf e (selectionOf k e s)) := by
  have hform := sel.same.formProposal e (selectionOf k e s).record
  have hnow : (selectionOf k e s).state.now = u.now := by rw [selectionOf_now, State.now, State.now, h.time]
  have hconf : (selectionOf k e s).state.conf = u.conf := by rw [selectionOf_conf, h.conf]
  have hitems : (selectionOf k e s).state.items = u.items := by rw [State.items, State.items, hconf]
  have hrec := sel.record
  rw [startRound_eq]
  exact
    { plan := by rw [proposeFor_round]
      starts := rfl
      fresh := rfl
      abandon := by
        obtain ⟨d, hd⟩ := sel.round
        rw [proposeFor_round, hd, ← hround]
        simp [roundBegun, leaveForRound_round]
      trigger := by
        obtain ⟨d, hd⟩ := sel.round
        rw [proposeFor_round, hd, ← hround]
        simp [roundBegun, leaveForRound_round]
      peer := by rw [proposeFor_hold, sel.hold, roundBegun_hold, leaveForRound_hold, hround, hhold]
      rest := by
        refine ⟨?_, ?_, ?_⟩ <;> simp [selectionOf, h.time, h.conf, h.pins]
      kept := by
        rw [proposeFor_traj, proposeFor_axis, proposeFor_round]
        exact ⟨sel.same.traj.symm, sel.same.axis.symm, sel.same.dwell.symm⟩
      nothing := fun hc => by
        have hn : (selectionOf k e s).record = none := hrec.trans hc
        simp [proposalOf, freshRound, proposeFor_store, hn, formProposal, writeWrap, sel.same.store]
      selects := fun rec hc => by
        have hs : (selectionOf k e s).record = some rec := hrec.trans hc
        simp [proposalOf, freshRound, hs]
      notReady := fun rec hc hb => by
        have hs : (selectionOf k e s).record = some rec := hrec.trans hc
        rw [hs, formProposal_barred e rec hb] at hform
        simp [proposalOf, freshRound, proposeFor_store, hs, hform, writeWrap, sel.same.store]
      computed := fun rec hc hb => by
        have hs : (selectionOf k e s).record = some rec := hrec.trans hc
        rw [hs, formProposal_ready e rec hb] at hform
        refine ⟨?_, ?_, ?_⟩
        · simp only [proposalOf, freshRound, hs, hform]
        · simp only [proposalOf, freshRound, hs, hform]
        · rw [proposeFor_store, hs, hform]
          cases (computeProposal v rec e).wrap <;> simp [writeWrap, sel.same.store]
      proposes := fun hl room hd => by
        have sent := proposeFor_proposes (e := e) (x := selectionOf k e s) (by rw [hconf]; exact hl)
          (sel.room hlen room) (by rw [hnow, hitems]; exact hd)
        rw [hconf, hitems] at sent
        exact sent
      empty := fun he room hk hc => by
        have hko : (selectionOf k e s).kind = .ordinary := hk
        have told := reportPlanEmpty_queued (x := selectionOf k e s)
          ⟨by rw [hconf]; exact he.1, by rw [hitems]; exact he.2⟩ hko (by rw [hrec, hko, hc])
          (by rw [← sel.same.store]; exact hc) ((Nat.lt_succ_self _).trans (sel.room hlen room))
        rw [eventFrame, hconf, hnow] at told
        exact told.proposeFor (sel.room hlen room) nofun }

include hlen in
/-- A frame other than a PROPOSE that is queued before the round stays queued. -/
theorem Selected.keeps {f : Frame} {d : Nat} (hc : f.cls ≠ .propose) (room : Room u (gone.length + 3))
    (q : Queued s f d) : Queued (startRound k e s) f d := by
  have hr := sel.room hlen room
  have hj := sel.joins
  rw [Room] at room
  simp only [roundBegun_port, leaveForRound_port] at hj
  rw [startRound_eq]
  exact ((q.of_joins hj (by omega)).reportPlanEmpty hr).proposeFor hr hc

end

/-- A round starts as chapter 7 lays down, whatever frame was composed just before; what is queued then stays. -/
theorem startRound_begun (k : RoundKind) (e : Nat) {s u : State} (h : SameAxis s u) (hround : s.round = u.round)
    (hhold : s.hold = u.hold)
    (hlen : u.port.queue.length + 1 ≤ 8 → s.port.queue.length ≤ u.port.queue.length + 1) :
    ∃ r gone, RoundBegun k e u (startRound k e s) r gone ∧
      ∀ f d, f.cls ≠ .propose → Room u (gone.length + 3) → Queued s f d → Queued (startRound k e s) f d := by
  have hfuel : u.store.heldSeqs.length < selectionFuel s.store := by
    have := length_heldSeqs_le u.store
    rw [selectionFuel, ← h.store]
    omega
  obtain ⟨gone, v, sel⟩ := selectTarget_selected e k (roundBegun_sameAxis h e k) hfuel
  change Selected e k _ u (selectionOf k e s) gone v at sel
  refine ⟨_, gone, ⟨v, sel.skips, sel.proposed h hround hhold hlen, fun q hq he room => ?_⟩,
    fun f d hc room => sel.keeps hlen hc room⟩
  have hr := sel.room hlen room
  have told := sel.told q hq (by simpa [Enabled, State.items, h.conf] using he)
    (by rw [Room] at room; simp only [roundBegun_port, leaveForRound_port]; omega)
  have told' : Queued (selectionOf k e s).state (eventFrame u .skipped q 0) (u.now + 1000000) := by
    simpa [eventFrame, State.now, h.conf, h.time] using told
  rw [startRound_eq]
  exact (told'.reportPlanEmpty hr).proposeFor hr (by simp [eventFrame])

/-! ### The skip at S (R96, R108, R109) -/

theorem reRoundKind_eq (k : RoundKind) : reRoundKind k = if k = .returnRound then .returnRound else .ordinary := by
  cases k <;> rfl

/-- A target skipped at S, and the re-round (R96, R101). -/
theorem skipAndReRound_begun (value : Nat) (r : RoundRecord) (s : State) :
    ∃ s' r' gone, SkippedFrom (r.selected.getD 0) s s' ∧
      RoundBegun (if r.kind = .returnRound then .returnRound else .ordinary) (r.epoch + s.items.tAgree) s'
        (skipAndReRound value r s) r' gone ∧
      (Enabled s .skipped → Room s (gone.length + 3) →
        Queued (skipAndReRound value r s) (eventFrame s .skipped (r.selected.getD 0) (BitVec.ofNat 32 value))
          (s.now + 1000000)) := by
  have hport := quietSkip_port (r.selected.getD 0) s
  have hjoin := skipRecord_joins (r.selected.getD 0) value s
  obtain ⟨r', gone, begun, keeps⟩ := startRound_begun (reRoundKind r.kind) (r.epoch + s.items.tAgree)
    (s := skipRecord (r.selected.getD 0) value s) (u := quietSkip (r.selected.getD 0) s)
    (by rw [skipRecord_eq]; exact .ofReport (.refl _) ..) (by simp [skipRecord_eq]) (by simp [skipRecord_eq])
    (fun hl => by rw [hport] at hl ⊢; exact hjoin.length hl)
  refine ⟨_, r', gone, quietSkip_skippedFrom .., reRoundKind_eq r.kind ▸ begun, fun he room => ?_⟩
  exact keeps _ _ (by simp [eventFrame]) (by rw [Room, hport]; exact room)
    (skipRecord_queued he (by rw [Room] at room; omega))

end Sys2Proof.Machine
end

section
/-! The stall and the slew start at S (R62, R84 to R90, R109, R110). -/

namespace Sys2Proof.Machine

/-! ### The stall (R110) -/

/-- A stall ends the round, and its event carries the first row of R110 that applies or a free value. -/
theorem stall_spec (r : RoundRecord) (s : State) :
    ∃ reason, stall r s =
        { s with
          port := (stall r s).port, round := { s.round with plan := some .waiting }, freeDraws := (stall r s).freeDraws } ∧
      (Enabled s .stall → Room s 1 →
        Queued (stall r s) (eventFrame s .stall (r.selected.getD 0) reason) (s.now + 1000000)) ∧
      ∀ v, stallReason s.items r = some v → reason = BitVec.ofNat 32 v := by
  simp only [stall]
  split
  · rename_i v hv
    refine ⟨valueU v, ?_, fun he room => ?_, ?_⟩
    · conv_lhs => rw [report_eq]
      simp
    · exact report_queued .stall _ _ (s.withRound _) he (Nat.lt_of_succ_le room)
    · rintro w hw
      cases hv.symm.trans hw
      rfl
  · rename_i hn
    refine ⟨Config.unstatedStallReason s.freeDraws, ?_, fun he room => ?_, ?_⟩
    · conv_lhs => rw [report_eq]
      simp
    · exact report_queued .stall _ _ ((s.withRound _).withFreeDraws _) he (Nat.lt_of_succ_le room)
    · rintro w hw
      cases hn.symm.trans hw

theorem roleMissing_iff (c : Items) (r : RoundRecord) :
    roleMissing c r = true ↔ ∃ x, c.addr.get x ≠ 15 ∧ r.heard.get x = none := by
  have hroles : ∀ x, x ∈ allRoles := by intro x; cases x <;> decide
  simp [roleMissing, hroles, Items.inRoster]

/-- The own verdict or a heard one is NOT_READY (R110). -/
def RoundRecord.SomeNotReady (r : RoundRecord) : Prop :=
  r.verdict = .notReady ∨ ∃ x h, r.heard.get x = some h ∧ h.verdict = .notReady

/-- A heard proposal names another target (R110). -/
def RoundRecord.Mismatch (r : RoundRecord) : Prop := ∃ x h, r.heard.get x = some h ∧ r.selected ≠ some h.seq

/-- A role of the roster has no heard proposal (R110). -/
def RoundRecord.Missing (c : Items) (r : RoundRecord) : Prop := ∃ x, c.addr.get x ≠ 15 ∧ r.heard.get x = none

theorem someNotReady_iff (r : RoundRecord) :
    (r.verdict = .notReady ∨ ∃ h ∈ heardList r, h.verdict = .notReady) ↔ r.SomeNotReady := by
  simp only [mem_heardList, RoundRecord.SomeNotReady]
  exact or_congr_right ⟨fun ⟨h, ⟨x, hx⟩, hv⟩ => ⟨x, h, hx, hv⟩, fun ⟨x, h, hx, hv⟩ => ⟨h, ⟨x, hx⟩, hv⟩⟩

theorem mismatch_iff (r : RoundRecord) : (∃ h ∈ heardList r, some h.seq ≠ r.selected) ↔ r.Mismatch := by
  simp only [mem_heardList, RoundRecord.Mismatch]
  exact ⟨fun ⟨h, ⟨x, hx⟩, hv⟩ => ⟨x, h, hx, hv.symm⟩, fun ⟨x, h, hx, hv⟩ => ⟨h, ⟨x, hx⟩, hv.symm⟩⟩

section
variable {c : Items} {r : RoundRecord}

theorem stallReason_noTarget (h : r.selected = none) : stallReason c r = some 0 := if_pos h

theorem stallReason_notReady (h : r.selected ≠ none) (hr : r.SomeNotReady) : stallReason c r = some 1 := by
  rw [stallReason, if_neg h, if_pos ((someNotReady_iff r).mpr hr)]

theorem stallReason_mismatch (h : r.selected ≠ none) (hr : ¬r.SomeNotReady) (hm : r.Mismatch) :
    stallReason c r = some 2 := by
  rw [stallReason, if_neg h, if_neg (mt (someNotReady_iff r).mp hr), if_pos ((mismatch_iff r).mpr hm)]

theorem stallReason_missing (h : r.selected ≠ none) (hr : ¬r.SomeNotReady) (hm : ¬r.Mismatch) (hx : r.Missing c) :
    stallReason c r = some 3 := by
  rw [stallReason, if_neg h, if_neg (mt (someNotReady_iff r).mp hr), if_neg (mt (mismatch_iff r).mp hm),
    if_pos ((roleMissing_iff c r).mpr hx)]

theorem stallReason_rolls (h : r.selected ≠ none) (hr : ¬r.SomeNotReady) (hm : ¬r.Mismatch) (hx : ¬r.Missing c)
    (ho : r.outcome = some .skip ∨ ∃ d, r.outcome = some (.go d)) : stallReason c r = some 4 := by
  have rolled : ¬(r.outcome = some .nothing ∨ r.outcome = none) := by
    rcases ho with e | ⟨d, e⟩ <;> simp [e]
  rw [stallReason, if_neg h, if_neg (mt (someNotReady_iff r).mp hr), if_neg (mt (mismatch_iff r).mp hm),
    if_neg (mt (roleMissing_iff c r).mp hx), if_neg rolled]

end

/-! ### The moves of a slew start (R62) -/

section
variable {p : PlanStore} {rec : Record}

theorem slotHolds_of_some {x : Option Record} (h : x = some rec) : PlanStore.slotHolds x rec.seq = true :=
  slotHolds_eq_true_of ⟨rec, h, rfl⟩

/-- A slot does not hold the seq of a record of the same plan that stands elsewhere. -/
theorem not_slotHolds_of {x : Option Record} (h : rec.seq ∉ (x.map Record.seq).toList) :
    ¬PlanStore.slotHolds x rec.seq = true := by
  rw [slotHolds_iff]
  rintro ⟨y, rfl, hy⟩
  exact h (by simp [hy])

theorem moveIn_of_current (h : p.current = some rec) : p.moveIn rec.seq = p := by
  rw [PlanStore.moveIn, if_pos (slotHolds_of_some h)]

theorem moveIn_of_ret (once : p.heldSeqs.Nodup) (h : p.ret = some rec) :
    p.moveIn rec.seq =
      { p with current := some rec, ret := none, free := p.free + PlanStore.slotSize p.current } := by
  have hc : rec.seq ∉ (p.current.map Record.seq).toList := fun hm => by
    simp only [PlanStore.heldSeqs, h, List.nodup_append, Option.map_some, Option.toList_some] at once
    grind
  rw [PlanStore.moveIn, if_neg (not_slotHolds_of hc), if_pos (slotHolds_of_some h), h]

theorem moveIn_of_excursion (once : p.heldSeqs.Nodup) (h : p.excursion = some rec) :
    p.moveIn rec.seq =
      { p with
        current := some rec, excursion := none, ret := p.settleForExcursion.1
        free := p.free + p.settleForExcursion.2 } := by
  have alone : rec.seq ∉ (p.current.map Record.seq).toList ∧ rec.seq ∉ (p.ret.map Record.seq).toList := by
    simp only [PlanStore.heldSeqs, h, List.nodup_append, Option.map_some, Option.toList_some] at once
    grind
  obtain ⟨hc, hr⟩ := alone
  rw [PlanStore.moveIn, if_neg (not_slotHolds_of hc), if_neg (not_slotHolds_of hr), if_pos (slotHolds_of_some h), h]

theorem moveIn_of_queue (once : p.heldSeqs.Nodup) (h : rec ∈ p.queue) :
    p.moveIn rec.seq =
      { p with
        current := some rec, queue := p.queue.erase rec, free := p.free + PlanStore.slotSize p.current } := by
  have hq : rec.seq ∈ p.queue.map Record.seq := List.mem_map_of_mem h
  have alone : (p.queue.map Record.seq).Nodup ∧ rec.seq ∉ (p.current.map Record.seq).toList ∧
      rec.seq ∉ (p.ret.map Record.seq).toList ∧ rec.seq ∉ (p.excursion.map Record.seq).toList := by
    simp only [PlanStore.heldSeqs, List.nodup_append] at once
    grind
  obtain ⟨hn, hc, hr, he⟩ := alone
  have found : p.queue.find? (fun r => decide (r.seq = rec.seq)) = some rec := by
    rcases hf : p.queue.find? (fun r => decide (r.seq = rec.seq)) with _ | y
    · simpa using List.find?_eq_none.mp hf rec h
    · have hy : y.seq = rec.seq := by simpa using List.find?_some hf
      rw [hf, List.inj_on_of_nodup_map hn (List.mem_of_find?_eq_some hf) h hy]
  rw [PlanStore.moveIn, if_neg (not_slotHolds_of hc), if_neg (not_slotHolds_of hr), if_neg (not_slotHolds_of he), found]

/-- A PLANNED record whose dwell is not done goes back to the return slot when an excursion moves in (R62). -/
theorem settleForExcursion_returns {x : Record} (h : p.current = some x) (hk : x.header.kind = .planned)
    (hd : x.dwellDone = false) (hr : p.ret = none) : p.settleForExcursion = (some x, 0) := by
  simp [PlanStore.settleForExcursion, h, hk, hd, hr]

/-- Any other current record leaves the plan (R62). -/
theorem settleForExcursion_leaves
    (h : ∀ x, p.current = some x → x.header.kind = .excursion ∨ x.dwellDone = true ∨ p.ret ≠ none) :
    p.settleForExcursion = (p.ret, PlanStore.slotSize p.current) := by
  rcases hc : p.current with _ | x
  · simp [PlanStore.settleForExcursion, hc, PlanStore.slotSize]
  · have stays : ¬(x.header.kind = .planned ∧ x.dwellDone = false ∧ p.ret = none) := by
      rintro ⟨hk, hd, hr⟩
      rcases h x hc with e | e | e
      · simp [hk] at e
      · simp [hd] at e
      · exact e hr
    simp [PlanStore.settleForExcursion, hc, stays, PlanStore.slotSize]

/-- The record of a seq moves into the current slot, whatever place holds it. -/
theorem moveIn_current_eq {q : Nat} (h : p.find q = some rec) : (p.moveIn q).current = some rec := by
  rw [PlanStore.find] at h
  rw [PlanStore.moveIn]
  split at h
  · rw [if_pos ‹_›]
    exact h
  rename_i hc
  rw [if_neg hc]
  split at h
  · rw [if_pos ‹_›]
    exact h
  rename_i hr
  rw [if_neg hr]
  split at h
  · rw [if_pos ‹_›]
    exact h
  rename_i he
  rw [if_neg he, h]

end

/-! ### The motion of a slew start (R84 to R90, R109, R111) -/

theorem enterMotion_conf_items (m : Motion) (s : State) : (enterMotion m s).items = s.items := by
  rw [State.items, enterMotion_conf, State.items]

theorem releaseOf_motionStart (rec : Record) (t d n : Nat) (s : State) : (releaseOf rec t d n s).motionStart = t + n := rfl

/-- The phase in which a slew start leaves OBSERVING (R109, R111): SLEW until the motion has ended. -/
def slewPhase (d : DwellRecord) (t : Nat) (ended : Bool) : Phase := if ended = false then .slew else phaseAt d t

/-- From the state `b` with its items set a slew start with dwell record `d` has begun the motion at instant `t`. -/
structure MotionBegun (d : DwellRecord) (t : Nat) (b m : State) : Prop where
  round : ∃ ended,
    m.round = { b.round with
      dwell := some { d with motionEnded := ended }, plan := some (.observing (slewPhase d t ended)) } ∧
    (ended = true ↔ motionCode m.traj.motion ∈ [1, 2])
  traj : m.traj = { b.traj with motion := m.traj.motion, trackSetpoint := m.traj.trackSetpoint }
  settle : m.axis.settle = b.axis.settle
  outputs : m.OutputsSafe
  joins : Joins AnyFrame 1 b.port m.port

section
variable {d : DwellRecord} {t : Nat} {b m : State}

/-- The base of a slew start may have begun another mode, with a timer of its own. -/
theorem MotionBegun.of_mode (h : MotionBegun d t b m) {c : State} (hround : b.round = c.round)
    (hport : b.port = c.port) (hsettle : b.axis.settle = c.axis.settle)
    (htraj : b.traj = { c.traj with motion := b.traj.motion }) : MotionBegun d t c m := by
  obtain ⟨round, traj, settle, outputs, joins⟩ := h
  refine ⟨hround ▸ round, ?_, settle.trans hsettle, outputs, hport ▸ joins⟩
  rw [traj, htraj]

variable (hd : b.round.dwell = some d) (hn : d.motionEnded = false) (hp : b.round.plan = some (.observing .slew))
include hd hn hp

/-- A mode with a motion ahead leaves the phase SLEW. -/
theorem enterMotion_begun {x : Motion} (hx : motionCode x ∉ [1, 2]) : MotionBegun d t b (enterMotion x b) where
  round := by
    refine ⟨false, ?_, by simpa [enterMotion] using hx⟩
    rw [enterMotion_round, ← hn, slewPhase, if_pos hn, ← hd, ← hp]
  traj := by simp [enterMotion]
  settle := by simp [enterMotion_axis_eq]
  outputs := settleOutputs_outputsSafe _
  joins := by
    rw [enterMotion_port]
    exact .refl _

omit hn in
/-- A profile without distance ends its motion at the instant (R90, R111). -/
theorem endMotion_begun (g : Int) (a : Nat) : MotionBegun d t b (endMotion g a t b) where
  round := by
    refine ⟨true, ?_, ?_⟩
    · simp [endMotion, reportMotionEnd, hd, hp, slewPhase]
    · rw [endMotion_motion, modeAtMotionEnd]
      split <;> simp [motionCode]
  traj := by simp [endMotion, enterMotion]
  settle := by simp [endMotion, enterMotion_axis_eq]
  outputs := by
    have h := settleOutputs_outputsSafe ((b.withTraj { b.traj with trackSetpoint := g }).withTraj
      { b.traj with trackSetpoint := g, motion := modeAtMotionEnd a t })
    simpa [State.OutputsSafe, endMotion, enterMotion] using h
  joins := by
    rw [endMotion_port]
    exact .refl _

omit hd hn hp in
/-- An event composed of the motion begun. -/
theorem MotionBegun.ofReport (h : MotionBegun d t b m) (hport : m.port = b.port) (e : EventKind) (q : Nat)
    (v : BitVec 32) : MotionBegun d t b (report e q v m) where
  round := by simpa using h.round
  traj := by simpa using h.traj
  settle := by simpa using h.settle
  outputs := by simpa [State.OutputsSafe] using h.outputs
  joins := report_joins_any hport ..

omit hd hn hp in
/-- The brake timer is no part of the motion begun. -/
theorem MotionBegun.withTimer (h : MotionBegun d t b m) (x : Option Nat) :
    MotionBegun d t b (m.withAxis { m.axis with brakeTimer := x }) :=
  ⟨h.round, h.traj, h.settle, h.outputs, h.joins⟩

theorem fixFor_begun (rec : Record) (r : Release) : MotionBegun d r.motionStart b (fixFor rec r b) := by
  rw [fixFor]
  rcases fixProfile b.items rec.track b.traj.wrapOffset r with g | ⟨p, _ | late⟩
  · exact endMotion_begun hd hp g r.arrival
  · exact enterMotion_begun hd hn hp (by simp [motionCode])
  · exact (enterMotion_begun hd hn hp (by simp [motionCode])).ofReport (enterMotion_port ..) ..

/-- The motion of a slew start, from the brake or not (R84 to R86). -/
theorem slewMotion_begun (rec : Record) (n : Nat) : MotionBegun d t b (slewMotion rec t n b) := by
  rw [slewMotion]
  split
  · dsimp only
    split
    · rename_i hz
      rw [enterMotion_conf_items] at hz
      have begun := fixFor_begun (b := (enterMotion (.releasing (releaseOf rec t n b.items.brakeDelay b)) b).withAxis
        { (enterMotion (.releasing (releaseOf rec t n b.items.brakeDelay b)) b).axis with brakeTimer := none })
        (by simpa using hd) hn (by simpa using hp) rec (releaseOf rec t n b.items.brakeDelay b)
      rw [releaseOf_motionStart, hz, Nat.add_zero] at begun
      rw [hz]
      exact begun.of_mode (by simp) (by simp) (by simp [enterMotion_axis_eq]) (by simp [enterMotion])
    · exact (enterMotion_begun hd hn hp (by simp [motionCode])).withTimer _
  · exact fixFor_begun hd hn hp rec (releaseOf rec t n 0 b)

end

/-! ### The profile fixed at a slew start (R84 to R86, R161) -/

theorem fromBrake_iff (m : Motion) : fromBrake m = true ↔ 5 ≤ motionCode m := by
  cases m <;> simp [fromBrake, motionCode]

theorem not_fromBrake_iff (m : Motion) : fromBrake m = false ↔ motionCode m ≤ 4 := by
  cases m <;> simp [fromBrake, motionCode]

section
variable {rec : Record} {r : Release} {b : State}

theorem fixFor_moving {p : SlewProfile} {late : Option Nat}
    (h : fixProfile b.items rec.track b.traj.wrapOffset r = .moving p late) :
    (fixFor rec r b).traj.motion = .slewing p := by
  rw [fixFor, h]
  cases late <;> simp [beginProfile, enterMotion]

theorem fixFor_still {g : Int} (h : fixProfile b.items rec.track b.traj.wrapOffset r = .still g) :
    (fixFor rec r b).traj.trackSetpoint = g ∧
      (fixFor rec r b).traj.motion = if r.motionStart < r.arrival then .settling else .tracking := by
  rw [fixFor, h]
  exact ⟨by simp [beginProfile, endMotion, enterMotion], endMotion_motion ..⟩

theorem fixFor_brakeTimer (rec : Record) (r : Release) (b : State) :
    (fixFor rec r b).axis.brakeTimer = b.axis.brakeTimer := by
  rw [fixFor]
  rcases fixProfile b.items rec.track b.traj.wrapOffset r with g | ⟨p, _ | late⟩ <;>
    simp [beginProfile, endMotion, enterMotion_axis_eq]

/-- From the brake with a BRAKE_DELAY the brake is released first (R85, R161). -/
theorem slewMotion_released (t n : Nat) (h : 5 ≤ motionCode b.traj.motion) (hd : 0 < b.items.brakeDelay) :
    (slewMotion rec t n b).axis.brakeTimer = some (t + b.items.brakeDelay) ∧
      (slewMotion rec t n b).traj.motion = .releasing (releaseOf rec t n b.items.brakeDelay b) := by
  rw [slewMotion, if_pos ((fromBrake_iff _).mpr h)]
  dsimp only
  rw [enterMotion_conf_items, if_neg (by omega)]
  exact ⟨rfl, by simp [enterMotion]⟩

/-- Without BRAKE_DELAY no brake timer runs (log 18). -/
theorem slewMotion_undelayed (t n : Nat) (h : 5 ≤ motionCode b.traj.motion) (hd : b.items.brakeDelay = 0) :
    (slewMotion rec t n b).axis.brakeTimer = none := by
  rw [slewMotion, if_pos ((fromBrake_iff _).mpr h)]
  dsimp only
  rw [enterMotion_conf_items, if_pos hd, fixFor_brakeTimer]
  rfl

/-- From another mode the timer is kept (log 22). -/
theorem slewMotion_keepsTimer (t n : Nat) (h : motionCode b.traj.motion ≤ 4) :
    (slewMotion rec t n b).axis.brakeTimer = b.axis.brakeTimer := by
  rw [slewMotion, (not_fromBrake_iff _).mpr h, if_neg nofun, fixFor_brakeTimer]

/-- The profile that is fixed at S itself (R86, log 18). -/
theorem slewMotion_fixed (t n : Nat) (h : motionCode b.traj.motion ≤ 4 ∨ b.items.brakeDelay = 0) :
    ∃ c : State, slewMotion rec t n b = fixFor rec (releaseOf rec t n 0 b) c ∧ c.items = b.items ∧
      c.traj.wrapOffset = b.traj.wrapOffset := by
  rw [slewMotion]
  split
  · rename_i hb
    have hz : b.items.brakeDelay = 0 := h.resolve_left (by have := (fromBrake_iff _).mp hb; omega)
    dsimp only
    rw [enterMotion_conf_items, if_pos hz, hz]
    exact ⟨_, rfl, by simp [State.items], by simp [enterMotion]⟩
  · exact ⟨b, rfl, rfl, rfl⟩

end

/-! ### The slew start (R62, R84, R109) -/

/-- The state of a slew start whose motion has not begun: the moves, the round engine's and the trajectory unit's items
and the settle record. -/
def slewBase (rec : Record) (t d : Nat) (s : State) : State :=
  fillSettle rec.seq (t + d) (slewItems rec (t + d) (slewRound rec (t + d) (s.withStore (s.store.moveIn rec.seq))))

/-- A pending RETURN is dropped when a PLANNED record moves in (R152). -/
theorem slewRound_trigger (rec : Record) (a : Nat) (s : State) :
    (slewRound rec a s).round.trigger =
      s.round.trigger.filter fun g => !(decide (g.kind = .returnTo) && decide (rec.header.kind = .planned)) := by
  rcases ht : s.round.trigger with _ | g
  · simp [slewRound, ht]
  by_cases hk : g.kind = .returnTo ∧ rec.header.kind = .planned
  · simp [slewRound, ht, Option.filter, hk]
  · have keeps : (!(decide (g.kind = .returnTo) && decide (rec.header.kind = .planned))) = true := by
      simpa using not_and_or.mp hk
    simp only [slewRound, ht, Option.filter, keeps, if_neg hk, if_true, State.withRound_round]

section
variable (rec : Record) (t d : Nat) (s : State)

theorem slewStartFor_eq :
    slewStartFor rec t d s =
      report .agreed rec.seq (valueU d) (slewMotion rec t d (slewBase rec t d s)).drawSetpoint := rfl

theorem slewBase_port : (slewBase rec t d s).port = s.port := by simp [slewBase]

theorem slewBase_conf : (slewBase rec t d s).conf = s.conf := by simp [slewBase]

theorem slewBase_items : (slewBase rec t d s).items = s.items := by rw [State.items, slewBase_conf, State.items]

theorem slewBase_round :
    (slewBase rec t d s).round =
      { s.round with
        dwell := some (dwellRecordOf rec (t + d)), abandonSent := false, plan := some (.observing .slew)
        trigger :=
          s.round.trigger.filter fun g => !(decide (g.kind = .returnTo) && decide (rec.header.kind = .planned)) } := by
  have begun : (slewBase rec t d s).round =
      { s.round with
        dwell := some (dwellRecordOf rec (t + d)), abandonSent := false, plan := some (.observing .slew)
        trigger := (slewRound rec (t + d) (s.withStore (s.store.moveIn rec.seq))).round.trigger } := by
    rw [slewBase, fillSettle_round, slewItems_round]
    rfl
  rw [begun, slewRound_trigger]
  rfl

theorem slewBase_traj :
    (slewBase rec t d s).traj =
      { s.traj with
        wrapOffset := rec.wrapK.getD s.traj.wrapOffset, commandedOffset := 0, appliedOffset := 0, pendingGuide := 0
        guideApplied := 0, saturated := false, arrival := t + d } := by
  simp [slewBase, slewItems]

theorem slewBase_axis :
    (slewBase rec t d s).axis = { s.axis with settle := some ⟨rec.seq, t + d, 0, false, false⟩ } := by
  simp [slewBase, fillSettle]

/-- The motion that the slew start begins. -/
theorem slewBase_begun : MotionBegun (dwellRecordOf rec (t + d)) t (slewBase rec t d s)
    (slewMotion rec t d (slewBase rec t d s)) :=
  slewMotion_begun (by rw [slewBase_round]) rfl (by rw [slewBase_round]) rec d

/-- Beside the port and a free value the state after a slew start is that of its motion. -/
theorem slewStartFor_blocks :
    (slewStartFor rec t d s).round = (slewMotion rec t d (slewBase rec t d s)).round ∧
      (slewStartFor rec t d s).traj = (slewMotion rec t d (slewBase rec t d s)).traj ∧
      (slewStartFor rec t d s).axis = (slewMotion rec t d (slewBase rec t d s)).axis ∧
      (slewStartFor rec t d s).hold = (slewMotion rec t d (slewBase rec t d s)).hold := by
  simp [slewStartFor_eq]

end

section
variable {rec : Record} {t d : Nat} {s : State}

/-- AGREED is queued after the ARRIVAL_LATE of a lengthened motion (R43, R88). -/
theorem slewStartFor_agreed (h : Enabled s .agreed) (room : Room s 2) :
    Queued (slewStartFor rec t d s) (eventFrame s .agreed rec.seq (BitVec.ofNat 32 d)) (s.now + 1000000) := by
  have hconf : (slewMotion rec t d (slewBase rec t d s)).drawSetpoint.conf = s.conf := by simp [slewBase_conf]
  have hnow : (slewMotion rec t d (slewBase rec t d s)).drawSetpoint.now = s.now := by simp [State.now, slewBase]
  have hlen := (slewBase_begun rec t d s).joins.length
  rw [slewBase_port] at hlen
  rw [Room] at room
  have told := report_queued .agreed rec.seq (valueU d) (slewMotion rec t d (slewBase rec t d s)).drawSetpoint
    (by simpa only [Enabled, State.items, hconf] using h) (by rw [drawSetpoint_port]; omega)
  rw [← slewStartFor_eq, eventFrame, hconf, hnow] at told
  exact told

/-- The dwell record and the phase that a slew start leaves (R109, R111). -/
theorem slewStartFor_dwell :
    ∃ ended, (slewStartFor rec t d s).round.dwell =
        some ⟨rec.seq, t + d, max (t + d) rec.header.windowOpen, max (t + d) rec.header.windowOpen + rec.header.dwell,
          ended, false⟩ ∧
      (ended = true ↔ motionCode (slewStartFor rec t d s).traj.motion ∈ [1, 2]) ∧
      (slewStartFor rec t d s).round.plan =
        some (.observing
          (if ended = false then .slew
            else if 0 < d then .settle
            else if t + d < max (t + d) rec.header.windowOpen then .dwellWait
            else .dwell)) := by
  obtain ⟨hround, htraj, -⟩ := slewStartFor_blocks rec t d s
  obtain ⟨ended, hr, he⟩ := (slewBase_begun rec t d s).round
  refine ⟨ended, by rw [hround, hr]; rfl, by rw [htraj]; exact he, ?_⟩
  have phase : slewPhase (dwellRecordOf rec (t + d)) t ended =
      if ended = false then .slew
      else if 0 < d then .settle
      else if t + d < max (t + d) rec.header.windowOpen then .dwellWait
      else .dwell := by
    rcases Nat.eq_zero_or_pos d with rfl | hd
    · simp [slewPhase, phaseAt, dwellRecordOf]
    · simp [slewPhase, phaseAt, dwellRecordOf, hd]
  rw [hround, hr, phase]

/-- The other items of the round engine (R109, R152). -/
theorem slewStartFor_round :
    (slewStartFor rec t d s).round.abandonSent = false ∧
      (slewStartFor rec t d s).round.abandon = s.round.abandon ∧
      (slewStartFor rec t d s).round.trigger =
        s.round.trigger.filter fun g => !(decide (g.kind = .returnTo) && decide (rec.header.kind = .planned)) := by
  obtain ⟨hround, -⟩ := slewStartFor_blocks rec t d s
  obtain ⟨ended, hr, -⟩ := (slewBase_begun rec t d s).round
  rw [hround, hr, slewBase_round]
  exact ⟨rfl, rfl, rfl⟩

/-- The trajectory unit's items (R84). -/
theorem slewStartFor_traj :
    (slewStartFor rec t d s).traj =
      { s.traj with
        motion := (slewStartFor rec t d s).traj.motion, trackSetpoint := (slewStartFor rec t d s).traj.trackSetpoint
        wrapOffset := rec.wrapK.getD s.traj.wrapOffset, commandedOffset := 0, appliedOffset := 0
        pendingGuide := 0, guideApplied := 0, saturated := false, arrival := t + d } := by
  obtain ⟨-, htraj, -⟩ := slewStartFor_blocks rec t d s
  have begun := (slewBase_begun rec t d s).traj
  rw [slewBase_traj] at begun
  rw [htraj]
  exact begun

/-- The settle record is filled and the outputs follow the mode (R160, R165). -/
theorem slewStartFor_axis :
    (slewStartFor rec t d s).axis.settle = some ⟨rec.seq, t + d, 0, false, false⟩ ∧
      (slewStartFor rec t d s).OutputsSafe := by
  obtain ⟨-, htraj, haxis, hhold⟩ := slewStartFor_blocks rec t d s
  have begun := slewBase_begun rec t d s
  refine ⟨?_, ?_⟩
  · rw [haxis, begun.settle, slewBase_axis]
  · have safe := begun.outputs
    rw [State.OutputsSafe] at safe ⊢
    rw [haxis, htraj, hhold]
    exact safe

/-- The brake timer and the mode (R84 to R86, R161). -/
theorem slewStartFor_motion {x : Int} (hx : s.axis.lastSetpoint = some x) :
    (5 ≤ motionCode s.traj.motion → 0 < s.items.brakeDelay →
      (slewStartFor rec t d s).axis.brakeTimer = some (t + s.items.brakeDelay) ∧
      (slewStartFor rec t d s).traj.motion = .releasing ⟨rec.seq, t, t + s.items.brakeDelay, t + d,
        d - s.items.settleAllow - s.items.brakeDelay, x⟩) ∧
    (5 ≤ motionCode s.traj.motion → s.items.brakeDelay = 0 → (slewStartFor rec t d s).axis.brakeTimer = none) ∧
    (motionCode s.traj.motion ≤ 4 → (slewStartFor rec t d s).axis.brakeTimer = s.axis.brakeTimer) ∧
    (motionCode s.traj.motion ≤ 4 ∨ s.items.brakeDelay = 0 → ∀ f,
      f = fixProfile s.items rec.track (slewStartFor rec t d s).traj.wrapOffset
          ⟨rec.seq, t, t, t + d, d - s.items.settleAllow, x⟩ →
      (∀ m late, f = .moving m late → (slewStartFor rec t d s).traj.motion = .slewing m) ∧
      (∀ g, f = .still g → (slewStartFor rec t d s).traj.trackSetpoint = g ∧
        (slewStartFor rec t d s).traj.motion = if t < t + d then .settling else .tracking)) := by
  obtain ⟨-, htraj, haxis, -⟩ := slewStartFor_blocks rec t d s
  have hitems := slewBase_items rec t d s
  have hmotion : (slewBase rec t d s).traj.motion = s.traj.motion := by rw [slewBase_traj]
  have hlast : (slewBase rec t d s).lastSetpoint = x := lastSetpoint_of_some (by rw [slewBase_axis]; exact hx)
  have release : ∀ n, releaseOf rec t d n (slewBase rec t d s) =
      ⟨rec.seq, t, t + n, t + d, d - s.items.settleAllow - n, x⟩ := fun n => by
    rw [releaseOf, hitems, hlast]
  rw [← hmotion, ← hitems, htraj, haxis]
  refine ⟨fun hm hd => ?_, fun hm hd => slewMotion_undelayed t d hm hd, fun hm => ?_, fun hm f hf => ?_⟩
  · obtain ⟨htimer, hmode⟩ := slewMotion_released (rec := rec) t d hm hd
    rw [release] at hmode
    rw [hitems] at htimer hmode ⊢
    exact ⟨htimer, hmode⟩
  · rw [slewMotion_keepsTimer t d hm, slewBase_axis]
  · obtain ⟨c, hc, hci, hcw⟩ := slewMotion_fixed (rec := rec) t d hm
    have hwrap : (slewMotion rec t d (slewBase rec t d s)).traj.wrapOffset = c.traj.wrapOffset := by
      rw [hcw, (slewBase_begun rec t d s).traj]
    have fixed : fixProfile c.items rec.track c.traj.wrapOffset (releaseOf rec t d 0 (slewBase rec t d s)) = f := by
      rw [hf, hwrap, hci, release, hitems]
      rfl
    rw [hc]
    exact ⟨fun m late e => fixFor_moving (fixed.trans e), fun g e => fixFor_still (fixed.trans e)⟩

end

/-! ### The round result (R108 to R110) -/

section
variable {s : State} {r : RoundRecord}

theorem dueResult_of_due {w : RoundRecord → PlanState} (hw : w = .inRound ∨ w = .scheduled)
    (hp : s.round.plan = some (w r)) (ht : r.epoch + s.items.tAgree ≤ s.now) :
    exec .roundResult s = roundResult r s := by
  have due : dueResult s = some r := by
    obtain ⟨hr, -⟩ := roundOf_of_plan hw hp
    rw [dueResult, hr]
    exact if_pos ht
  change execRoundResult s = roundResult r s
  rw [execRoundResult, due]

theorem roundResult_skip (h : r.completeSkip = true) : roundResult r s = .next (skipAndReRound 1 r s) := if_pos h

theorem roundResult_stall (h : r.completeSkip = false) (hg : r.completeGo = none) :
    roundResult r s = .next (stall r s) := by
  rw [roundResult, h, if_neg nofun, hg]

theorem roundResult_go {d q : Nat} {rec : Record} (h : r.completeSkip = false) (hg : r.completeGo = some d)
    (hq : r.selected = some q) (hf : s.store.find q = some rec) : roundResult r s = .next (succeed d r rec s) := by
  simp [roundResult, h, hg, hq, hf]

end

/-- Settles O58: the skips by `skipAndReRound_begun`, the stall by `stall_spec`, the slew start by the lemmas about
`slewStartFor` and the moves. -/
theorem roundResultIsTaken : Obligations.RoundResultIsTaken := by
  intro s r w hw hp ht ord S k skips
  have due := dueResult_of_due hw hp ht
  have skipped : ∀ value, roundResult r s = .next (skipAndReRound value r s) → skips (r.selected.getD 0) value :=
    fun value h => by
      obtain ⟨s', r', gone, hs, begun, told⟩ := skipAndReRound_begun value r s
      exact ⟨_, s', r', gone, due.trans h, hs, begun, told⟩
  refine ⟨fun h => skipped 1 (roundResult_skip h), fun h hg => ?_, fun d q rec h hg hq hf => ?_⟩
  · obtain ⟨reason, frame, told, row⟩ := stall_spec r s
    exact ⟨_, reason, due.trans (roundResult_stall h hg), frame, told,
      fun a => row 0 (stallReason_noTarget a), fun a b => row 1 (stallReason_notReady a b),
      fun a b c => row 2 (stallReason_mismatch a b c), fun a b c e => row 3 (stallReason_missing a b c e),
      fun a b c e o => row 4 (stallReason_rolls a b c e o)⟩
  have result := roundResult_go h hg hq hf
  refine ⟨fun hc => ?_, fun ho => ⟨slewStartFor rec S d s, ?_, ?_⟩⟩
  · have := skipped 0 (result.trans (congrArg _ (if_pos hc)))
    rwa [hq] at this
  · exact due.trans (result.trans (congrArg _ (if_neg (Nat.not_lt.mpr ho))))
  have hseq : rec.seq = q := seq_of_find hf
  have hstore := slewStartFor_store rec S d s
  have hcur : (slewStartFor rec S d s).store.current = some rec := by
    rw [hstore, hseq]
    exact moveIn_current_eq hf
  obtain ⟨hsent, habandon, htrigger⟩ := slewStartFor_round (rec := rec) (t := S) (d := d) (s := s)
  obtain ⟨hsettle, hsafe⟩ := slewStartFor_axis (rec := rec) (t := S) (d := d) (s := s)
  subst hseq
  refine ⟨⟨by simp, by simp, by simp, by simp, hcur⟩, fun e => hstore.trans (moveIn_of_current e),
    fun e => hstore.trans (moveIn_of_ret ord.once e), fun e => hstore.trans (moveIn_of_queue ord.once e),
    fun e => ⟨fun x hx hk hd hr => ?_, fun hx => ?_⟩, slewStartFor_dwell, hsent, habandon, htrigger,
    slewStartFor_traj, hsettle, hsafe, slewStartFor_agreed, fun x hx => slewStartFor_motion hx⟩
  · rw [hstore, moveIn_of_excursion ord.once e, settleForExcursion_returns hx hk hd hr, Nat.add_zero]
  · rw [hstore, moveIn_of_excursion ord.once e, settleForExcursion_leaves hx]

end Sys2Proof.Machine
end

section
/-! The configuration through every step: what the rate step and the ticks formed from received values stand on is moved by
CONFIG_ITEM and HARD_RESET alone (R77, R172, R174, R175); hence O29. -/

namespace Sys2Proof.Machine

/-- All that `State.Configured` speaks of: the items, the two received durations, and the rate step L. -/
def State.tuning (s : State) : Items × Nat × Nat × Nat :=
  (s.conf.items, s.conf.receivedSettle, s.conf.receivedBrake, s.traj.stepL)

theorem State.Configured.of_tuning {s t : State} (h : s.Configured) (e : t.tuning = s.tuning) : t.Configured := by
  simp only [State.tuning, Prod.mk.injEq] at e
  obtain ⟨hi, hs, hb, hl⟩ := e
  have hi : t.items = s.items := hi
  exact ⟨hi ▸ h.ranges, hi ▸ h.step, by rw [hi, hs]; exact h.settle, by rw [hi, hb]; exact h.brake,
    by rw [hl, hi]; exact h.rate⟩

/-- The default of every item lies in its range, whatever the strapped role, on which MODULAR alone depends (R175). -/
theorem Items.defaults_inRange (r : BitVec 3) (i : Item) :
    i.lo ≤ (Items.defaults r).read i ∧ (Items.defaults r).read i ≤ i.hi := by
  cases i
  case modular =>
    simp only [Items.read, Items.defaults, modularDefault, Item.lo, Item.hi]
    split <;> decide
  all_goals exact reset_inRange _

theorem hardReset_configured {a : BitVec 4} {r : BitVec 3} {s t : State} (he : exec (.hardReset a r) s = .next t) :
    t.Configured := by
  cases he
  exact ⟨Items.defaults_inRange r, reset_configured.step, reset_configured.settle, reset_configured.brake,
    reset_configured.rate⟩

/-! ### What operations leave of the tuning -/

/-- Whatever keeps the configuration block and the rate step keeps the tuning. -/
theorem tuning_congr {s t : State} (hc : t.conf = s.conf) (hl : t.traj.stepL = s.traj.stepL) : t.tuning = s.tuning := by
  rw [State.tuning, State.tuning, hc, hl]

@[simp] theorem refuse_tuning (r : Reason) (k : FrameClass) (th : Nat) (e : EventKind) (q : Nat) (s : State) :
    (refuse r k th e q s).tuning = s.tuning := by
  simp [refuse, State.tuning]

@[simp] theorem refuseCommand_tuning (r : Reason) (k : FrameClass) (th : Nat) (s : State) :
    (refuseCommand r k th s).tuning = s.tuning := refuse_tuning ..

@[simp] theorem enterMotion_stepL (m : Motion) (s : State) : (enterMotion m s).traj.stepL = s.traj.stepL := by
  simp [enterMotion]

@[simp] theorem takeHold_stepL (b : Bool) (s : State) : (takeHold b s).traj.stepL = s.traj.stepL := by
  simp [takeHold]

@[simp] theorem actOnCause_stepL (c : Cause) (s : State) : (actOnCause c s).traj.stepL = s.traj.stepL := by
  simp [actOnCause]

@[simp] theorem raiseCause_stepL (c : Cause) (s : State) : (raiseCause c s).traj.stepL = s.traj.stepL := by
  simp only [raiseCause]
  (repeat' split) <;> simp

@[simp] theorem retakeCauses_stepL (s : State) : (retakeCauses s).traj.stepL = s.traj.stepL := by
  have each : ∀ (c : Cause) (s : State), (retakeCause s c).traj.stepL = s.traj.stepL := fun c s => by
    simp only [retakeCause]
    split <;> simp
  simp [retakeCauses, each]

@[simp] theorem endMotion_stepL (g : Int) (a t : Nat) (s : State) : (endMotion g a t s).traj.stepL = s.traj.stepL := by
  simp [endMotion]

@[simp] theorem closeSecond_stepL (s : State) : (closeSecond s).traj.stepL = s.traj.stepL := by
  simp only [closeSecond, coastSecond, enterLost]
  (repeat' split) <;> simp

@[simp] theorem skipRecord_stepL (q v : Nat) (s : State) : (skipRecord q v s).traj.stepL = s.traj.stepL := by
  simp only [skipRecord, standOnRemoval]
  (repeat' split) <;> simp

@[simp] theorem selectTarget_stepL (e n : Nat) (k : RoundKind) (s : State) :
    (selectTarget e n k s).state.traj.stepL = s.traj.stepL := by
  induction n generalizing k s with
  | zero => rfl
  | succ n ih =>
    simp only [selectTarget]
    (repeat' split) <;> simp [ih]

@[simp] theorem startRound_stepL (k : RoundKind) (e : Nat) (s : State) :
    (startRound k e s).traj.stepL = s.traj.stepL := by
  simp [startRound]

@[simp] theorem fixFor_stepL (rec : Record) (r : Release) (s : State) : (fixFor rec r s).traj.stepL = s.traj.stepL := by
  simp only [fixFor, beginProfile]
  (repeat' split) <;> simp

@[simp] theorem slewStartFor_stepL (rec : Record) (t d : Nat) (s : State) :
    (slewStartFor rec t d s).traj.stepL = s.traj.stepL := by
  simp only [slewStartFor, slewMotion]
  (repeat' split) <;> simp [slewItems]

/-! ### The servo tick -/

theorem trackingTick_stepL (rec : Record) (t : Nat) (s : State) :
    (trackingTick rec t s).state.traj.stepL = s.traj.stepL := by
  simp only [trackingTick, reportLosses_traj, reportSaturated]
  split <;> simp [stepGuide, stepOffset, stepTrack]

theorem tickOnRecord_stepL {t : Nat} {s : State} {w : TickWork} (h : tickOnRecord t s = some w) :
    w.state.traj.stepL = s.traj.stepL := by
  obtain ⟨rec, -, rfl⟩ := Option.map_eq_some_iff.mp h
  exact trackingTick_stepL ..

theorem tickWork_stepL {t : Nat} {s : State} {w : TickWork} (h : tickWork t s = some w) :
    w.state.traj.stepL = s.traj.stepL := by
  simp only [tickWork] at h
  cases hm : s.traj.motion <;> simp only [hm] at h
  case slewing p =>
    simp only [slewingTick] at h
    split at h
    · cases h; rfl
    · simpa using tickOnRecord_stepL h
  case settling =>
    rw [tickOnRecord_stepL h]
    split <;> simp
  case tracking => exact tickOnRecord_stepL h
  case stopping p =>
    cases h
    simp only [stoppingTick]
    split <;> simp [plainTick, zeroLag]
  all_goals cases h; rfl

@[simp] theorem closeTick_stepL (good : Bool) (n : Nat) (m : Motion) (l : List TickEvent) (s : State) :
    (closeTick good n m l s).traj.stepL = s.traj.stepL := by
  have encoder : (reportEncoder good n s).traj.stepL = s.traj.stepL := by
    simp only [reportEncoder]
    (repeat' split) <;> simp
  simp only [closeTick, composeEvents_traj, reportFollowing]
  (repeat' split) <;> simp [encoder]

theorem execServoTick_tuning {r : EncoderReply} {s t : State} (he : execServoTick r s = .next t) :
    t.tuning = s.tuning := by
  simp only [execServoTick, tickAt] at he
  (repeat' split at he) <;> cases he
  · rfl
  · rename_i hn
    refine tuning_congr (by simpa using liveTick_conf _ _ _ _ hn) ?_
    obtain ⟨w, hw, rfl⟩ := Option.map_eq_some_iff.mp hn
    obtain ⟨l, -, hl⟩ := countAndFinish_eq s.time.nextTick (goodPosition r) w
    rw [hl, closeTick_stepL]
    exact (tickWork_stepL hw).trans rfl
  · rfl

/-! ### Frames heard -/

theorem hear_tuning {k : FrameClass} {o : Origin} {p : List Byte} {owner : State → Judged} {s : State}
    (h : (owner s).state.tuning = s.tuning) : (hear k o p owner s).tuning = s.tuning := by
  simp only [hear]
  (repeat' split)
  · rfl
  · exact h
  · rfl

theorem gateEstop_tuning {code : Nat} {owner : State → Judged} {s : State} (h : (owner s).state.tuning = s.tuning) :
    (gateEstop code owner s).state.tuning = s.tuning := by
  simp only [gateEstop]
  split
  · exact refuseCommand_tuning ..
  · exact h

theorem withEpoch_tuning {code : Nat} {args : List Byte} {owner : Nat → State → Judged} {s : State}
    (h : ∀ e, (owner e s).state.tuning = s.tuning) : (withEpoch code args owner s).state.tuning = s.tuning := by
  simp only [withEpoch]
  split
  · exact refuseCommand_tuning ..
  · exact gateEstop_tuning (h _)

theorem hearCommand_tuning {code len : Nat} {o : Origin} {args : List Byte} {owner : State → Judged} {s : State}
    (h : (owner s).state.tuning = s.tuning) : (hearCommand code len o args owner s).tuning = s.tuning := by
  refine hear_tuning ?_
  split
  · exact h
  · exact refuseCommand_tuning ..

/-- A CONFIG frame leaves the tuning or takes an item. -/
theorem judgeConfig_configured (p : List Byte) {s : State} (h : s.Configured) : (judgeConfig p s).state.Configured := by
  simp only [judgeConfig]
  (repeat' split)
  · exact h.of_tuning (refuseCommand_tuning ..)
  · exact h.of_tuning (refuseCommand_tuning ..)
  · exact h.of_tuning (refuseCommand_tuning ..)
  · exact h.of_tuning (refuseCommand_tuning ..)
  · exact takeItem_configured _ _ h

theorem hear_configured {k : FrameClass} {o : Origin} {p : List Byte} {owner : State → Judged} {s : State}
    (h : s.Configured) (hj : (owner s).state.Configured) : (hear k o p owner s).Configured := by
  simp only [hear]
  (repeat' split)
  · exact h
  · exact hj.of_tuning rfl
  · exact h.of_tuning rfl

/-! ### The owners' decisions -/

section
variable (s : State)

theorem judgeHold_tuning (o : Origin) (p : List Byte) : (judgeHold o p s).state.tuning = s.tuning := by
  simp only [judgeHold]
  (repeat' split)
  any_goals rfl
  exact tuning_congr (by simp) (by simp)

theorem judgeRoll_tuning (p : List Byte) : (judgeRoll p s).state.tuning = s.tuning := by
  simp only [judgeRoll, judgeGoRoll, judgeSkipRoll]
  (repeat' split) <;> exact tuning_congr (by simp) (by simp)

theorem judgePropose_tuning (o : Origin) (p : List Byte) : (judgePropose o p s).state.tuning = s.tuning := by
  simp only [judgePropose]
  (repeat' split) <;> exact tuning_congr (by simp) (by simp)

theorem judgeAbandon_tuning (p : List Byte) : (judgeAbandon p s).state.tuning = s.tuning := by
  simp only [judgeAbandon]
  (repeat' split) <;> rfl

theorem judgeGuide_tuning (p : List Byte) : (judgeGuide p s).state.tuning = s.tuning := by
  simp only [judgeGuide, takeGuide, reportClip]
  (repeat' split) <;> exact tuning_congr (by simp) (by simp)

theorem judgeTimeSet_tuning (p : List Byte) : (judgeTimeSet p s).state.tuning = s.tuning := by
  simp only [judgeTimeSet]
  (repeat' split)
  any_goals exact refuseCommand_tuning ..
  rfl

theorem judgePlanHead_tuning (p : List Byte) : (judgePlanHead p s).state.tuning = s.tuning := by
  simp only [judgePlanHead, judgeHeader, takeHeader]
  (repeat' split)
  any_goals exact refuse_tuning ..
  all_goals rfl

theorem finishIntake_tuning (i : Intake) (g : SegFields) : (finishIntake i g s).state.tuning = s.tuning := by
  simp only [finishIntake]
  split
  · exact tuning_congr (by simp) (by simp)
  · exact refuse_tuning ..

theorem judgePlanSeg_tuning (p : List Byte) : (judgePlanSeg p s).state.tuning = s.tuning := by
  simp only [judgePlanSeg, judgeOpenSegment]
  (repeat' split)
  any_goals rfl
  exact finishIntake_tuning ..

theorem judgeStart_tuning : (judgeStart s).state.tuning = s.tuning := by
  simp only [judgeStart]
  split
  · exact refuseCommand_tuning ..
  · simp [takeStart, State.tuning]

theorem judgeRestart_tuning : (judgeRestart s).state.tuning = s.tuning := by
  simp only [judgeRestart]
  split
  · exact tuning_congr (by simp [takeRestart, clearedBlocks])
      (by simp [takeRestart, clearedBlocks, restartTraj])
  · exact refuseCommand_tuning ..

theorem judgePlanClear_tuning : (judgePlanClear s).state.tuning = s.tuning := by
  simp only [judgePlanClear]
  split
  · exact tuning_congr (by simp) (by simp)
  · exact refuseCommand_tuning ..

theorem addressOffset_tuning (args : List Byte) : (addressOffset args s).state.tuning = s.tuning := by
  simp only [addressOffset]
  (repeat' split)
  · exact refuseCommand_tuning ..
  · refine gateEstop_tuning ?_
    simp only [judgeOffset]
    split
    · rfl
    · exact refuseCommand_tuning ..
  · rfl

theorem judgeStatusReq_tuning (args : List Byte) : (judgeStatusReq args s).state.tuning = s.tuning := by
  simp only [judgeStatusReq, sendStatus]
  (repeat' split)
  · exact tuning_congr (by simp) (by simp)
  · exact tuning_congr (by simp) (by simp)
  · exact refuseCommand_tuning ..

theorem judgeTraceSet_tuning (args : List Byte) : (judgeTraceSet args s).state.tuning = s.tuning := by
  simp only [judgeTraceSet]
  split
  · exact refuseCommand_tuning ..
  · exact gateEstop_tuning rfl

theorem judgeTraceRead_tuning (args : List Byte) : (judgeTraceRead args s).state.tuning = s.tuning := by
  have sent : ∀ (l : List (TraceEntry × Nat)) (s : State), (l.foldl sendTraceData s).tuning = s.tuning := fun l => by
    induction l with
    | nil => exact fun _ => rfl
    | cons e l ih => exact fun s => (ih _).trans (tuning_congr (by simp [sendTraceData]) (by simp [sendTraceData]))
  simp only [judgeTraceRead]
  (repeat' split)
  · exact refuseCommand_tuning ..
  · exact refuseCommand_tuning ..
  · exact sent ..

theorem edgeByState_tuning : (edgeByState s).tuning = s.tuning := by
  simp only [edgeByState, edgeFree, edgeLocked, edgeRegain, lockFromFree, regainLock, applySet, correctAt]
  (repeat' split) <;> exact tuning_congr (by simp) (by simp)

end

theorem execRoundResult_tuning {s t : State} (he : execRoundResult s = .next t) : t.tuning = s.tuning := by
  simp only [execRoundResult, roundResult, succeed, skipAndReRound] at he
  (repeat' split at he) <;> cases he <;> exact tuning_congr (by simp) (by simp)

theorem execBrakeTimerExpiry_tuning {s t : State} (he : execBrakeTimerExpiry s = .next t) : t.tuning = s.tuning := by
  simp only [execBrakeTimerExpiry, expireBrake] at he
  (repeat' split at he) <;> cases he <;> exact tuning_congr (by simp) (by simp)

/-! ### The commands -/

/-- The commands that move the tuning. -/
def movesTuning : Instr → Bool
  | .hardReset .. => true
  | .configItem .. => true
  | _ => false

theorem exec_tuning {c : Instr} {s t : State} (hc : movesTuning c = false) (he : exec c s = .next t) :
    t.tuning = s.tuning := by
  cases c <;> try cases hc
  case servoTick => exact execServoTick_tuning he
  case roundResult => exact execRoundResult_tuning he
  case brakeTimerExpiry => exact execBrakeTimerExpiry_tuning he
  all_goals cases he
  case ppsEdge => exact edgeByState_tuning s
  case unitCorrection => split <;> rfl
  case correctionSecondEnd => split <;> rfl
  case expectedSecondJudgement =>
    simp only [judgeExpected, enterCoast]
    (repeat' split) <;> exact tuning_congr (by simp) (by simp)
  case regainRunMiss => split <;> rfl
  case linkSecondClose => split <;> exact tuning_congr (by simp) (by simp)
  case driveFaultAsserted => exact tuning_congr (by simp [setDriveFault]) (by simp [setDriveFault])
  case driveFaultDeasserted => exact tuning_congr (by simp [setDriveFault]) (by simp [setDriveFault])
  case emergencyStopAsserted => exact tuning_congr (by simp [setEstop]) (by simp [setEstop])
  case emergencyStopDeasserted => exact tuning_congr (by simp [setEstop]) (by simp [setEstop])
  case holdRepeat =>
    simp only [repeatHold]
    (repeat' split) <;> exact tuning_congr (by simp) (by simp)
  case attemptStart => split <;> rfl
  case attemptEnd => split <;> rfl
  case txDeadline => rfl
  case damagedFrame =>
    simp only [hearDamage]
    (repeat' split) <;> exact tuning_congr (by simp) (by simp)
  case unknownClassFrame => exact hear_tuning rfl
  case reportFrameHeard => exact hear_tuning rfl
  case responseFieldReport =>
    simp only [endReception, completeRoll, recordGo, recordSkip]
    (repeat' split) <;> exact tuning_congr (by simp) (by simp)
  case hold => exact hear_tuning (judgeHold_tuning ..)
  case goRoll => exact hear_tuning (judgeRoll_tuning ..)
  case skipRoll => exact hear_tuning (judgeRoll_tuning ..)
  case propose => exact hear_tuning (judgePropose_tuning ..)
  case abandon => exact hear_tuning (judgeAbandon_tuning ..)
  case guide => exact hear_tuning (judgeGuide_tuning ..)
  case timeSet => exact hear_tuning (judgeTimeSet_tuning ..)
  case planHead => exact hear_tuning (judgePlanHead_tuning ..)
  case planSeg => exact hear_tuning (judgePlanSeg_tuning ..)
  case intakeTimeout =>
    simp only [expireIntake]
    (repeat' split) <;> exact tuning_congr (by simp) (by simp)
  case commandUnknownCode => exact hear_tuning (refuseCommand_tuning ..)
  case start => exact hearCommand_tuning (gateEstop_tuning (judgeStart_tuning s))
  case go =>
    refine hearCommand_tuning (withEpoch_tuning fun e => ?_)
    simp only [judgeGo]
    split; exacts [rfl, refuseCommand_tuning ..]
  case breakIn =>
    refine hearCommand_tuning (withEpoch_tuning fun e => ?_)
    simp only [judgeBreak]
    split; exacts [rfl, refuseCommand_tuning ..]
  case returnTo =>
    refine hearCommand_tuning (withEpoch_tuning fun e => ?_)
    simp only [judgeReturn]
    split; exacts [rfl, refuseCommand_tuning ..]
  case offset => exact hearCommand_tuning (addressOffset_tuning ..)
  case planClear => exact hearCommand_tuning (gateEstop_tuning (judgePlanClear_tuning s))
  case restart => exact hearCommand_tuning (gateEstop_tuning (judgeRestart_tuning s))
  case statusReq => exact hearCommand_tuning (judgeStatusReq_tuning ..)
  case traceSet => exact hearCommand_tuning (judgeTraceSet_tuning ..)
  case traceRead => exact hearCommand_tuning (judgeTraceRead_tuning ..)
  case pendingTriggerEpoch => split <;> exact tuning_congr (by simp) (by simp [fireTrigger])
  case ownOutcome => split <;> exact tuning_congr (by simp) (by simp)
  case arrival => split <;> exact tuning_congr (by simp) (by simp)
  case dwellStart => split <;> exact tuning_congr (by simp) (by simp)
  case dwellEnd =>
    simp only [endDwell]
    (repeat' split) <;> exact tuning_congr (by simp) (by simp)
  case abandonEpoch => split <;> exact tuning_congr (by simp) (by simp [fireAbandon])

theorem exec_configured {c : Instr} {s t : State} (h : s.Configured) (he : exec c s = .next t) : t.Configured := by
  cases c
  case hardReset => exact hardReset_configured he
  case configItem o p =>
    cases he
    exact hear_configured h (judgeConfig_configured p h)
  all_goals exact h.of_tuning (exec_tuning rfl he)

end Sys2Proof.Machine

namespace Sys2Proof.Proofs
open Sys2Proof.Machine

/-- Settles O29: a step is a command on a state with the same tuning, or a microsecond that leaves it. -/
theorem configurationKeepsItsRanges : Obligations.ConfigurationKeepsItsRanges := by
  intro s t h he
  cases hp : s.pending with
  | cons c rest =>
    rw [step_of_waiting hp] at he
    exact exec_configured (s := s.withPending rest) (h.of_tuning rfl) he
  | nil =>
    rw [step_of_empty hp] at he
    cases hd : due s with
    | none =>
      rw [idle_of_none hd] at he
      cases he
      exact h.of_tuning rfl
    | some c =>
      rw [idle_of_due hd] at he
      have drawn : (drawReply c s).tuning = s.tuning := by cases c <;> rfl
      exact exec_configured (h.of_tuning drawn) he

end Sys2Proof.Proofs
end

section
/-! The exact arithmetic against the real numbers it stands for (R67, R68, log 11): the integer square root, floors and
rounding, sums and products under one root, comparisons; and hence O21. -/

namespace Sys2Proof.Machine

/-! ### The integer square root -/

/-- From a lower bound that lies within `2 ^ k` of the root, the bits from `k - 1` down find the root. -/
theorem isqrtFrom_eq_sqrt (n k acc : Nat) (low : acc * acc ≤ n) (high : n < (acc + 2 ^ k) * (acc + 2 ^ k)) :
    isqrtFrom n k acc = Nat.sqrt n := by
  induction k generalizing acc with
  | zero => exact Nat.eq_sqrt.mpr ⟨low, high⟩
  | succ k ih =>
    simp only [isqrtFrom]
    split
    · refine ih _ ‹_› ?_
      rwa [Nat.add_assoc, ← Nat.two_mul, ← Nat.pow_succ']
    · exact ih _ low (Nat.lt_of_not_le ‹_›)

theorem isqrt_eq_sqrt (n : Nat) : isqrt n = Nat.sqrt n := by
  refine isqrtFrom_eq_sqrt _ _ _ (Nat.zero_le _) ?_
  rw [Nat.zero_add, ← Nat.pow_add]
  exact Nat.lt_log2_self.trans_le (Nat.pow_le_pow_right (by decide) (by omega))

theorem isqrtUp_eq_ceil (m : Nat) : (isqrtUp m : Int) = ⌈√(m : ℝ)⌉ := by
  rw [isqrtUp, isqrt_eq_sqrt, eq_comm, Int.ceil_eq_iff]
  have low : (Nat.sqrt m : ℝ) * Nat.sqrt m ≤ m := by exact_mod_cast Nat.sqrt_le m
  have high : (m : ℝ) < (Nat.sqrt m + 1) * (Nat.sqrt m + 1) := by exact_mod_cast Nat.lt_succ_sqrt m
  split
  · have square : (m : ℝ) = Nat.sqrt m * Nat.sqrt m := by exact_mod_cast (‹_ = m›).symm
    rw [square, Real.sqrt_mul_self (Nat.cast_nonneg _)]
    simp
  · have strict : (Nat.sqrt m : ℝ) * Nat.sqrt m < m :=
      lt_of_le_of_ne low fun e => ‹¬_› (by exact_mod_cast e)
    push_cast
    rw [add_sub_cancel_right]
    exact ⟨Real.lt_sqrt_of_sq_lt (by rwa [sq]), Real.sqrt_le_iff.mpr ⟨by positivity, by rw [sq]; exact high.le⟩⟩

namespace Exact

/-! ### Floors and rounding (R68) -/

/-- A multiple of a root as the root of one integer. -/
theorem natAbs_mul_sqrt (q : Int) (n : Nat) : |(q : ℝ)| * √n = √((q.natAbs * q.natAbs * n : Nat) : ℝ) := by
  rw [Nat.cast_mul, Nat.cast_mul, Nat.cast_natAbs, Int.cast_abs, Real.sqrt_mul (mul_self_nonneg _),
    Real.sqrt_mul_self (abs_nonneg _)]

theorem floorNum_eq (p q : Int) (n : Nat) : floorNum p q n = ⌊(p : ℝ) + q * √n⌋ := by
  have root := natAbs_mul_sqrt q n
  rw [floorNum]
  split
  · rename_i h
    rw [abs_of_nonneg (by exact_mod_cast h)] at root
    rw [root, Int.floor_intCast_add, Real.floor_real_sqrt_eq_nat_sqrt, isqrt_eq_sqrt]
  · rename_i h
    rw [abs_of_nonpos (by exact_mod_cast (not_le.mp h).le), neg_mul, neg_eq_iff_eq_neg] at root
    rw [root, Int.floor_intCast_add, Int.floor_neg, isqrtUp_eq_ceil, sub_eq_add_neg]

theorem floor_eq (x : Exact) : x.floor = ⌊x.value⌋ := by
  rw [Exact.floor, floorNum_eq, Exact.value, Int.floor_div_natCast]

theorem neg_value (x : Exact) : x.neg.value = -x.value := by
  simp only [Exact.neg, Exact.value]
  push_cast
  ring

theorem ceil_eq (x : Exact) : x.ceil = ⌈x.value⌉ := by
  rw [Exact.ceil, floor_eq, neg_value, Int.floor_neg, neg_neg]

/-! ### Sums and products under one root (log 11) -/

/-- Two numbers share a square root: one of them is rational, or the roots are the same. -/
def SharesRoot (x y : Exact) : Prop := x.q = 0 ∨ y.q = 0 ∨ x.n = y.n

theorem common_left (x y : Exact) : (x.q : ℝ) * √x.n = x.q * √(common x y) := by
  by_cases hx : x.q = 0
  · simp [hx]
  · rw [common, if_neg hx]

theorem SharesRoot.common_right {x y : Exact} (h : SharesRoot x y) : (y.q : ℝ) * √y.n = y.q * √(common x y) := by
  rw [common]
  rcases h with hx | hy | hn
  · rw [if_pos hx]
  · simp [hy]
  · rw [hn, ite_self]

section
variable {x y : Exact} (hx : 0 < x.den) (hy : 0 < y.den) (h : SharesRoot x y)
include hx hy h

theorem add_value : (x.add y).value = x.value + y.value := by
  have dx : (x.den : ℝ) ≠ 0 := by positivity
  have dy : (y.den : ℝ) ≠ 0 := by positivity
  simp only [Exact.value, common_left x y, h.common_right, Exact.add]
  push_cast
  field_simp
  ring

theorem sub_value : (x.sub y).value = x.value - y.value := by
  have root : SharesRoot x y.neg := h.imp_right (Or.imp_left fun e => by simp [Exact.neg, e])
  rw [Exact.sub, add_value (y := y.neg) hx hy root, neg_value, sub_eq_add_neg]

theorem mul_value : (x.mul y).value = x.value * y.value := by
  have dx : (x.den : ℝ) ≠ 0 := by positivity
  have dy : (y.den : ℝ) ≠ 0 := by positivity
  have square : √(common x y : ℝ) * √(common x y : ℝ) = common x y := Real.mul_self_sqrt (Nat.cast_nonneg _)
  simp only [Exact.value, common_left x y, h.common_right, Exact.mul]
  push_cast
  field_simp
  linear_combination (-(x.q : ℝ) * y.q) * square

end

theorem nearest_eq {x : Exact} (hx : 0 < x.den) : x.nearest = ⌊x.value + 1 / 2⌋ := by
  rw [Exact.nearest, floor_eq, add_value (y := ⟨1, 0, 0, 2⟩) hx two_pos (.inr (.inl rfl))]
  simp [Exact.value]

theorem round_eq {x : Exact} (hx : 0 < x.den) : x.round = resultOf x.value := by
  rw [Exact.round, nearest_eq hx, resultOf]

/-! ### Comparisons -/

/-- The sign of `p + q·√n`, by the sign of `p` and the squares. -/
theorem negNum_iff (p q : Int) (n : Nat) : negNum p q n = true ↔ (p : ℝ) + q * √n < 0 := by
  have root : √(n : ℝ) * √n = n := Real.mul_self_sqrt (Nat.cast_nonneg _)
  have pos : 0 ≤ √(n : ℝ) := Real.sqrt_nonneg _
  have square : (q : ℝ) * q * n = q * √n * (q * √n) := by rw [mul_mul_mul_comm, root]
  rw [negNum]
  split
  · rename_i hp
    have hp : (p : ℝ) < 0 := by exact_mod_cast hp
    have below : q * q * n < p * p ↔ (q : ℝ) * √n * (q * √n) < p * p := by rw [← square]; exact_mod_cast Iff.rfl
    simp only [Bool.or_eq_true, decide_eq_true_eq, below]
    constructor
    · rintro (hq | hq)
      · have := mul_nonpos_of_nonpos_of_nonneg (Int.cast_nonpos (R := ℝ).mpr hq) pos
        linarith
      · nlinarith
    · intro h
      by_cases hq : q ≤ 0
      · exact .inl hq
      · have := mul_nonneg (Int.cast_nonneg (R := ℝ) (not_le.mp hq).le) pos
        exact .inr (by nlinarith)
  · rename_i hp
    have hp : 0 ≤ (p : ℝ) := by exact_mod_cast not_lt.mp hp
    have above : p * p < q * q * n ↔ (p : ℝ) * p < q * √n * (q * √n) := by rw [← square]; exact_mod_cast Iff.rfl
    simp only [Bool.and_eq_true, decide_eq_true_eq, above]
    constructor
    · rintro ⟨hq, hs⟩
      have := mul_nonpos_of_nonpos_of_nonneg (Int.cast_nonpos (R := ℝ).mpr hq.le) pos
      nlinarith
    · intro h
      have hq : q < 0 := by
        by_contra hq
        have := mul_nonneg (Int.cast_nonneg (R := ℝ) (not_lt.mp hq)) pos
        linarith
      exact ⟨hq, by nlinarith⟩

theorem ltInt_iff {x : Exact} (k : Int) (hx : 0 < x.den) : x.ltInt k = true ↔ x.value < k := by
  have d : (0 : ℝ) < x.den := by positivity
  rw [Exact.ltInt, negNum_iff, Exact.value, div_lt_iff₀ d, ← sub_neg (b := (k : ℝ) * _)]
  push_cast
  rw [sub_add_eq_add_sub]

theorem gtInt_iff {x : Exact} (k : Int) (hx : 0 < x.den) : x.gtInt k = true ↔ (k : ℝ) < x.value := by
  have d : (0 : ℝ) < x.den := by positivity
  rw [Exact.gtInt, negNum_iff, Exact.value, lt_div_iff₀ d, ← sub_neg (a := (k : ℝ) * _)]
  push_cast
  rw [neg_mul, ← sub_eq_add_neg, sub_sub]

end Exact

end Sys2Proof.Machine

namespace Sys2Proof.Proofs
open Sys2Proof.Machine

/-- Settles O21, operation by operation. -/
theorem roundingIsExact : Obligations.RoundingIsExact :=
  ⟨fun x hx => ⟨x.nearest_eq hx, x.round_eq hx, x.floor_eq, x.ceil_eq⟩,
    fun _ _ hx hy h => ⟨Exact.add_value hx hy h, Exact.sub_value hx hy h, Exact.mul_value hx hy h⟩,
    fun _ k hx => ⟨Exact.ltInt_iff k hx, Exact.gtInt_iff k hx⟩⟩

end Sys2Proof.Proofs
end

section
/-! A track evaluated at an exact time is the cubic of its segment (R66 to R71); hence O22. -/

namespace Sys2Proof.Machine

namespace Exact

/-! ### What an exact number denotes -/

/-- An exact number that has no root but `√n` stands for a real number. -/
structure Denotes (n : Nat) (x : Exact) (r : ℝ) : Prop where
  den : 0 < x.den
  root : x.q = 0 ∨ x.n = n
  value : x.value = r

theorem denotes_value {x : Exact} (h : 0 < x.den) : Denotes x.n x x.value := ⟨h, .inr rfl, rfl⟩

theorem denotes_ofInt (n : Nat) (k : Int) : Denotes n (.ofInt k) k := ⟨one_pos, .inl rfl, by simp [ofInt, Exact.value]⟩

theorem denotes_ratio (n : Nat) (k : Int) {d : Nat} (h : 0 < d) : Denotes n (.ratio k d) (k / d) :=
  ⟨h, .inl rfl, by simp [ratio, Exact.value]⟩

/-- The root of a sum or a product is that of an operand which is not rational. -/
theorem common_root {n : Nat} {x y : Exact} (hx : x.q = 0 ∨ x.n = n) (hy : y.q = 0 ∨ y.n = n) :
    (x.q = 0 ∧ y.q = 0) ∨ common x y = n := by
  rw [common]
  split
  · exact hy.imp_left fun e => ⟨‹_›, e⟩
  · exact .inr (hx.resolve_left ‹_›)

namespace Denotes
variable {n : Nat} {x y : Exact} {r s : ℝ} (h : Denotes n x r) (k : Denotes n y s)
include h

theorem round_eq : x.round = resultOf r := by rw [Exact.round_eq h.den, h.value]

theorem ltInt_iff (m : Int) : x.ltInt m = true ↔ r < m := by rw [Exact.ltInt_iff m h.den, h.value]

theorem neg : Denotes n x.neg (-r) := ⟨h.den, h.root.imp_left fun e => by simp [Exact.neg, e], by rw [neg_value, h.value]⟩

include k

theorem shares : SharesRoot x y := by
  obtain ⟨-, hx, -⟩ := h
  obtain ⟨-, hy, -⟩ := k
  rcases hx with hx | hx
  · exact .inl hx
  · exact hy.elim (fun e => .inr (.inl e)) fun e => .inr (.inr (hx.trans e.symm))

theorem add : Denotes n (x.add y) (r + s) where
  den := Nat.mul_pos h.den k.den
  root := (common_root h.root k.root).imp_left fun ⟨ex, ey⟩ => by simp [Exact.add, ex, ey]
  value := by rw [add_value h.den k.den (h.shares k), h.value, k.value]

theorem sub : Denotes n (x.sub y) (r - s) := sub_eq_add_neg r s ▸ h.add k.neg

theorem mul : Denotes n (x.mul y) (r * s) where
  den := Nat.mul_pos h.den k.den
  root := (common_root h.root k.root).imp_left fun ⟨ex, ey⟩ => by simp [Exact.mul, ex, ey]
  value := by rw [mul_value h.den k.den (h.shares k), h.value, k.value]

end Denotes

end Exact

/-! ### The cubic of a segment (R71) -/

section
variable {n : Nat} {u : Exact} {r : ℝ} (g : Segment) (h : Exact.Denotes n u r)
include h

theorem secondsOf_denotes : Exact.Denotes n (secondsOf u) (r / 1000000) := by
  have := h.mul (Exact.denotes_ratio n 1 (d := 1000000) (by decide))
  simpa [div_eq_mul_inv, secondsOf, Exact.ratio] using this

theorem Segment.posAt_eq :
    g.posAt u = resultOf (g.c0 + g.c1 * (r / 1000000) + g.c2 / 65536 * (r / 1000000) ^ 2 +
      g.c3 / 4294967296 * (r / 1000000) ^ 3) := by
  have s := secondsOf_denotes h
  have linear := (Exact.denotes_ofInt n g.c0).add ((Exact.denotes_ofInt n g.c1).mul s)
  have quadratic := (Exact.denotes_ratio n g.c2 (d := 65536) (by decide)).mul (s.mul s)
  have cubic := (Exact.denotes_ratio n g.c3 (d := 4294967296) (by decide)).mul ((s.mul s).mul s)
  refine ((linear.add quadratic).add cubic).round_eq.trans (congrArg resultOf ?_)
  push_cast
  ring

theorem Segment.velAt_eq :
    g.velAt u = resultOf (g.c1 + 2 * (g.c2 / 65536) * (r / 1000000) +
      3 * (g.c3 / 4294967296) * (r / 1000000) ^ 2) := by
  have s := secondsOf_denotes h
  have linear := (Exact.denotes_ofInt n 2).mul ((Exact.denotes_ratio n g.c2 (d := 65536) (by decide)).mul s)
  have quadratic :=
    (Exact.denotes_ofInt n 3).mul ((Exact.denotes_ratio n g.c3 (d := 4294967296) (by decide)).mul (s.mul s))
  refine (((Exact.denotes_ofInt n g.c1).add linear).add quadratic).round_eq.trans (congrArg resultOf ?_)
  push_cast
  ring

theorem Segment.before_iff : g.before u = true ↔ r < g.finish := by
  rw [Segment.before, h.ltInt_iff, Int.cast_natCast]

end

/-- The start of a segment is its constant coefficient (R70). -/
theorem Segment.posAt_zero (g : Segment) : g.posAt (.ofInt 0) = resultOf g.c0 := by
  rw [g.posAt_eq (Exact.denotes_ofInt 0 0)]
  simp

/-! ### The three cases of an evaluation (R70) -/

section
variable {n : Nat} {tr : Track} {t : Exact} {r : ℝ} (h : Exact.Denotes n t r)
include h

theorem Track.evalAt_before (hr : r < tr.first.tStart) : tr.evalAt t = (tr.first.posAt (.ofInt 0), 0) :=
  if_pos ((h.ltInt_iff _).mpr (by rwa [Int.cast_natCast]))

theorem Track.not_before_first (hr : tr.first.tStart ≤ r) : ¬t.ltInt tr.first.tStart = true := by
  rw [h.ltInt_iff, Int.cast_natCast]
  exact hr.not_gt

theorem Track.evalAt_ended (hr : tr.first.tStart ≤ r) (hg : ∀ g ∈ tr.segments, (g.finish : ℝ) ≤ r) :
    tr.evalAt t = (tr.last.posAt (.ofInt tr.last.span), 0) := by
  have none_left : tr.segments.find? (fun g => g.before t) = none :=
    List.find?_eq_none.mpr fun g hm e => (((g.before_iff h).mp e).not_ge (hg g hm)).elim
  rw [Track.evalAt, if_neg (Track.not_before_first h hr), none_left]

theorem Track.evalAt_inside {before rest : List Segment} {g : Segment} (hs : tr.segments = before ++ g :: rest)
    (hr : tr.first.tStart ≤ r) (hb : ∀ x ∈ before, (x.finish : ℝ) ≤ r) (hg : r < g.finish) :
    tr.evalAt t = (g.posAt (t.sub (.ofInt g.tStart)), g.velAt (t.sub (.ofInt g.tStart))) := by
  have found : tr.segments.find? (fun g => g.before t) = some g :=
    List.find?_eq_some_iff_append.mpr ⟨(g.before_iff h).mpr hg, before, rest, hs, fun x hx => by
      rw [Bool.not_eq_true', ← Bool.not_eq_true, x.before_iff h]
      exact (hb x hx).not_gt⟩
  rw [Track.evalAt, if_neg (Track.not_before_first h hr), found]

/-- A track evaluated at an exact time is that of R70 and R71 at the real time it stands for. -/
theorem Track.evalAt_isTrackAt : IsTrackAt tr r (tr.evalAt t).1 (tr.evalAt t).2 := by
  refine ⟨fun hr => ?_, fun hr hg => ?_, fun before g rest hs hr hb hg => ?_⟩
  · rw [Track.evalAt_before h hr]
    exact ⟨tr.first.posAt_zero, rfl⟩
  · rw [Track.evalAt_ended h hr hg]
    exact ⟨rfl, by simpa using tr.last.posAt_eq (Exact.denotes_ofInt n tr.last.span)⟩
  · rw [Track.evalAt_inside h hs hr hb hg]
    have u : Exact.Denotes n (t.sub (.ofInt g.tStart)) (r - g.tStart) := by
      simpa using h.sub (Exact.denotes_ofInt n g.tStart)
    exact ⟨g.posAt_eq u, g.velAt_eq u⟩

end

end Sys2Proof.Machine

namespace Sys2Proof.Proofs
open Sys2Proof.Machine

/-- Settles O22: whole mount times and exact times are evaluated by the same cubic. -/
theorem trackIsTheCubicOfItsSegment : Obligations.TrackIsTheCubicOfItsSegment :=
  ⟨fun _ t => Track.evalAt_isTrackAt (by simpa using Exact.denotes_ofInt 0 t),
    fun _ _ h => Track.evalAt_isTrackAt (Exact.denotes_value h)⟩

end Sys2Proof.Proofs
end

section
/-! The servo tick as the work of the trajectory unit followed by steps 3 and 5 to 7: what these leave of the work (R113,
R118, R136, R158, R159). -/

namespace Sys2Proof.Machine

/-! ### The state in which the work begins -/

/-- Steps 1 and 2 of a tick done, and the next tick set. -/
def sampled (reply : EncoderReply) (s : State) : State :=
  (advanceTick s).withAxis (sampleAxis (goodPosition reply) (advanceTick s).axis)

section
variable (reply : EncoderReply) (s : State)

@[simp] theorem sampled_port : (sampled reply s).port = s.port := rfl
@[simp] theorem sampled_store : (sampled reply s).store = s.store := rfl
@[simp] theorem sampled_round : (sampled reply s).round = s.round := rfl
@[simp] theorem sampled_traj : (sampled reply s).traj = s.traj := rfl
@[simp] theorem sampled_hold : (sampled reply s).hold = s.hold := rfl
@[simp] theorem sampled_conf : (sampled reply s).conf = s.conf := rfl
@[simp] theorem sampled_items : (sampled reply s).items = s.items := rfl
@[simp] theorem sampled_now : (sampled reply s).now = s.now := rfl

end

/-- A tick taken now in CONFIG or RUN does the work of its mode, then counts and finishes. -/
theorem execServoTick_worked (reply : EncoderReply) {s : State} (h : s.TickNow) :
    ∃ w, tickWork s.time.nextTick (sampled reply s) = some w ∧
      exec (.servoTick reply) s = .next (countAndFinish s.time.nextTick (goodPosition reply) w) := by
  have hd : tickDue s.time = true := by simpa [tickDue, State.now] using h.due
  have hl : (advanceTick s).inStrapFault = false := by simp [State.inStrapFault, h.live]
  obtain ⟨w, hw⟩ := tickWork_answers (t := s.time.nextTick) (s := sampled reply s) (by simpa using h.current)
  refine ⟨w, hw, ?_⟩
  rw [sampled] at hw
  simp only [exec, execServoTick, hd, if_true, tickAt, hl, liveTick, hw, Option.map_some, Bool.false_eq_true, if_false]

/-! ### Steps 3 and 5 to 7 in parts -/

/-- Step 3 over the work of a tick. -/
def countedWork (t : Nat) (good : Option Int) (w : TickWork) : State :=
  w.state.withAxis
    (countAxis w.state.items w.state.hold.causes.encoder (tracks w.state.traj.motion) good.isSome t w.state.axis)

/-- Step 5: the transfer, the last feedforward and the last tick. -/
def transferred (t : Nat) (h : Handover) (s : State) : State :=
  (s.withAxis (transfer h s.axis)).withTraj { s.traj with lastFeedforward := h.feedforward, lastTick := t }

/-- Step 6 on the work of a tick: the entry formed and what the ring does with it. -/
def tracedWork (t : Nat) (good : Option Int) (w : TickWork) : TraceStep :=
  let u := transferred t w.out (countedWork t good w)
  traceStep t (tickEntry t w.out u) u.axis

/-- The events of steps 3 and 6. -/
def tickEvents (t : Nat) (good : Option Int) (w : TickWork) : List TickEvent :=
  settleEvents w.state.axis.settle (countedWork t good w).axis.settle (countedWork t good w).axis.fe t ++
    (tracedWork t good w).events

theorem countAndFinish_parts (t : Nat) (good : Option Int) (w : TickWork) :
    countAndFinish t good w =
      closeTick good.isSome w.state.axis.goodRun w.state.traj.motion (tickEvents t good w) (countedTick t good w) :=
  rfl

/-- SETTLED and SETTLE_LATE exclude each other (R165, R166), and so do the two events of the trace (R168, R169). -/
theorem tickEvents_length (t : Nat) (good : Option Int) (w : TickWork) : (tickEvents t good w).length ≤ 2 := by
  have settle : ∀ b a fe, (settleEvents b a fe t).length ≤ 1 := fun b a fe => by
    rcases b with _ | b <;> rcases a with _ | a <;> simp only [settleEvents, List.length_nil, Nat.zero_le]
    cases hs : a.settled <;> cases b.settled <;> cases a.judged <;> cases b.judged <;> simp
  rw [tickEvents, List.length_append]
  exact Nat.add_le_add (settle ..) (traceStep_events ..)

/-! ### What step 7 leaves of the work -/

/-- No ABANDON. -/
def NoAbandon (f : Frame) (_ : Nat) : Prop := f.cls ≠ .abandon

/-- Nothing of the trajectory unit changes but its mode, which is kept in STOPPING, STANDING and BRAKED (R136), and at
most `n` frames that are no ABANDON join the queue. -/
structure WorkKept (n : Nat) (s t : State) : Prop where
  traj : t.traj = { s.traj with motion := t.traj.motion }
  rests : 3 ≤ motionCode s.traj.motion → motionCode s.traj.motion ≤ 5 → t.traj.motion = s.traj.motion
  abandonSent : t.round.abandonSent = s.round.abandonSent
  joins : Joins NoAbandon n s.port t.port

theorem WorkKept.of_same {s t : State} (ht : t.traj = s.traj) (hr : t.round = s.round) (hp : t.port = s.port) :
    WorkKept 0 s t :=
  ⟨by rw [ht], fun _ _ => by rw [ht], by rw [hr], hp ▸ .refl _⟩

theorem WorkKept.trans {n m : Nat} {s t u : State} (h : WorkKept n s t) (k : WorkKept m t u) :
    WorkKept (n + m) s u where
  traj := by rw [k.traj, h.traj]
  rests := fun h1 h2 => by
    have e := h.rests h1 h2
    rw [k.rests (by rwa [e]) (by rwa [e]), e]
  abandonSent := k.abandonSent.trans h.abandonSent
  joins := h.joins.trans k.joins

theorem WorkKept.mono {n m : Nat} {s t : State} (h : WorkKept n s t) (hn : n ≤ m) : WorkKept m s t :=
  { h with joins := h.joins.mono hn fun _ _ e => e }

theorem report_workKept (e : EventKind) (q : Nat) (v : BitVec 32) (s : State) : WorkKept 1 s (report e q v s) :=
  ⟨by simp, by simp, by simp,
    (report_joins e q v s).mono le_rfl fun _ _ ⟨hf, _⟩ => by simp [NoAbandon, hf, eventFrame]⟩

theorem composeEvents_workKept (l : List TickEvent) (s : State) : WorkKept l.length s (l.foldl composeEvent s) := by
  induction l generalizing s with
  | nil => exact .of_same rfl rfl rfl
  | cons e l ih =>
    rw [List.length_cons, Nat.add_comm]
    exact (report_workKept ..).trans (ih (composeEvent s e))

theorem endCause_workKept (c : Cause) (s : State) : WorkKept 0 s (endCause c s) := .of_same (by simp) (by simp) (by simp)

/-- A raised cause that is no line cause. -/
theorem raiseCause_workKept {c : Cause} (hc : c.isLine = false) (s : State) : WorkKept 1 s (raiseCause c s) := by
  simp only [raiseCause]
  (repeat' split)
  · exact (WorkKept.of_same rfl rfl rfl).mono (by decide)
  · have held := actOnCause_holdTaken c (addCause c s)
    rw [hc] at held
    refine ⟨held.traj, held.kept rfl, by rw [held.plan]; rfl, ?_⟩
    exact (actOnCause_joins c (addCause c s)).mono le_rfl fun f _ (e : f.cls = .hold) => by simp [NoAbandon, e]
  · exact (WorkKept.of_same (by simp) (by simp) (by simp)).mono (by decide)

theorem closeTick_workKept (good : Bool) (n : Nat) (m : Motion) (l : List TickEvent) (u : State) :
    WorkKept (2 + l.length) u (closeTick good n m l u) := by
  have encoder : WorkKept 1 u (reportEncoder good n u) := by
    simp only [reportEncoder]
    (repeat' split)
    · exact raiseCause_workKept rfl u
    · exact (endCause_workKept ..).mono (by decide)
    · exact (WorkKept.of_same rfl rfl rfl).mono (by decide)
  have following : ∀ s, WorkKept 1 s (reportFollowing m s) := fun s => by
    simp only [reportFollowing]
    (repeat' split)
    · exact raiseCause_workKept rfl s
    · exact (endCause_workKept ..).mono (by decide)
    · exact (WorkKept.of_same rfl rfl rfl).mono (by decide)
  exact (encoder.trans (following _)).trans (composeEvents_workKept l _)

/-- Where the causes stay as they were, step 7 composes the events and does nothing else. -/
theorem closeTick_unchanged {good : Bool} {n : Nat} {m : Motion} {l : List TickEvent} {u : State}
    (h : u.conf.life ≠ .strapFault) (hc : (closeTick good n m l u).hold.causes = u.hold.causes) :
    closeTick good n m l u = l.foldl composeEvent u := by
  have he : (reportEncoder good n u).hold.causes.encoder = u.hold.causes.encoder := by
    have := congrArg CauseSet.encoder hc
    rwa [closeTick, composeEvents_hold, reportFollowing_causes (by simpa using h)] at this
  have hx := reportEncoder_same h he
  have hf : (reportFollowing m u).hold.causes.following = u.hold.causes.following := by
    have := congrArg CauseSet.following hc
    rwa [closeTick, composeEvents_hold, hx] at this
  rw [closeTick, hx, reportFollowing_same h hf]

/-- What a tick taken now leaves of the work `w` that its mode does. -/
structure TickDone (s : State) (w : TickWork) (t : State) : Prop where
  traj : t.traj =
    { w.state.traj with
      motion := t.traj.motion, lastFeedforward := w.out.feedforward, lastTick := s.time.nextTick }
  rests : 3 ≤ motionCode w.state.traj.motion → motionCode w.state.traj.motion ≤ 5 → t.traj.motion = w.state.traj.motion
  abandonSent : t.round.abandonSent = w.state.round.abandonSent
  joins : Joins NoAbandon 4 w.state.port t.port
  setpoint : t.axis.lastSetpoint = some w.out.setpoint
  lastEncoder : t.axis.lastEncoder = w.state.axis.lastEncoder
  fe : t.axis.fe = w.state.axis.fe
  unchanged : t.hold.causes = s.hold.causes → t.traj.motion = w.state.traj.motion ∧ t.round = w.state.round

theorem TickDone.rests_at {s t : State} {w : TickWork} (h : TickDone s w t) {m : Motion} (hm : w.state.traj.motion = m)
    (code : motionCode m = 3 ∨ motionCode m = 4 ∨ motionCode m = 5) : t.traj.motion = m :=
  (h.rests (by rw [hm]; omega) (by rw [hm]; omega)).trans hm

theorem countAndFinish_done {reply : EncoderReply} {s : State} {w : TickWork} (live : s.conf.life ≠ .strapFault)
    (hw : tickWork s.time.nextTick (sampled reply s) = some w) :
    TickDone s w (countAndFinish s.time.nextTick (goodPosition reply) w) := by
  have hhold : w.state.hold = s.hold := (tickWork_hold _ _ _ hw).trans rfl
  have hconf : w.state.conf = s.conf := (tickWork_conf _ _ _ hw).trans rfl
  have kept := (closeTick_workKept (goodPosition reply).isSome w.state.axis.goodRun w.state.traj.motion
    (tickEvents s.time.nextTick (goodPosition reply) w) (countedTick s.time.nextTick (goodPosition reply) w)).mono
    (m := 4) (by have := tickEvents_length s.time.nextTick (goodPosition reply) w; omega)
  have measures := closeTick_measures (good := (goodPosition reply).isSome) (n := w.state.axis.goodRun)
    (m := w.state.traj.motion) (l := tickEvents s.time.nextTick (goodPosition reply) w)
    (u := countedTick s.time.nextTick (goodPosition reply) w)
  obtain ⟨-, encoder, fe, -⟩ := countAxis_counts w.state.items w.state.hold.causes.encoder
    (tracks w.state.traj.motion) (goodPosition reply).isSome s.time.nextTick w.state.axis
  rw [countAndFinish_parts]
  exact ⟨kept.traj, kept.rests, kept.abandonSent, kept.joins, measures.lastSetpoint,
    measures.lastEncoder.trans encoder, measures.fe.trans fe, fun hc => by
      rw [closeTick_unchanged (by simpa [countedTick, hconf] using live) (by rw [hc, ← hhold]; rfl)]
      exact ⟨by simp [countedTick, handOver], by simp [countedTick]⟩⟩

end Sys2Proof.Machine
end

section
/-! Ticks that work on no record: BRAKED, STANDING, RELEASING and STOPPING, with the stop profile of R138 and R139 against
the real numbers; and hence O34. -/

namespace Sys2Proof.Machine

/-! ### The clamp to the soft limits (0.5) -/

theorem clampSoft_eq {s : State} (h : s.items.softLo ≤ s.items.softHi) (x : Int) : s.clampSoft x = s.withinLimits x :=
  if_pos h

section
variable {s : State} (h : s.items.softLo ≤ s.items.softHi) (pos ff : Int)
include h

theorem clampedHandover_setpoint : (clampedHandover s pos ff).setpoint = s.withinLimits pos := by
  rw [← clampSoft_eq h, clampedHandover]
  split
  · exact (‹_ = pos›).symm
  · rfl

theorem clampedHandover_feedforward :
    (clampedHandover s pos ff).feedforward = if s.withinLimits pos = pos then ff else 0 := by
  rw [← clampSoft_eq h, clampedHandover]
  split <;> rfl

end

/-! ### The work by mode -/

section
variable {s : State} {t : Nat}

theorem tickWork_braked (h : s.traj.motion = .braked) :
    tickWork t s = some (plainTick s (clampedHandover s s.axis.lastEncoder 0)) := by
  simp only [tickWork, h]

theorem tickWork_standing {x : Int} (h : s.traj.motion = .standing x) :
    tickWork t s = some (plainTick s ⟨x, 0, noMarks⟩) := by
  simp only [tickWork, h]

theorem tickWork_releasing {r : Release} (h : s.traj.motion = .releasing r) :
    tickWork t s = some (plainTick s ⟨r.p0, 0, noMarks⟩) := by
  simp only [tickWork, h]

/-- A tick while the stop runs (R138). -/
theorem tickWork_running {p : StopProfile} (h : s.traj.motion = .stopping p) (hr : p.runsAt t = true) :
    tickWork t s = some (plainTick s (clampedHandover s (p.posAt s.items.holdDecel (p.elapsed t))
      (p.feedforwardAt s.items.holdDecel (p.elapsed t)))) := by
  simp only [tickWork, h, stoppingTick, hr, if_true]

/-- The tick that ends the stop (R139). -/
theorem tickWork_stopped {p : StopProfile} (h : s.traj.motion = .stopping p) (hr : p.runsAt t = false) :
    tickWork t s = some (plainTick
      (enterMotion (.standing (clampedHandover s (p.restPos s.items.holdDecel) 0).setpoint) s)
      (clampedHandover s (p.restPos s.items.holdDecel) 0)) := by
  simp only [tickWork, h, stoppingTick, hr, Bool.false_eq_true, if_false]

/-- In these modes the work makes the lag 0, and of the rest it changes the mode alone. -/
theorem tickWork_lag {w : TickWork} (hm : 3 ≤ motionCode s.traj.motion) (hw : tickWork t s = some w) :
    w.state.traj = { s.traj with motion := w.state.traj.motion, lag := 0 } := by
  cases hx : s.traj.motion <;> simp only [hx, motionCode] at hm <;> try omega
  case stopping p =>
    cases hr : p.runsAt t
    · cases (tickWork_stopped hx hr).symm.trans hw; rfl
    · cases (tickWork_running hx hr).symm.trans hw; rfl
  case standing => cases (tickWork_standing hx).symm.trans hw; rfl
  case braked => cases (tickWork_braked hx).symm.trans hw; rfl
  case releasing => cases (tickWork_releasing hx).symm.trans hw; rfl

end

/-! ### The stop profile (R138, R139) -/

theorem signOf_eq_sign (x : Int) : (signOf x : ℝ) = (SignType.sign x : ℝ) := by
  rw [signOf, sign_apply]
  (repeat' split) <;> simp

theorem Exact.Denotes.lt_iff {n : Nat} {x y : Exact} {r s : ℝ} (h : Denotes n x r) (k : Denotes n y s) :
    x.lt y = true ↔ r < s := by
  rw [Exact.lt, (h.sub k).ltInt_iff, Int.cast_zero, sub_neg]

namespace StopProfile
variable (p : StopProfile) (a t : Nat)

theorem elapsed_denotes (n : Nat) : Exact.Denotes n (p.elapsed t) (((t : ℝ) - p.t0) / 1000000) := by
  simpa [elapsed] using Exact.denotes_ratio n ((t : Int) - p.t0) (d := 1000000) (by decide)

variable {p} in
theorem runsAt_iff (h : 0 < p.stopTime.den) :
    p.runsAt t = true ↔ ((t : ℝ) - p.t0) / 1000000 < p.stopTime.value :=
  (p.elapsed_denotes t _).lt_iff (Exact.denotes_value h)

variable {a}

theorem posAt_eq {n : Nat} {u : Exact} {r : ℝ} (h : Exact.Denotes n u r) :
    p.posAt a u = resultOf (p.sp0 + p.v0 * r - SignType.sign p.v0 * a * r ^ 2 / 2) := by
  have linear := (Exact.denotes_ofInt n p.sp0).add ((Exact.denotes_ofInt n p.v0).mul h)
  have braking := (Exact.denotes_ratio n (signOf p.v0 * a) two_pos).mul (h.mul h)
  refine (linear.sub braking).round_eq.trans (congrArg resultOf ?_)
  push_cast
  rw [signOf_eq_sign]
  ring

theorem feedforwardAt_eq {n : Nat} {u : Exact} {r : ℝ} (h : Exact.Denotes n u r) :
    p.feedforwardAt a u = resultOf (p.v0 - SignType.sign p.v0 * a * r) := by
  refine ((Exact.denotes_ofInt n p.v0).sub ((Exact.denotes_ofInt n (signOf p.v0 * a)).mul h)).round_eq.trans
    (congrArg resultOf ?_)
  push_cast
  rw [signOf_eq_sign]

theorem restPos_eq (ha : 0 < a) : p.restPos a = resultOf (p.sp0 + SignType.sign p.v0 * p.v0 ^ 2 / (2 * a)) := by
  refine ((Exact.denotes_ofInt 0 p.sp0).add
    (Exact.denotes_ratio 0 (signOf p.v0 * (p.v0 * p.v0)) (Nat.mul_pos two_pos ha))).round_eq.trans
    (congrArg resultOf ?_)
  push_cast
  rw [signOf_eq_sign, sq]

end StopProfile

end Sys2Proof.Machine

namespace Sys2Proof.Proofs
open Sys2Proof.Machine

/-- Settles O34, mode by mode; what step 7 leaves of the work is `TickDone`. -/
theorem ticksWithoutATrack : Obligations.TicksWithoutATrack := by
  intro reply s h ordered clamp hm
  obtain ⟨w, hw, he⟩ := execServoTick_worked reply h
  have done := countAndFinish_done h.live hw
  have clamped : ∀ pos ff, (clampedHandover (sampled reply s) pos ff).setpoint = clamp pos ∧
      (clampedHandover (sampled reply s) pos ff).feedforward = if clamp pos = pos then ff else 0 := fun pos ff =>
    ⟨clampedHandover_setpoint (by exact ordered) pos ff, clampedHandover_feedforward (by exact ordered) pos ff⟩
  refine ⟨_, he, ?_, fun hx => ?_, fun x hx => ?_, fun r hx => ?_, fun p hx hden hdecel => ⟨fun hu => ?_, fun hu => ?_⟩⟩
  · rw [done.traj, tickWork_lag (by exact hm) hw]
    rfl
  · cases (tickWork_braked (by exact hx)).symm.trans hw
    have motion := done.rests_at hx (.inr (.inr rfl))
    obtain ⟨setpoint, feedforward⟩ := clamped (sampled reply s).axis.lastEncoder 0
    rw [ite_self] at feedforward
    refine ⟨motion, by rw [done.traj]; exact feedforward, ?_⟩
    rw [done.setpoint, done.lastEncoder]
    exact congrArg some setpoint
  · cases (tickWork_standing (by exact hx)).symm.trans hw
    have motion := done.rests_at hx (.inr (.inl rfl))
    exact ⟨motion, by rw [done.traj]; rfl, done.setpoint⟩
  · cases (tickWork_releasing (by exact hx)).symm.trans hw
    exact ⟨by rw [done.traj]; rfl, done.setpoint, fun hc => (done.unchanged hc).1.trans hx⟩
  · cases (tickWork_running (by exact hx) ((p.runsAt_iff _ hden).mpr hu)).symm.trans hw
    have motion := done.rests_at hx (.inl rfl)
    obtain ⟨setpoint, feedforward⟩ := clamped (p.posAt s.items.holdDecel (p.elapsed s.time.nextTick))
      (p.feedforwardAt s.items.holdDecel (p.elapsed s.time.nextTick))
    rw [← p.posAt_eq (p.elapsed_denotes s.time.nextTick 0), ← p.feedforwardAt_eq (p.elapsed_denotes s.time.nextTick 0)]
    exact ⟨motion, done.setpoint.trans (congrArg some setpoint), by rw [done.traj]; exact feedforward⟩
  · have stopped : p.runsAt s.time.nextTick = false := by
      rw [← Bool.not_eq_true, p.runsAt_iff _ hden]
      exact hu.not_gt
    cases (tickWork_stopped (by exact hx) stopped).symm.trans hw
    obtain ⟨setpoint, feedforward⟩ := clamped (p.restPos s.items.holdDecel) 0
    rw [ite_self] at feedforward
    rw [← p.restPos_eq hdecel]
    have motion := done.rests_at rfl (.inr (.inl rfl))
    exact ⟨motion.trans (congrArg _ setpoint), by rw [done.traj]; exact feedforward,
      done.setpoint.trans (congrArg some setpoint)⟩

end Sys2Proof.Proofs
end

section
/-! Ticks in SETTLING and TRACKING, and the tick of a motion end: the work on the current record, and what the round engine
is told of it (R76 to R78, R90, R111, R113, R117 to R121, R124, R127, R128); hence O35 and O36. -/

namespace Sys2Proof.Machine

/-! ### A loss reported (R113, R119, R120) -/

/-- The round engine admits a report of a loss (R113). -/
def admitsLoss (s : State) : Bool :=
  inAbandonPhase s && currentOpen s && decide (s.round.abandon = none) && !s.round.abandonSent

/-- The epoch of an own ABANDON (R113). -/
def abandonEpochOf (s : State) : Nat := ceilTo s.items.tickPeriod (s.now + 20000)

/-- The own ABANDON of a cause, with its mark (R113). -/
def sendAbandon (c : AbandonCause) (s : State) : State :=
  offerFrame .abandon (abandonPayload ⟨s.currentSeq, epochField (abandonEpochOf s), abandonCode c⟩) (abandonEpochOf s)
    (s.withRound { s.round with abandonSent := true })

theorem reportAbandonCause_eq (c : AbandonCause) (s : State) :
    reportAbandonCause c s = if admitsLoss s then sendAbandon c s else s := rfl

/-- One ABANDON is the last: its mark bars the next (R113). -/
theorem admitsLoss_sendAbandon (c : AbandonCause) (s : State) : admitsLoss (sendAbandon c s) = false := by
  simp [admitsLoss, sendAbandon]

/-- TRACK_LOST before LIMIT, and one ABANDON for both. -/
theorem reportLosses_eq (limited : Bool) (s : State) :
    reportLosses limited s =
      if (decide ((s.items.lagLimit : Int) < |s.traj.lag|) || limited) && admitsLoss s then
        sendAbandon (if (s.items.lagLimit : Int) < |s.traj.lag| then .trackLost else .limit) s
      else s := by
  simp only [reportLosses, reportAbandonCause_eq]
  by_cases lost : (s.items.lagLimit : Int) < |s.traj.lag| <;> cases admits : admitsLoss s <;> cases limited <;>
    simp [lost, admits, admitsLoss_sendAbandon]

section
variable (c : AbandonCause) (s : State)

theorem sendAbandon_round : (sendAbandon c s).round = { s.round with abandonSent := true } := by simp [sendAbandon]

/-- The frame of the own ABANDON of a cause. -/
def abandonFrame : Frame :=
  ⟨.abandon, s.conf.straps.address, 0x3E, abandonPayload ⟨s.currentSeq, epochField (abandonEpochOf s), abandonCode c⟩⟩

theorem sendAbandon_joins :
    Joins (fun f d => f = abandonFrame c s ∧ d = abandonEpochOf s) 1 s.port (sendAbandon c s).port :=
  offerFrame_joins .abandon _ _ (s.withRound { s.round with abandonSent := true }) (by decide) (by decide)

variable {c s}

theorem sendAbandon_queued (live : s.conf.life ≠ .strapFault) (ahead : s.now < abandonEpochOf s)
    (room : s.port.queue.length < 8) : Queued (sendAbandon c s) (abandonFrame c s) (abandonEpochOf s) :=
  offerFrame_queued .abandon _ _ (s.withRound { s.round with abandonSent := true }) live ahead room

end

theorem epochField_eq {epoch : Nat} (h : epoch < 2 ^ 48) : epochField epoch = epoch :=
  if_pos (by rw [Config.timeMax]; omega)

theorem admitsLoss_iff {s : State} {rec : Record} (h : s.store.current = some rec) :
    admitsLoss s = true ↔ inAbandonPhase s = true ∧ rec.dwellDone = false ∧ s.round.abandon = none ∧
      s.round.abandonSent = false := by
  simp [admitsLoss, currentOpen, h, and_assoc]

/-! ### The work on a record (R118) -/

/-- The trajectory unit's items after items 2 and 3 of R118. -/
def steppedTraj (rec : Record) (t : Nat) (s : State) : Trajectory :=
  stepOffset s.items (stepTrack (demandAt s rec t) s.traj)

/-- The state after items 2 to 4 of R118, with GUIDE SATURATED. -/
def steppedState (rec : Record) (t : Nat) (s : State) : State :=
  reportSaturated (steppedTraj rec t s) (s.withTraj (stepGuide s.items (steppedTraj rec t s)))

/-- The sum of R120 at a tick. -/
def tickSum (rec : Record) (t : Nat) (s : State) : Int := setpointSum (stepGuide s.items (steppedTraj rec t s))

section
variable (rec : Record) (t : Nat) (s : State)

@[simp] theorem steppedState_traj :
    (steppedState rec t s).traj =
      { stepGuide s.items (steppedTraj rec t s) with
        saturated := s.traj.saturated || guideMeetsLimit s.items (steppedTraj rec t s) } := by
  have items : (s.withTraj (stepGuide s.items (steppedTraj rec t s))).items = s.items := rfl
  have before : (steppedTraj rec t s).saturated = s.traj.saturated := rfl
  rw [steppedState, reportSaturated, items, before]
  cases hm : guideMeetsLimit s.items (steppedTraj rec t s) <;> cases hs : s.traj.saturated <;>
    simp [stepGuide, before, hs]

theorem setpointSum_steppedState : setpointSum (steppedState rec t s).traj = tickSum rec t s := by
  rw [steppedState_traj]
  rfl

theorem trackingTick_state :
    (trackingTick rec t s).state =
      reportLosses (!decide (s.clampSoft (tickSum rec t s) = tickSum rec t s)) (steppedState rec t s) := by
  rw [← setpointSum_steppedState]
  rfl

theorem trackingTick_setpoint : (trackingTick rec t s).out.setpoint = s.clampSoft (tickSum rec t s) := by
  rw [← setpointSum_steppedState]
  rfl

theorem trackingTick_feedforward :
    (trackingTick rec t s).out.feedforward =
      trackFeedforward s.items (!decide (s.clampSoft (tickSum rec t s) = tickSum rec t s)) (rec.track.vel t) := by
  rw [← setpointSum_steppedState]
  rfl

@[simp] theorem steppedState_time : (steppedState rec t s).time = s.time := by simp [steppedState]
@[simp] theorem steppedState_store : (steppedState rec t s).store = s.store := by simp [steppedState]
@[simp] theorem steppedState_round : (steppedState rec t s).round = s.round := by simp [steppedState]
@[simp] theorem steppedState_conf : (steppedState rec t s).conf = s.conf := by simp [steppedState]

theorem steppedState_joins : Joins NoAbandon 1 s.port (steppedState rec t s).port := by
  have told : ∀ q v (u : State), u.port = s.port → Joins NoAbandon 1 s.port (report .guideSaturated q v u).port :=
    fun q v u h => h ▸ (report_workKept .guideSaturated q v u).joins
  simp only [steppedState, reportSaturated]
  split
  · exact told _ _ _ rfl
  · exact .refl _

variable {s} in
/-- GUIDE SATURATED at the first guide step of an acquisition that the total limit changes (R128, log 34). -/
theorem steppedState_queued (hs : s.traj.saturated = false) (meets : guideMeetsLimit s.items (steppedTraj rec t s) = true)
    (enabled : Enabled s .guideSaturated) (room : s.port.queue.length < 8) :
    Queued (steppedState rec t s)
      (eventFrame s .guideSaturated s.currentSeq (valueS (stepGuide s.items (steppedTraj rec t s)).guideApplied))
      (s.now + 1000000) := by
  have items : (s.withTraj (stepGuide s.items (steppedTraj rec t s))).items = s.items := rfl
  have before : (steppedTraj rec t s).saturated = false := hs
  rw [steppedState, reportSaturated, items, if_pos (by rw [meets, before]; rfl)]
  exact report_queued .guideSaturated _ _
    (State.withTraj _ { stepGuide s.items (steppedTraj rec t s) with saturated := true }) enabled room

end

/-- The setpoint of a tick on a record is its sum unless a clamp changed it (R120). -/
theorem TickDone.sentUnclamped_iff {s t u : State} {rec : Record}
    (done : TickDone s (trackingTick rec s.time.nextTick u) t) :
    SentUnclamped t ↔ u.clampSoft (tickSum rec s.time.nextTick u) = tickSum rec s.time.nextTick u := by
  rw [SentUnclamped, done.setpoint, trackingTick_setpoint, Option.some_inj, done.traj, trackingTick_state,
    reportLosses_traj, steppedState_traj]
  rfl

/-! ### A tick on the current record -/

/-- A tick on the current record begins in `u`, a tick of `s` whose trajectory unit's items are `j` but for the mode, and
which stands in a phase that allows an ABANDON when it is `observed`. -/
structure TrackBegun (j : Trajectory) (observed : Prop) (s u : State) : Prop where
  traj : u.traj = { j with motion := u.traj.motion }
  port : u.port = s.port
  store : u.store = s.store
  conf : u.conf = s.conf
  now : u.now = s.now
  abandon : u.round.abandon = s.round.abandon
  abandonSent : u.round.abandonSent = s.round.abandonSent
  phase : inAbandonPhase u = true ↔ observed

section
variable {j : Trajectory} {observed : Prop} {s t u : State} {rec : Record}
  (begun : TrackBegun j observed s u) (done : TickDone s (trackingTick rec s.time.nextTick u) t)
  (live : s.conf.life ≠ .strapFault) (ordered : s.items.softLo ≤ s.items.softHi)
  (held : s.store.current = some rec)
include begun

theorem TrackBegun.items : u.items = s.items := by rw [State.items, begun.conf, State.items]

theorem TrackBegun.currentSeq (held : s.store.current = some rec) : u.currentSeq = rec.seq := by
  rw [currentSeq_of_store begun.store, State.currentSeq, held]
  rfl

include done

theorem TrackBegun.done_traj :
    t.traj =
      { stepGuide s.items (steppedTraj rec s.time.nextTick u) with
        motion := t.traj.motion
        saturated := u.traj.saturated || guideMeetsLimit s.items (steppedTraj rec s.time.nextTick u)
        lastFeedforward := t.traj.lastFeedforward, lastTick := s.time.nextTick } := by
  rw [done.traj, trackingTick_state, reportLosses_traj, steppedState_traj, begun.items]

include ordered

theorem TrackBegun.done_setpoint :
    t.axis.lastSetpoint = some (s.withinLimits (tickSum rec s.time.nextTick u)) := by
  have items := begun.items
  rw [done.setpoint, trackingTick_setpoint, clampSoft_eq (by rwa [items]), State.withinLimits, State.withinLimits,
    items]

theorem TrackBegun.done_feedforward :
    t.traj.lastFeedforward =
      if s.withinLimits (tickSum rec s.time.nextTick u) = tickSum rec s.time.nextTick u then
        clampAbs s.items.vtrackMax (rec.track.vel s.time.nextTick)
      else 0 := by
  have items := begun.items
  rw [done.traj]
  refine (trackingTick_feedforward rec s.time.nextTick u).trans ?_
  rw [clampSoft_eq (by rwa [items]), trackFeedforward, State.withinLimits, State.withinLimits, items]
  split <;> simp_all

theorem TrackBegun.sentUnclamped_iff :
    SentUnclamped t ↔ s.withinLimits (tickSum rec s.time.nextTick u) = tickSum rec s.time.nextTick u := by
  rw [done.sentUnclamped_iff, clampSoft_eq (by rwa [begun.items]), State.withinLimits, State.withinLimits, begun.items]

omit ordered in
/-- With room GUIDE SATURATED outlives the rest of the tick. -/
theorem TrackBegun.saturatedQueued (held : s.store.current = some rec) (hs : u.traj.saturated = false)
    (meets : guideMeetsLimit s.items (steppedTraj rec s.time.nextTick u) = true) (enabled : Enabled s .guideSaturated)
    (room : Room s 8) :
    Queued t (eventFrame s .guideSaturated rec.seq (valueS t.traj.guideApplied)) (s.now + 1000000) := by
  have empty : u.port.queue.length = 0 := by rw [begun.port]; rw [Room] at room; omega
  have told := steppedState_queued rec s.time.nextTick hs (by rwa [begun.items])
    ⟨by rw [begun.conf]; exact enabled.1, by rw [begun.items]; exact enabled.2⟩ (by omega)
  have stepped := (steppedState_joins rec s.time.nextTick u).length (by omega)
  have losses := reportLosses_joins (!decide (u.clampSoft (tickSum rec s.time.nextTick u) =
    tickSum rec s.time.nextTick u)) (steppedState rec s.time.nextTick u)
  have lost := losses.length (by omega)
  have told := told.of_joins losses (by omega)
  rw [← trackingTick_state] at told lost
  have told := told.of_joins done.joins (by omega)
  rw [begun.currentSeq held, begun.now, begun.items] at told
  rw [begun.done_traj done]
  simpa [eventFrame, begun.conf] using told

/-- The work of a tick on a record is that of R118. -/
theorem TrackBegun.trackWork (held : s.store.current = some rec) : TrackWork j rec s t := by
  obtain ⟨m, hj⟩ : ∃ m, u.traj = { j with motion := m } := ⟨_, begun.traj⟩
  have traj := begun.done_traj done
  have setpoint := begun.done_setpoint done ordered
  have feedforward := begun.done_feedforward done ordered
  have told := begun.saturatedQueued done held
  have meets : guideMeetsLimit s.items (steppedTraj rec s.time.nextTick u) = true ↔
      (stepGuide s.items (steppedTraj rec s.time.nextTick u)).guideApplied ≠
        (steppedTraj rec s.time.nextTick u).guideApplied + guideStepOf s.items (steppedTraj rec s.time.nextTick u) := by
    rw [guideMeetsLimit, Bool.not_eq_true', decide_eq_false_iff_not]
    rfl
  have saturated : t.traj.saturated =
      (u.traj.saturated || guideMeetsLimit s.items (steppedTraj rec s.time.nextTick u)) := by rw [traj]
  simp only [tickSum, steppedTraj, demandAt, hj, begun.items] at traj setpoint feedforward told meets saturated
  have guide := congrArg Trajectory.guideApplied traj
  have position := congrArg Trajectory.trackSetpoint traj
  refine ⟨by rw [traj, feedforward]; rfl, ?_, setpoint, ?_, fun hs hg enabled room => ?_⟩
  · rw [position]
    exact abs_le.mpr (by simpa [stepTrack, stepOffset, stepGuide, rateLimitedStep] using clampAbs_range j.stepL _)
  · rw [saturated, Bool.or_eq_true, meets]
    rfl
  · have := told hs (meets.mpr hg) enabled room
    rw [guide] at this
    exact this

/-- The round engine is told of a lag beyond LAG_LIMIT and of a clamped setpoint (R113, R119, R120). -/
theorem TrackBegun.lossesReported (live : s.conf.life ≠ .strapFault) (held : s.store.current = some rec) :
    LossesReported observed rec s t := by
  have stepped := steppedState_joins rec s.time.nextTick u
  rw [begun.port] at stepped
  have now : (steppedState rec s.time.nextTick u).now = s.now := by rw [← begun.now]; simp [State.now]
  have items : (steppedState rec s.time.nextTick u).items = s.items := by rw [← begun.items]; simp [State.items]
  have seq : (steppedState rec s.time.nextTick u).currentSeq = rec.seq := by
    rw [← begun.currentSeq held]; exact currentSeq_of_store (by simp)
  have lag : t.traj.lag = (steppedState rec s.time.nextTick u).traj.lag := by
    rw [begun.done_traj done, steppedState_traj, begun.items]
  have admits : admitsLoss (steppedState rec s.time.nextTick u) = true ↔
      observed ∧ rec.dwellDone = false ∧ s.round.abandon = none ∧ s.round.abandonSent = false := by
    rw [admitsLoss_iff (by rw [steppedState_store, begun.store, held]), steppedState_round, begun.abandon,
      begun.abandonSent, ← begun.phase]
    simp [inAbandonPhase]
  have limited : (!decide (u.clampSoft (tickSum rec s.time.nextTick u) = tickSum rec s.time.nextTick u)) = true ↔
      ¬SentUnclamped t := by
    rw [begun.sentUnclamped_iff done ordered, clampSoft_eq (by rwa [begun.items]), Bool.not_eq_true',
      decide_eq_false_iff_not, State.withinLimits, State.withinLimits, begun.items]
  have work := trackingTick_state rec s.time.nextTick u
  rw [reportLosses_eq, items, ← lag] at work
  refine ⟨fun sends htick => ?_, fun still => ?_⟩
  · rw [if_pos (by simpa only [Bool.and_eq_true, Bool.or_eq_true, decide_eq_true_eq, limited, admits] using sends)] at work
    obtain ⟨multiple, reached, near⟩ := ceilTo_spec htick (s.now + 20000)
    have epoch : abandonEpochOf (steppedState rec s.time.nextTick u) = ceilTo s.items.tickPeriod (s.now + 20000) := by
      rw [abandonEpochOf, items, now]
    have frame : ∀ c, abandonFrame c (steppedState rec s.time.nextTick u) =
        ⟨.abandon, s.conf.straps.address, 0x3E,
          abandonPayload ⟨rec.seq, epochField (ceilTo s.items.tickPeriod (s.now + 20000)), abandonCode c⟩⟩ := fun c => by
      rw [abandonFrame, seq, epoch, steppedState_conf, begun.conf]
    generalize hc : (if (s.items.lagLimit : Int) < |t.traj.lag| then AbandonCause.trackLost else .limit) = c at work
    have sent := sendAbandon_joins c (steppedState rec s.time.nextTick u)
    rw [frame, epoch] at sent
    rw [← work] at sent
    refine ⟨by rw [done.abandonSent, work, sendAbandon_round], _, _, abandonCode c, ⟨multiple, reached, near⟩,
      fun h => epochField_eq h, fun lost => ?_, fun lost => ?_, fun room => ?_, fun e he he' => ?_⟩
    · rw [if_pos lost] at hc; rw [← hc]; rfl
    · rw [if_neg lost] at hc; rw [← hc]; rfl
    · rw [Room] at room
      have hn := stepped.length (by omega)
      have hw := sent.length (by omega)
      have queued := sendAbandon_queued (c := c) (s := steppedState rec s.time.nextTick u)
        (by rw [steppedState_conf, begun.conf]; exact live) (by rw [epoch, now]; omega) (by omega)
      rw [frame, epoch, ← work] at queued
      exact queued.of_joins done.joins (by omega)
    · have before := (done.joins.joined e he).resolve_right fun h => h he'
      exact (sent.joined e before).imp_left fun h => (stepped.joined e h).resolve_right fun h => h he'
  · rw [if_neg (by simpa only [Bool.and_eq_true, Bool.or_eq_true, decide_eq_true_eq, limited, admits] using still)] at work
    have joins := stepped.trans (work ▸ done.joins)
    refine ⟨by rw [done.abandonSent, work, steppedState_round, begun.abandonSent], fun e he hc => ?_,
      fun room e he _ => (joins.left (by rw [Room] at room; omega)).subset he⟩
    exact (joins.joined e he).resolve_right fun h => h hc

end

/-- A tick on the current record tells the round engine of a loss and nothing else. -/
theorem trackingTick_round (rec : Record) (t : Nat) (u : State) :
    (trackingTick rec t u).state.round =
      { u.round with abandonSent := (trackingTick rec t u).state.round.abandonSent } := by
  rw [trackingTick_state, reportLosses_eq]
  split
  · rw [sendAbandon_round, steppedState_round]
  · rw [steppedState_round]

/-! ### Where a tick on the current record begins (R90, R111, R117) -/

section
variable {reply : EncoderReply} {s : State} {rec : Record}

/-- A tick in SETTLING or TRACKING begins in its own mode, or in TRACKING from A on (R117). -/
theorem tickWork_onRecord (held : s.store.current = some rec) (hm : s.traj.motion = .settling ∨ s.traj.motion = .tracking) :
    ∃ u, TrackBegun s.traj (inAbandonPhase s = true) s u ∧
      tickWork s.time.nextTick (sampled reply s) = some (trackingTick rec s.time.nextTick u) := by
  have begun : TrackBegun s.traj (inAbandonPhase s = true) s (sampled reply s) :=
    ⟨rfl, rfl, rfl, rfl, rfl, rfl, rfl, .rfl⟩
  have tracks : TrackBegun s.traj (inAbandonPhase s = true) s (enterMotion .tracking (sampled reply s)) :=
    ⟨rfl, rfl, rfl, rfl, rfl, rfl, rfl, .rfl⟩
  simp only [tickWork, sampled_traj]
  rcases hm with hm | hm <;> simp only [hm]
  · by_cases ha : s.traj.arrival ≤ s.time.nextTick
    · exact ⟨_, tracks, by simp [ha, tickOnRecord, held]⟩
    · exact ⟨_, begun, by simp [ha, tickOnRecord, held]⟩
  · exact ⟨_, begun, by simp [tickOnRecord, held]⟩

/-- A tick in SLEWING before the motion end (R89). -/
theorem tickWork_slewing {p : SlewProfile} {t : Nat} (hm : s.traj.motion = .slewing p) (h : t < p.finish) :
    tickWork t s = some (plainTick s
      (clampedHandover s (p.posAt (t - p.motionStart)) (p.feedforwardAt (t - p.motionStart)))) := by
  simp only [tickWork, hm, slewingTick, if_pos h]

theorem tickWork_motionEnd {p : SlewProfile} (held : s.store.current = some rec) (hm : s.traj.motion = .slewing p)
    (h : p.finish ≤ s.time.nextTick) :
    tickWork s.time.nextTick (sampled reply s) =
      some (trackingTick rec s.time.nextTick (endMotion p.goal p.arrival s.time.nextTick (sampled reply s))) := by
  simp [tickWork, hm, slewingTick, h, tickOnRecord, held]

end

/-- The dwell record and the phase after a motion end (R111). -/
theorem reportMotionEnd_round {s : State} {d : DwellRecord} (h : s.round.dwell = some d) (t : Nat) :
    (reportMotionEnd t s).round =
      { s.round with
        dwell := some { d with motionEnded := true }
        plan := if s.round.plan = some (.observing .slew) then some (.observing (phaseAt d t)) else s.round.plan } := by
  simp only [reportMotionEnd, h, State.withRound_round]
  cases s.round.plan with
  | none => rfl
  | some p =>
    cases p
    case observing x => cases x <;> rfl
    all_goals rfl

theorem endMotion_round (g : Int) (a t : Nat) (s : State) : (endMotion g a t s).round = (reportMotionEnd t s).round := by
  simp only [endMotion, reportMotionEnd, enterMotion, settleOutputs_round, State.withTraj_round]
  split <;> rfl

theorem inAbandonPhase_iff {s : State} :
    inAbandonPhase s = true ↔ s.round.plan = some (.observing .settle) ∨ s.round.plan = some (.observing .dwellWait) ∨
      s.round.plan = some (.observing .dwell) := by
  simp only [inAbandonPhase]
  split <;> simp_all

theorem phaseAt_cases (d : DwellRecord) (t : Nat) :
    phaseAt d t = .settle ∨ phaseAt d t = .dwellWait ∨ phaseAt d t = .dwell := by
  rw [phaseAt]
  (repeat' split) <;> simp

/-- Every phase that follows SLEW at a motion end allows an ABANDON (R111, R113). -/
theorem inAbandonPhase_endMotion (g : Int) (a t : Nat) (s : State) :
    inAbandonPhase (endMotion g a t s) = true ↔
      inAbandonPhase s = true ∨ (s.round.plan = some (.observing .slew) ∧ s.round.dwell ≠ none) := by
  simp only [inAbandonPhase_iff, endMotion_round]
  cases hd : s.round.dwell with
  | none => simp [reportMotionEnd, hd]
  | some d =>
    rw [reportMotionEnd_round hd]
    by_cases hp : s.round.plan = some (.observing .slew)
    · simpa [hp] using phaseAt_cases d t
    · simp [hp]

/-- The tick of a motion end begins with the goal as its track setpoint (R90). -/
theorem endMotion_begun_track (reply : EncoderReply) (g : Int) (a : Nat) (s : State) :
    TrackBegun { s.traj with trackSetpoint := g }
      (inAbandonPhase s = true ∨ (s.round.plan = some (.observing .slew) ∧ s.round.dwell ≠ none)) s
      (endMotion g a s.time.nextTick (sampled reply s)) := by
  have round := endMotion_round g a s.time.nextTick (sampled reply s)
  refine ⟨?_, by simp, by simp, by simp, ?_, ?_, ?_, inAbandonPhase_endMotion g a _ (sampled reply s)⟩
  · simp [endMotion, enterMotion]
  · simp [State.now, sampled, advanceTick]
  · rw [round, reportMotionEnd]; split <;> rfl
  · rw [round, reportMotionEnd]; split <;> rfl

end Sys2Proof.Machine

namespace Sys2Proof.Proofs
open Sys2Proof.Machine

/-- Settles O35: where the tick begins by R117, then the work of R118 and the losses told of it. -/
theorem trackingTick : Obligations.TrackingTick := by
  intro reply s rec h held hm ordered
  obtain ⟨u, begun, hw⟩ := tickWork_onRecord (reply := reply) held hm
  obtain ⟨w, hw', he⟩ := execServoTick_worked reply h
  have mode := tickWork_mode hw' rfl
  cases hw.symm.trans hw'
  have done := countAndFinish_done h.live hw
  exact ⟨_, he, begun.trackWork done ordered held, begun.lossesReported done ordered h.live held,
    fun hc => by rw [(done.unchanged hc).1]; exact mode⟩

/-- Settles O36: the profile before the motion end, and from it on the work of R118 with the goal as track setpoint. -/
theorem slewingTick : Obligations.SlewingTick := by
  intro reply s p h hm ordered clamp u
  obtain ⟨w, hw, he⟩ := execServoTick_worked reply h
  have done := countAndFinish_done h.live hw
  refine ⟨_, he, fun before => ?_, fun reached rec held => ?_⟩
  · cases (tickWork_slewing (by exact hm) before).symm.trans hw
    have setpoint := clampedHandover_setpoint (s := sampled reply s) ordered (p.posAt u) (p.feedforwardAt u)
    have feedforward := clampedHandover_feedforward (s := sampled reply s) ordered (p.posAt u) (p.feedforwardAt u)
    refine ⟨?_, done.setpoint.trans (congrArg some setpoint), fun hc => ?_⟩
    · have traj := done.traj
      simp only [plainTick, u] at traj feedforward
      rw [feedforward] at traj
      exact traj
    · obtain ⟨motion, round⟩ := done.unchanged hc
      exact ⟨motion.trans hm, round⟩
  · cases (tickWork_motionEnd held hm reached).symm.trans hw
    have begun := endMotion_begun_track reply p.goal p.arrival s
    refine ⟨begun.trackWork done ordered held, begun.lossesReported done ordered h.live held, fun hc => ?_⟩
    obtain ⟨motion, round⟩ := done.unchanged hc
    refine ⟨motion.trans ((trackingTick_motion ..).trans (endMotion_motion ..)), fun d hd => ?_⟩
    rw [round, trackingTick_round, endMotion_round, reportMotionEnd_round (s := sampled reply s) hd]
    exact ⟨rfl, fun hp => by simp only [sampled_round, hp, if_true]; rfl⟩

end Sys2Proof.Proofs
end

section
/-! The trace: the entry of a tick, its flags, and what the ring does with it by its phase (R158, R167 to R169); hence
O37. -/

namespace Sys2Proof.Machine

/-! ### The flags field (3.3) -/

theorem TickFlags.bits_eq (f : TickFlags) :
    f.bits = BitVec.ofNat 16 (Nat.bit f.slewing (Nat.bit f.settling (Nat.bit f.tracking (Nat.bit f.stopping
      (Nat.bit f.braked (Nat.bit f.settled (Nat.bit f.rateLimited (Nat.bit f.limitHeld (Nat.bit f.guideStep
        (Nat.bit f.feOut (Nat.bit f.held (Nat.bit f.coast 0)))))))))))) := by
  simp only [TickFlags.bits, Nat.bit_val]
  congr 1
  ring

/-- Each flag stands at its bit, and bits 12 to 15 are 0. -/
theorem TickFlags.getLsbD_bits (f : TickFlags) :
    f.bits.getLsbD 0 = f.slewing ∧ f.bits.getLsbD 1 = f.settling ∧ f.bits.getLsbD 2 = f.tracking ∧
      f.bits.getLsbD 3 = f.stopping ∧ f.bits.getLsbD 4 = f.braked ∧ f.bits.getLsbD 5 = f.settled ∧
      f.bits.getLsbD 6 = f.rateLimited ∧ f.bits.getLsbD 7 = f.limitHeld ∧ f.bits.getLsbD 8 = f.guideStep ∧
      f.bits.getLsbD 9 = f.feOut ∧ f.bits.getLsbD 10 = f.held ∧ f.bits.getLsbD 11 = f.coast ∧
      ∀ n, 12 ≤ n → f.bits.getLsbD n = false := by
  simp only [f.bits_eq, BitVec.getLsbD_ofNat]
  refine ⟨?_, ?_, ?_, ?_, ?_, ?_, ?_, ?_, ?_, ?_, ?_, ?_, fun n hn => ?_⟩
  case refine_13 =>
    obtain ⟨k, rfl⟩ := Nat.exists_eq_add_of_le' hn
    simp [Nat.testBit_bit_succ]
  all_goals simp [Nat.testBit_bit_succ]

/-- The flags of the mode, by its code (R167). -/
theorem modeFlags_iff (m : Motion) :
    ((modeFlags m).slewing = true ↔ motionCode m = 0 ∨ motionCode m = 6) ∧
      ((modeFlags m).settling = true ↔ motionCode m = 1) ∧ ((modeFlags m).tracking = true ↔ motionCode m = 2) ∧
      ((modeFlags m).stopping = true ↔ motionCode m = 3) ∧ ((modeFlags m).braked = true ↔ motionCode m = 5) := by
  cases m <;> simp [modeFlags, motionCode]

/-! ### What of the axis interface and of the plan outlives the work of a tick -/

/-- Nothing of the axis interface changes but the outputs and the link. -/
def OutputsOnly (a b : AxisInterface) : Prop :=
  b = { a with driveEnable := b.driveEnable, brakeApplied := b.brakeApplied, link := b.link }

theorem OutputsOnly.refl (a : AxisInterface) : OutputsOnly a a := rfl

theorem enterMotion_outputsOnly (m : Motion) (s : State) : OutputsOnly s.axis (enterMotion m s).axis := rfl

theorem endMotion_outputsOnly (g : Int) (a t : Nat) (s : State) : OutputsOnly s.axis (endMotion g a t s).axis := by
  rw [endMotion, reportMotionEnd_axis]
  rfl

theorem tickWork_outputsOnly {t : Nat} {s : State} {w : TickWork} (h : tickWork t s = some w) :
    OutputsOnly s.axis w.state.axis := by
  simp only [tickWork] at h
  cases hm : s.traj.motion <;> simp only [hm] at h
  case slewing p =>
    simp only [slewingTick] at h
    split at h
    · cases h; exact .refl _
    · rw [tickOnRecord_axis h]; exact endMotion_outputsOnly ..
  case settling =>
    rw [tickOnRecord_axis h]
    split
    · exact enterMotion_outputsOnly ..
    · exact .refl _
  case tracking => rw [tickOnRecord_axis h]; exact .refl _
  case stopping p =>
    cases h
    simp only [stoppingTick]
    split
    · exact .refl _
    · exact enterMotion_outputsOnly _ s
  all_goals cases h; exact .refl _

/-- A motion end leaves a held plan held and no other plan held. -/
theorem endMotion_held (g : Int) (a t : Nat) (s : State) :
    (endMotion g a t s).round.plan = some .held ↔ s.round.plan = some .held := by
  rw [endMotion_round]
  cases hd : s.round.dwell with
  | none => rw [reportMotionEnd, hd]
  | some d =>
    rw [reportMotionEnd_round hd]
    by_cases hp : s.round.plan = some (.observing .slew) <;> simp [hp]

theorem tickOnRecord_plan {t : Nat} {s : State} {w : TickWork} (h : tickOnRecord t s = some w) :
    w.state.round.plan = s.round.plan := by
  obtain ⟨rec, -, rfl⟩ := Option.map_eq_some_iff.mp h
  rw [trackingTick_round]

theorem tickWork_held {t : Nat} {s : State} {w : TickWork} (h : tickWork t s = some w) :
    w.state.round.plan = some .held ↔ s.round.plan = some .held := by
  simp only [tickWork] at h
  cases hm : s.traj.motion <;> simp only [hm] at h
  case slewing p =>
    simp only [slewingTick] at h
    split at h
    · cases h; rfl
    · rw [tickOnRecord_plan h, endMotion_held]
  case settling => rw [tickOnRecord_plan h]; split <;> rfl
  case tracking => rw [tickOnRecord_plan h]
  case stopping p =>
    cases h
    simp only [stoppingTick]
    split <;> rfl
  all_goals cases h; rfl

/-! ### The marks of the work (R167) -/

theorem clampedHandover_limitHeld (s : State) (pos ff : Int) :
    (clampedHandover s pos ff).marks.limitHeld = true ↔ (clampedHandover s pos ff).setpoint ≠ pos := by
  rw [clampedHandover]
  split <;> simp_all [noMarks]

theorem clampedHandover_marks (s : State) (pos ff : Int) :
    (clampedHandover s pos ff).marks.rateLimited = false ∧ (clampedHandover s pos ff).marks.guideStep = false := by
  rw [clampedHandover]
  split <;> exact ⟨rfl, rfl⟩

/-- The work of a tick that finds the guide value `g` is that of a mode without a track, which marks neither a lag nor a
guide step, or it is that on a record. -/
inductive WorkForm (g : Int) (t : Nat) : TickWork → Prop where
  | plain (u : State) (h : Handover) : tracks u.traj.motion = false → u.traj.guideApplied = g →
      h.marks.rateLimited = false ∧ h.marks.guideStep = false → WorkForm g t (plainTick u h)
  | tracking (u : State) (rec : Record) : tracks u.traj.motion = true → u.traj.guideApplied = g →
      WorkForm g t (trackingTick rec t u)

theorem tickOnRecord_form {g : Int} {t : Nat} {u : State} {w : TickWork} (hm : tracks u.traj.motion = true)
    (hg : u.traj.guideApplied = g) (h : tickOnRecord t u = some w) : WorkForm g t w := by
  obtain ⟨rec, -, rfl⟩ := Option.map_eq_some_iff.mp h
  exact .tracking u rec hm hg

theorem tickWork_form {t : Nat} {s : State} {w : TickWork} (h : tickWork t s = some w) :
    WorkForm s.traj.guideApplied t w := by
  simp only [tickWork] at h
  cases hm : s.traj.motion <;> simp only [hm] at h
  case slewing p =>
    simp only [slewingTick] at h
    split at h
    · cases h; exact .plain _ _ (by rw [hm]; rfl) rfl (clampedHandover_marks ..)
    · refine tickOnRecord_form ?_ (by simp [endMotion, enterMotion]) h
      rw [endMotion_motion, modeAtMotionEnd]
      split <;> rfl
  case settling =>
    refine tickOnRecord_form ?_ ?_ h <;> split
    · rfl
    · rw [hm]; rfl
    · rfl
    · rfl
  case tracking => exact tickOnRecord_form (by rw [hm]; rfl) rfl h
  case stopping p =>
    cases h
    simp only [stoppingTick]
    split
    · exact .plain _ _ (by rw [hm]; rfl) rfl (clampedHandover_marks ..)
    · exact .plain _ _ rfl rfl (clampedHandover_marks ..)
  case braked => cases h; exact .plain _ _ (by rw [hm]; rfl) rfl (clampedHandover_marks ..)
  all_goals cases h; exact .plain _ _ (by rw [hm]; rfl) rfl ⟨rfl, rfl⟩

theorem sat32_eq_zero (x : Int) : sat32 x = 0 ↔ x = 0 := by
  rw [sat32]
  omega

section
variable {g : Int} {s t : State} {w : TickWork} (form : WorkForm g s.time.nextTick w) (done : TickDone s w t)
include form done

theorem WorkForm.rateLimited_iff : w.out.marks.rateLimited = true ↔ t.traj.lag ≠ 0 := by
  rw [done.traj]
  cases form with
  | plain u h hm hg marks => simp [plainTick, zeroLag, marks.1]
  | tracking u rec hm hg =>
    have lag : (trackingTick rec s.time.nextTick u).state.traj.lag =
        sat32 (demandAt u rec s.time.nextTick - (u.traj.trackSetpoint +
          rateLimitedStep u.traj.stepL u.traj.trackSetpoint (demandAt u rec s.time.nextTick))) := by
      rw [trackingTick_state, reportLosses_traj, steppedState_traj]
      rfl
    rw [lag, ne_eq, sat32_eq_zero, trackingTick, Bool.not_eq_true', decide_eq_false_iff_not]
    exact not_congr (by omega)

theorem WorkForm.guideStep_iff : w.out.marks.guideStep = true ↔ t.traj.guideApplied ≠ g := by
  rw [done.traj]
  cases form with
  | plain u h hm hg marks => simp [plainTick, zeroLag, marks.2, hg]
  | tracking u rec hm hg =>
    have guide : (trackingTick rec s.time.nextTick u).state.traj.guideApplied =
        (steppedState rec s.time.nextTick u).traj.guideApplied := by rw [trackingTick_state, reportLosses_traj]
    rw [guide, ← hg, ne_eq, trackingTick, Bool.not_eq_true', decide_eq_false_iff_not]
    rfl

theorem WorkForm.limitHeld_iff (hm : tracks w.state.traj.motion = true) :
    w.out.marks.limitHeld = true ↔ ¬SentUnclamped t := by
  cases form with
  | plain u h hu => rw [plainTick_motion, hu] at hm; cases hm
  | tracking u rec =>
    rw [done.sentUnclamped_iff, ← setpointSum_steppedState, trackingTick, Bool.not_eq_true', decide_eq_false_iff_not]
    rfl

end

/-! ### The trace through step 7 -/

/-- Ring, setting and phase of the trace are the same. -/
def SameTrace (a b : AxisInterface) : Prop := b.ring = a.ring ∧ b.setting = a.setting ∧ b.phase = a.phase

theorem SameTrace.refl (a : AxisInterface) : SameTrace a a := ⟨rfl, rfl, rfl⟩

theorem SameTrace.trans {a b c : AxisInterface} (h : SameTrace a b) (k : SameTrace b c) : SameTrace a c :=
  ⟨k.1.trans h.1, k.2.1.trans h.2.1, k.2.2.trans h.2.2⟩

theorem actOnCause_sameTrace (c : Cause) (s : State) : SameTrace s.axis (actOnCause c s).axis := by
  have held : SameTrace s.axis (takeHold c.isLine s).axis := by
    refine .trans (b := (stopBrakeTimer (dropSettle (holdPlan s))).axis) ?_ ⟨rfl, rfl, rfl⟩
    simp only [stopBrakeTimer]
    split <;> exact ⟨rfl, rfl, rfl⟩
  simpa [actOnCause] using held

theorem raiseCause_sameTrace (c : Cause) (s : State) : SameTrace s.axis (raiseCause c s).axis := by
  simp only [raiseCause]
  (repeat' split)
  · exact .refl _
  · exact actOnCause_sameTrace c (addCause c s)
  · exact ⟨rfl, rfl, rfl⟩

theorem endCause_sameTrace (c : Cause) (s : State) : SameTrace s.axis (endCause c s).axis := by
  simp only [endCause]
  split <;> exact ⟨rfl, rfl, rfl⟩

theorem closeTick_sameTrace (good : Bool) (n : Nat) (m : Motion) (l : List TickEvent) (u : State) :
    SameTrace u.axis (closeTick good n m l u).axis := by
  have encoder : SameTrace u.axis (reportEncoder good n u).axis := by
    simp only [reportEncoder]
    (repeat' split)
    · exact raiseCause_sameTrace ..
    · exact endCause_sameTrace ..
    · exact .refl _
  have following : ∀ s, SameTrace s.axis (reportFollowing m s).axis := fun s => by
    simp only [reportFollowing]
    (repeat' split)
    · exact raiseCause_sameTrace ..
    · exact endCause_sameTrace ..
    · exact .refl _
  rw [closeTick, composeEvents_axis]
  exact encoder.trans (following _)

/-! ### The events of a tick -/

/-- With room for all of them, each of the events composed in turn is queued. -/
theorem composeEvents_queued {l : List TickEvent} {e : TickEvent} {s : State} (he : e ∈ l) (h : Enabled s e.kind)
    (room : s.port.queue.length + l.length ≤ 8) :
    Queued (l.foldl composeEvent s) (eventFrame s e.kind e.seq e.value) (s.now + 1000000) := by
  induction l generalizing s with
  | nil => cases he
  | cons x l ih =>
    rw [List.length_cons] at room
    have length : (composeEvent s x).port.queue.length ≤ s.port.queue.length + 1 := report_length _ _ _ s (by omega)
    rcases List.mem_cons.mp he with rfl | he
    · exact (report_queued e.kind e.seq e.value s h (by omega)).of_joins
        (composeEvents_joins l (composeEvent s e)) (Nat.le_trans (Nat.add_le_add_right length _) (by omega))
    · have q := ih (s := composeEvent s x) he ⟨by simpa using h.1, by simpa [State.items] using h.2⟩
        (by omega)
      simpa [eventFrame, State.now] using q

/-- With room the events found at a tick are queued. -/
theorem closeTick_queued {good : Bool} {n : Nat} {m : Motion} {l : List TickEvent} {u : State} {e : TickEvent}
    (he : e ∈ l) (h : Enabled u e.kind) (room : u.port.queue.length + 2 + l.length ≤ 8) :
    Queued (closeTick good n m l u) (eventFrame u e.kind e.seq e.value) (u.now + 1000000) := by
  have length := (reportEncoder_joins (good := good) (n := n) (s := u)).length (by omega)
  have length' := (reportFollowing_joins (m := m) (s := reportEncoder good n u)).length (by omega)
  have q := composeEvents_queued (s := reportFollowing m (reportEncoder good n u)) he
    ⟨by simpa using h.1, by simpa [State.items] using h.2⟩ (by omega)
  rw [closeTick]
  simpa [eventFrame, State.now] using q

/-! ### The ring (R168) -/

/-- A full ring loses its oldest entry. -/
theorem pushEntry_eq (e : TraceEntry) {ring : List TraceEntry} (h : ring.length ≤ 256) :
    pushEntry e ring = (ring ++ [e]).drop (ring.length + 1 - 256) := by
  rw [pushEntry, Config.ringCapacity]
  split
  · rw [show ring.length + 1 - 256 = 0 by omega, List.drop_zero]
  · cases ring with
    | nil => rfl
    | cons x l => rw [show (x :: l).length + 1 - 256 = 1 by simp only [List.length_cons] at *; omega]; rfl

theorem traceCondition_iff (x : TraceSetting) (flags : BitVec 16) :
    traceCondition x flags = true ↔ (flags &&& x.mask = x.pattern ↔ x.sense = .isMatch) := by
  rw [traceCondition]
  cases hx : x.sense <;> simp

theorem traceStep_congr (t : Nat) (e : TraceEntry) {a b : AxisInterface} (h : SameTrace a b) :
    traceStep t e b = traceStep t e a := by
  obtain ⟨ring, setting, phase⟩ := h
  simp only [traceStep, ring, setting, phase]

/-! ### The entry of a tick (R168) -/

/-- The entry that step 6 forms of the work of a tick. -/
def workEntry (t : Nat) (good : Option Int) (w : TickWork) : TraceEntry :=
  tickEntry t w.out (transferred t w.out (countedWork t good w))

/-- The settled mark after a tick's counting and judgement (R165). -/
theorem tickSettle_settled (c : Items) (counts good : Bool) (fe : Int) (t : Nat) (r : SettleRecord) :
    (tickSettle c counts good fe t r).settled = true ↔
      r.settled = true ∨ (counts = true ∧ good = true ∧ |fe| ≤ (c.settleWindow : Int) ∧ c.settleCount ≤ r.counter + 1) := by
  have judged : ∀ x, (judgeArrival t x).settled = x.settled := fun x => by rw [judgeArrival]; split <;> rfl
  rw [tickSettle, judged]
  cases counts
  · simp
  · simp only [countSettle, if_true]
    (repeat' split) <;> simp_all

theorem settledNow_counted (t : Nat) (good : Option Int) (w : TickWork) :
    settledNow (countedWork t good w).axis = true ↔
      ∃ r, w.state.axis.settle = some r ∧
        (r.settled = true ∨ (tracks w.state.traj.motion = true ∧ good.isSome = true ∧
          |w.state.axis.fe| ≤ (w.state.items.settleWindow : Int) ∧ w.state.items.settleCount ≤ r.counter + 1)) := by
  have fe : (countSample good.isSome w.state.hold.causes.encoder w.state.axis).fe = w.state.axis.fe :=
    (countSample_other _ _ _).2.2.1
  have settle : (countSample good.isSome w.state.hold.causes.encoder w.state.axis).settle = w.state.axis.settle := by
    rw [countSample]; split <;> rfl
  simp only [countedWork, countAxis, countTrip, State.withAxis_axis, settledNow, fe, settle]
  cases w.state.axis.settle <;> simp [tickSettle_settled]

/-- What the trace of a tick has come to, of the step `r` of its ring. -/
structure TraceTold (s t : State) (r : TraceStep) : Prop where
  setting : t.axis.setting = s.axis.setting
  ring : t.axis.ring = r.ring
  phase : t.axis.phase = r.phase
  told : ∀ x ∈ r.events, Enabled s x.kind → Room s 8 →
    Queued t (eventFrame s x.kind x.seq x.value) (s.now + 1000000)

section
variable {reply : EncoderReply} {s : State} {w : TickWork}
  (hw : tickWork s.time.nextTick (sampled reply s) = some w)
include hw

theorem countAndFinish_traceTold :
    TraceTold s (countAndFinish s.time.nextTick (goodPosition reply) w)
      (traceStep s.time.nextTick (workEntry s.time.nextTick (goodPosition reply) w) s.axis) := by
  have trace := closeTick_sameTrace (goodPosition reply).isSome w.state.axis.goodRun w.state.traj.motion
    (tickEvents s.time.nextTick (goodPosition reply) w) (countedTick s.time.nextTick (goodPosition reply) w)
  obtain ⟨ring, setting, phase⟩ := trace
  have counted : SameTrace s.axis
      (transferred s.time.nextTick w.out (countedWork s.time.nextTick (goodPosition reply) w)).axis := by
    have worked : SameTrace s.axis w.state.axis := by rw [tickWork_outputsOnly hw]; exact ⟨rfl, rfl, rfl⟩
    refine worked.trans ?_
    simp only [transferred, transfer, countedWork, countAxis, countTrip, countSample]
    split <;> exact ⟨rfl, rfl, rfl⟩
  have same := traceStep_congr s.time.nextTick (workEntry s.time.nextTick (goodPosition reply) w) counted
  refine ⟨setting.trans counted.2.1, ring.trans (congrArg TraceStep.ring same), phase.trans (congrArg TraceStep.phase same),
    fun x hx enabled room => ?_⟩
  rw [← same] at hx
  have conf : w.state.conf = s.conf := (tickWork_conf _ _ _ hw).trans rfl
  have time : w.state.time.mountTime = s.time.mountTime :=
    (congrArg TimeBase.mountTime (tickWork_time _ _ _ hw)).trans rfl
  have length := (tickWork_joins hw).length (by rw [Room] at room; rw [sampled_port]; omega)
  have events := tickEvents_length s.time.nextTick (goodPosition reply) w
  have found : x ∈ tickEvents s.time.nextTick (goodPosition reply) w := List.mem_append_right _ hx
  have q := closeTick_queued (good := (goodPosition reply).isSome) (n := w.state.axis.goodRun)
    (m := w.state.traj.motion) (u := countedTick s.time.nextTick (goodPosition reply) w)
    found
    (by simpa [Enabled, countedTick, State.items, conf] using enabled)
    (by rw [Room] at room; rw [sampled_port] at length; rw [countedTick, handOver_port, State.withAxis_port]; omega)
  rw [countAndFinish_parts]
  simpa [eventFrame, State.now, countedTick, conf, time] using q

/-- The flags of the entry of a tick (R167), but for LIMIT_HELD, which is the mark of the work. -/
theorem workEntry_flags {t : State} (done : TickDone s w t) :
    let e := workEntry s.time.nextTick (goodPosition reply) w
    e.mode = s.modeAtTick ∧
      ((e.flags.getLsbD 0 = true ↔ e.mode = 0 ∨ e.mode = 6) ∧ (e.flags.getLsbD 1 = true ↔ e.mode = 1) ∧
        (e.flags.getLsbD 2 = true ↔ e.mode = 2) ∧ (e.flags.getLsbD 3 = true ↔ e.mode = 3) ∧
        (e.flags.getLsbD 4 = true ↔ e.mode = 5) ∧
        (e.flags.getLsbD 5 = true ↔ ∃ r, s.axis.settle = some r ∧ (r.settled = true ∨
          ((e.mode = 1 ∨ e.mode = 2) ∧ (goodPosition reply).isSome = true ∧ |e.fe| ≤ (s.items.settleWindow : Int) ∧
            s.items.settleCount ≤ r.counter + 1))) ∧
        (e.flags.getLsbD 6 = true ↔ t.traj.lag ≠ 0) ∧
        (e.flags.getLsbD 7 = true ↔ w.out.marks.limitHeld = true) ∧
        (e.flags.getLsbD 8 = true ↔ t.traj.guideApplied ≠ s.traj.guideApplied) ∧
        (e.flags.getLsbD 9 = true ↔ (s.items.settleWindow : Int) < |e.fe|) ∧
        (e.flags.getLsbD 10 = true ↔ s.round.plan = some .held) ∧
        (e.flags.getLsbD 11 = true ↔ s.time.timeState = .coast ∨ s.time.timeState = .lost) ∧
        ∀ n, 12 ≤ n → e.flags.getLsbD n = false) := by
  have items : w.state.items = s.items := by rw [State.items, tickWork_conf _ _ _ hw]; rfl
  have timeState : w.state.time.timeState = s.time.timeState :=
    (congrArg TimeBase.timeState (tickWork_time _ _ _ hw)).trans rfl
  have settle : w.state.axis.settle = s.axis.settle := by rw [tickWork_outputsOnly hw]; rfl
  have fe : (countedWork s.time.nextTick (goodPosition reply) w).axis.fe = w.state.axis.fe :=
    (countAxis_counts _ _ _ _ _ _).2.2.1
  have form := tickWork_form hw
  intro e
  have bits := TickFlags.getLsbD_bits
    (tickFlags (transferred s.time.nextTick w.out (countedWork s.time.nextTick (goodPosition reply) w)) w.out.marks)
  rw [show TickFlags.bits _ = e.flags from rfl] at bits
  obtain ⟨b0, b1, b2, b3, b4, b5, b6, b7, b8, b9, b10, b11, high⟩ := bits
  obtain ⟨slewing, settling, tracking, stopping, braked⟩ := modeFlags_iff w.state.traj.motion
  have mode := tracks_iff w.state.traj.motion
  refine ⟨tickWork_mode hw rfl, by rw [b0]; exact slewing, by rw [b1]; exact settling, by rw [b2]; exact tracking,
    by rw [b3]; exact stopping, by rw [b4]; exact braked, ?_, by rw [b6]; exact form.rateLimited_iff done, by rw [b7]; rfl,
    by rw [b8]; exact form.guideStep_iff done, ?_, ?_, ?_, high⟩
  · rw [b5, ← settle, ← items]
    refine (settledNow_counted ..).trans ?_
    simp only [mode, List.mem_cons, List.not_mem_nil, or_false]
    rw [← fe]
    exact Iff.rfl
  · rw [b9, ← items]
    exact decide_eq_true_iff
  · rw [b10]
    exact decide_eq_true_iff.trans ((tickWork_held hw).trans Iff.rfl)
  · rw [b11, ← timeState]
    exact (Bool.or_eq_true _ _).to_iff.trans (or_congr decide_eq_true_iff decide_eq_true_iff)

end

/-! ### The ring by its phase (R168, R169) -/

theorem TraceTold.triggered {s t : State} {ring : List TraceEntry} {p : TracePhase}
    (h : TraceTold s t ⟨ring, p, [triggeredEvent s.time.nextTick]⟩) (enabled : Enabled s .traceTriggered)
    (room : Room s 8) :
    Queued t (eventFrame s .traceTriggered 0 (BitVec.ofNat 32 s.time.nextTick)) (s.now + 1000000) :=
  h.told _ (List.mem_singleton.mpr rfl) enabled room

/-- An end of the capture stops the trace and tells the number of its entries (R169). -/
theorem TraceTold.stopped {s t : State} {ends : Bool} {ring : List TraceEntry} {p : TracePhase}
    (h : TraceTold s t (stopWhen ends ring p)) :
    t.axis.ring = ring ∧
      (ends = true → t.axis.phase = .stopped ∧ (Enabled s .traceStopped → Room s 8 →
        Queued t (eventFrame s .traceStopped 0 (BitVec.ofNat 32 t.axis.ring.length)) (s.now + 1000000))) ∧
      (ends = false → t.axis.phase = p) := by
  cases ends with
  | false => exact ⟨h.ring, nofun, fun _ => h.phase⟩
  | true =>
    refine ⟨h.ring, fun _ => ⟨h.phase, ?_⟩, nofun⟩
    rw [show t.axis.ring = ring from h.ring]
    exact h.told (stoppedEvent ring) (List.mem_singleton.mpr rfl)

end Sys2Proof.Machine

namespace Sys2Proof.Proofs
open Sys2Proof.Machine

/-- Settles O37: the entry is `workEntry`, its flags those of `workEntry_flags`, its LIMIT_HELD the mark of the mode's
work, and the ring does `traceStep`. -/
theorem tickRecordsTheTrace : Obligations.TickRecordsTheTrace := by
  intro reply s h bounded
  obtain ⟨w, hw, he⟩ := execServoTick_worked reply h
  have done := countAndFinish_done h.live hw
  have traced := countAndFinish_traceTold hw
  obtain ⟨-, encoder, fe, -⟩ := countAxis_counts w.state.items w.state.hold.causes.encoder
    (tracks w.state.traj.motion) (goodPosition reply).isSome s.time.nextTick w.state.axis
  obtain ⟨mode, f0, f1, f2, f3, f4, f5, f6, limitHeld, f8, f9, f10, f11, high⟩ := workEntry_flags hw done
  generalize ht : countAndFinish s.time.nextTick (goodPosition reply) w = t at done traced he f6 f8
  have setpoint := done.setpoint
  refine ⟨t, workEntry s.time.nextTick (goodPosition reply) w, he, traced.setting,
    ⟨rfl, setpoint, encoder.trans done.lastEncoder.symm, fe.trans done.fe.symm, mode⟩,
    ⟨f0, f1, f2, f3, f4, f5, f6, ⟨fun hm => ?_, fun p hp hm => ?_, fun p hp => ?_, fun hp => ?_, fun hp => ?_⟩,
      f8, f9, f10, f11, high⟩, ?_⟩
  · refine limitHeld.trans ((tickWork_form hw).limitHeld_iff done ((tracks_iff _).mpr ?_))
    simpa [mode, tickWork_mode hw rfl] using hm
  · have before : s.time.nextTick < p.finish := by
      rw [mode, State.modeAtTick, hp] at hm
      by_contra reached
      simp only [reached, if_false] at hm
      split at hm <;> cases hm
    cases (tickWork_slewing (s := sampled reply s) hp before).symm.trans hw
    exact limitHeld.trans (clampedHandover_limitHeld ..)
  · cases hr : p.runsAt s.time.nextTick
    · cases (tickWork_stopped (s := sampled reply s) hp hr).symm.trans hw
      exact limitHeld.trans (clampedHandover_limitHeld ..)
    · cases (tickWork_running (s := sampled reply s) hp hr).symm.trans hw
      exact limitHeld.trans (clampedHandover_limitHeld ..)
  · cases (tickWork_braked (s := sampled reply s) hp).symm.trans hw
    refine limitHeld.trans ((clampedHandover_limitHeld ..).trans ?_)
    rw [show (workEntry _ _ _).encoder = _ from encoder]
    rfl
  · cases hm : s.traj.motion <;> simp [hm, motionCode] at hp
    · cases (tickWork_standing (s := sampled reply s) hm).symm.trans hw
      exact fun hl => Bool.noConfusion (limitHeld.mp hl)
    · cases (tickWork_releasing (s := sampled reply s) hm).symm.trans hw
      exact fun hl => Bool.noConfusion (limitHeld.mp hl)
  · generalize workEntry s.time.nextTick (goodPosition reply) w = e at traced ⊢
    intro holds pushed triggered stopped
    have condition : traceCondition s.axis.setting e.flags = true ↔ holds := traceCondition_iff ..
    have push : pushEntry e s.axis.ring = pushed := pushEntry_eq e bounded.ring
    clear_value pushed
    simp only [traceStep, push] at traced
    refine ⟨fun hp => ?_, fun hp => ?_, fun hp => ?_, fun hp => ?_, fun n hp => ?_⟩
    · rcases hp with hp | hp <;> simp only [hp] at traced ⊢ <;> exact ⟨traced.ring, traced.phase⟩
    · simp only [hp, condition] at traced
      refine ⟨fun hh => ?_, fun hh => ?_⟩
      · rw [if_pos hh] at traced; exact ⟨traced.ring, traced.phase, traced.triggered⟩
      · rw [if_neg hh] at traced; exact ⟨traced.ring, traced.phase⟩
    · simp only [hp, Bool.and_eq_true, decide_eq_true_eq, condition] at traced
      by_cases hh : holds ∧ s.axis.setting.mode = .stopOn
      · rw [if_pos hh] at traced
        exact ⟨traced.ring, fun _ _ => ⟨traced.phase, traced.triggered⟩, fun hn => absurd hh hn⟩
      · rw [if_neg hh] at traced
        exact ⟨traced.ring, fun h1 h2 => absurd ⟨h1, h2⟩ hh, fun _ => traced.phase⟩
    · simp only [hp] at traced
      obtain ⟨ring, full, going⟩ := traced.stopped
      exact ⟨ring, fun hl => full (decide_eq_true hl), fun hl => going (decide_eq_false hl)⟩
    · simp only [hp] at traced
      obtain ⟨ring, full, going⟩ := traced.stopped
      exact ⟨ring, fun hn => full (decide_eq_true (by omega)), fun hn => going (decide_eq_false (by omega))⟩

end Sys2Proof.Proofs
end

section
/-! Quotients, roots and durations against the real numbers (R67 to R69), and the planning of slews with them: the wrap
choice, the prediction, the minimum motion time, the proposal and the motion profile (R73, R74, R80 to R88); hence O39. -/

namespace Sys2Proof.Machine

namespace Exact

/-! ### Conjugates and quotients (R67) -/

/-- The conjugate p - q·√n over the same denominator. -/
def conj (x : Exact) : Exact := ⟨x.p, -x.q, x.n, x.den⟩

theorem conj_ofInt (k : Int) : (ofInt k).conj = ofInt k := rfl

theorem conj_ratio (k : Int) (d : Nat) : (ratio k d).conj = ratio k d := rfl

theorem conj_root (n d : Nat) : (root n d).conj = (root n d).neg := rfl

theorem common_conj (x y : Exact) : common x.conj y.conj = common x y := by simp [common, conj]

theorem conj_add (x y : Exact) : (x.add y).conj = x.conj.add y.conj := by
  simp only [add, common_conj]
  simp [conj]
  ring

theorem conj_neg (x : Exact) : x.neg.conj = x.conj.neg := rfl

theorem conj_sub (x y : Exact) : (x.sub y).conj = x.conj.sub y.conj := by rw [sub, sub, conj_add, conj_neg]

theorem conj_mul (x y : Exact) : (x.mul y).conj = x.conj.mul y.conj := by
  simp only [mul, common_conj]
  simp [conj]
  ring

theorem conj_div (x y : Exact) : (x.div y).conj = x.conj.div y.conj := by
  have norm : y.conj.norm = y.norm := by simp [Exact.norm, conj]
  simp only [div, conj_mul, norm]
  rfl

/-- The norm of the numerator is the number times its conjugate. -/
theorem norm_eq {x : Exact} (h : 0 < x.den) : (x.norm : ℝ) = x.value * x.conj.value * x.den ^ 2 := by
  have root : √(x.n : ℝ) * √x.n = x.n := Real.mul_self_sqrt (Nat.cast_nonneg _)
  have d : (x.den : ℝ) ≠ 0 := by positivity
  simp only [Exact.norm, Exact.value, conj]
  push_cast
  field_simp
  linear_combination (x.q : ℝ) * x.q * root

namespace Denotes
variable {n : Nat} {x y : Exact} {r s : ℝ}

theorem gtInt_iff (h : Denotes n x r) (m : Int) : x.gtInt m = true ↔ (m : ℝ) < r := by
  rw [Exact.gtInt_iff m h.den, h.value]

/-- A quotient is formed where neither the divisor nor its conjugate is 0. -/
theorem div (h : Denotes n x r) (k : Denotes n y s) (hs : s ≠ 0) (hc : y.conj.value ≠ 0) :
    Denotes n (x.div y) (r / s) := by
  have norm := norm_eq k.den
  have d : (y.den : ℝ) ≠ 0 := by have := k.den; positivity
  rw [k.value] at norm
  have nonzero : (y.norm : ℝ) ≠ 0 := by rw [norm]; positivity
  have pos : 0 < y.norm.natAbs := Int.natAbs_pos.mpr (by exact_mod_cast nonzero)
  have conjugate : Denotes n ⟨y.p, -y.q, y.n, 1⟩ (y.conj.value * y.den) :=
    ⟨one_pos, k.root.imp_left fun e => by simp [e], by simp only [Exact.value, conj]; field_simp; simp⟩
  have quotient := ((h.mul conjugate).mul (denotes_ofInt n ((if y.norm < 0 then -1 else 1) * y.den))).mul
    (denotes_ratio n 1 pos)
  refine ⟨quotient.den, quotient.root, quotient.value.trans ?_⟩
  have sign : (((if y.norm < 0 then -1 else 1 : Int) : ℝ)) * (y.norm : ℝ) = (y.norm.natAbs : ℝ) := by
    rw [Nat.cast_natAbs, Int.cast_abs]
    split
    · rw [abs_of_neg (by exact_mod_cast ‹_›)]; push_cast; ring
    · rw [abs_of_nonneg (by exact_mod_cast not_lt.mp ‹_›)]; push_cast; ring
  have abs : (y.norm.natAbs : ℝ) ≠ 0 := by positivity
  push_cast at sign ⊢
  field_simp
  rw [← sign, norm]
  ring

end Denotes

/-! ### Roots and durations (R69) -/

/-- A number of µs in seconds. -/
theorem denotes_seconds (n u : Nat) : Denotes n (.ratio u 1000000) ((u : ℝ) / 1000000) := by
  simpa using denotes_ratio n (u : Int) (d := 1000000) (by decide)

theorem root_denotes (n : Nat) {d : Nat} (h : 0 < d) : Denotes n (root n d) (√n / d) :=
  ⟨h, .inr rfl, by simp [root, Exact.value]⟩

/-- A duration rounded up to a tick is the least multiple of the tick at or above it. -/
theorem ceilTick_spec {x : Exact} {period : Nat} (h : 0 < x.den) (hp : 0 < period) (nonneg : 0 ≤ x.value) :
    period ∣ x.ceilTick period ∧ x.value ≤ x.ceilTick period ∧ (x.ceilTick period : ℝ) < x.value + period := by
  have p : (0 : ℝ) < period := by positivity
  have ticks : (x.mul ⟨1, 0, 0, period⟩).value = x.value / period := by
    have := ((denotes_value h).mul (denotes_ratio x.n 1 hp)).value
    simpa [ratio, div_eq_mul_inv] using this
  obtain ⟨m, hm⟩ := Int.eq_ofNat_of_zero_le (Int.ceil_nonneg (div_nonneg nonneg p.le))
  have count : x.ceilTick period = m * period := by
    rw [ceilTick, ceil_eq, ticks, hm]
    exact Int.toNat_natCast (m * period)
  obtain ⟨below, reaches⟩ := Int.ceil_eq_iff.mp hm
  rw [Int.cast_natCast] at below reaches
  rw [lt_div_iff₀ p, sub_mul, one_mul, sub_lt_iff_lt_add] at below
  rw [count, Nat.cast_mul]
  exact ⟨dvd_mul_left _ _, (div_le_iff₀ p).mp reaches, below⟩

end Exact

/-! ### The wrap choice (R73, R74) -/

/-- `k` stands at the least distance from the predicted position among `l`, and is the lowest of those that do. -/
def IsNearest (p pS : Int) (l : List Int) (k : Int) : Prop :=
  k ∈ l ∧ ∀ k' ∈ l, wrapDistance p pS k < wrapDistance p pS k' ∨
    (wrapDistance p pS k = wrapDistance p pS k' ∧ k ≤ k')

theorem nearestWrap_eq_none (p pS : Int) (l : List Int) : nearestWrap p pS l = none ↔ l = [] := by
  cases l with
  | nil => simp [nearestWrap]
  | cons k ks =>
    simp only [nearestWrap]
    (repeat' split) <;> simp

theorem isNearest_of_nearestWrap {p pS : Int} {l : List Int} {k : Int} (sorted : l.Pairwise (· < ·))
    (h : nearestWrap p pS l = some k) : IsNearest p pS l k := by
  induction l generalizing k with
  | nil => cases h
  | cons a l ih =>
    obtain ⟨below, sorted⟩ := List.pairwise_cons.mp sorted
    simp only [nearestWrap] at h
    split at h
    · cases h
      cases (nearestWrap_eq_none p pS l).mp ‹_›
      exact ⟨List.mem_singleton.mpr rfl, fun k' hk => .inr (by rw [List.mem_singleton.mp hk]; exact ⟨rfl, le_rfl⟩)⟩
    · rename_i b hb
      obtain ⟨mem, least⟩ := ih sorted hb
      split at h <;> cases h
      · refine ⟨List.mem_cons_of_mem _ mem, List.forall_mem_cons.mpr ⟨.inl ‹_›, least⟩⟩
      · refine ⟨List.mem_cons_self, List.forall_mem_cons.mpr ⟨.inr ⟨rfl, le_rfl⟩, fun k' hk => ?_⟩⟩
        have := least k' hk
        have := below k' hk
        omega

theorem nearestWrap_eq_some {p pS : Int} {l : List Int} {k : Int} (sorted : l.Pairwise (· < ·)) :
    nearestWrap p pS l = some k ↔ IsNearest p pS l k := by
  refine ⟨isNearest_of_nearestWrap sorted, fun h => ?_⟩
  obtain ⟨b, hb⟩ := Option.ne_none_iff_exists'.mp fun e =>
    List.ne_nil_of_mem h.1 ((nearestWrap_eq_none p pS l).mp e)
  have least := isNearest_of_nearestWrap sorted hb
  have := h.2 b least.1
  have := least.2 k h.1
  rw [hb, show b = k by omega]

theorem segmentAdmits_iff (c : Items) (k : Int) (g : Segment) :
    segmentAdmits c k g = true ↔ ∀ u : ℝ, u = 0 ∨ u = g.span / 1000000 →
      let x := resultOf (g.c0 + g.c1 * u + g.c2 / 65536 * u ^ 2 + g.c3 / 4294967296 * u ^ 3) + k * 1327104000
      c.softLo ≤ x ∧ x ≤ c.softHi := by
  have start := g.posAt_eq (Exact.denotes_ofInt 0 0)
  have finish := g.posAt_eq (Exact.denotes_ofInt 0 (g.span : Int))
  rw [Int.cast_zero, zero_div] at start
  rw [Int.cast_natCast] at finish
  simp only [segmentAdmits, start, finish, Config.fullTurn, Bool.and_eq_true, decide_eq_true_eq, forall_eq_or_imp,
    forall_eq, and_assoc]

theorem mem_admissible_iff (c : Items) (tr : Track) (k : Int) :
    k ∈ (wrapCandidates c).filter (admissible c tr) ↔ AdmissibleWrap c tr k := by
  have candidate : k ∈ wrapCandidates c ↔ k = 0 ∨ (c.modular = 1 ∧ (k = -1 ∨ k = 1)) := by
    rw [wrapCandidates]
    split
    · simp [*]; omega
    · simp [*]
  rw [List.mem_filter, candidate, admissible, List.all_eq_true]
  simp only [segmentAdmits_iff]
  rfl

theorem wrapCandidates_sorted (c : Items) : (wrapCandidates c).Pairwise (· < ·) := by
  rw [wrapCandidates]
  split <;> decide

section
variable (c : Items) (tr : Track) (start : Nat) (pS : Int)

theorem chooseWrap_eq_none : chooseWrap c tr start pS = none ↔ ∀ k, ¬AdmissibleWrap c tr k := by
  rw [chooseWrap, nearestWrap_eq_none, List.eq_nil_iff_forall_not_mem]
  simp only [mem_admissible_iff]

theorem chooseWrap_eq_some (k : Int) : chooseWrap c tr start pS = some k ↔ IsWrapChoice c tr start pS k := by
  rw [chooseWrap, nearestWrap_eq_some ((wrapCandidates_sorted c).filter _), IsNearest]
  simp only [mem_admissible_iff]
  rfl

end

/-! ### The predicted position (R81) -/

section
variable {s : State} (ordered : s.items.softLo ≤ s.items.softHi) {start : Nat}
include ordered

theorem predict_eq : predict s start = s.withinLimits (predictRaw s start) := clampSoft_eq ordered _

omit ordered in
/-- The position of a profile, or of the current track from its motion end on. -/
theorem onProfile_predictProfile (p : SlewProfile) : s.OnProfile p start (s.withinLimits (predictProfile s p start)) := by
  rw [predictProfile]
  refine ⟨fun before => by rw [if_pos before], fun ended rec held => ?_⟩
  rw [if_neg ended.not_gt, trackedPosition, held]
  rfl

theorem isPredicted_predict : IsPredicted s start (predict s start) := by
  rw [predict_eq ordered]
  refine ⟨fun hm rec held => ?_, fun hm empty y hy => ?_, fun p hm => ?_, fun r hm before => ?_,
    fun r rec hm after held => ⟨fun p late fixed => ?_, fun g fixed => ?_⟩, fun p hm hden hdecel => ?_, fun hm y hy => ?_⟩
  · rcases hm with hm | hm <;> simp only [predictRaw, hm, predictTracking, held] <;> rfl
  · rcases hm with hm | hm <;> simp only [predictRaw, hm, predictTracking, empty, lastSetpoint_of_some hy]
  · simp only [predictRaw, hm]
    exact onProfile_predictProfile p
  · simp only [predictRaw, hm, predictRelease, before, if_true]
  · simp only [predictRaw, hm, predictRelease, after.not_ge, if_false, held, fixed]
    exact onProfile_predictProfile p
  · simp only [predictRaw, hm, predictRelease, after.not_ge, if_false, held, fixed, trackedPosition]
    rfl
  · have runs := p.runsAt_iff start hden
    have running := p.posAt_eq (a := s.items.holdDecel) (p.elapsed_denotes start 0)
    have resting := p.restPos_eq hdecel
    simp only [predictRaw, hm, ← running, ← resting]
    exact ⟨fun hu => by rw [if_pos (runs.mpr hu)], fun hu => by rw [if_neg (fun h => (runs.mp h).not_ge hu)]⟩
  · rcases hm with ⟨h, hm⟩ | hm <;> simp only [predictRaw, hm, lastSetpoint_of_some hy]

end

/-! ### The minimum motion time (R80) -/

section
variable {c : Items} (hv : 0 < c.vmax) (ha : 0 < c.amax) (d : Nat)
include hv ha

/-- A minimum motion time is formed of a root that no other number shares, or of none. -/
theorem minMotion_denotes :
    Exact.Denotes (d * c.amax) (minMotion c d)
      (1000000 * (if d * c.amax ≤ c.vmax * c.vmax then 2 * √((d : ℝ) / c.amax)
        else (d : ℝ) / c.vmax + (c.vmax : ℝ) / c.amax)) := by
  rw [minMotion]
  split
  · have h := (Exact.root_denotes (d * c.amax) ha).mul (Exact.denotes_ofInt _ 2000000)
    have a : (0 : ℝ) < c.amax := by positivity
    have root : √((d * c.amax : Nat) : ℝ) / c.amax = √((d : ℝ) / c.amax) := by
      rw [Nat.cast_mul, Real.sqrt_mul (Nat.cast_nonneg d), Real.sqrt_div (Nat.cast_nonneg d), mul_div_assoc,
        Real.sqrt_div_self, div_eq_mul_inv]
    rw [root] at h
    convert h using 1
    push_cast
    ring
  · have h := (Exact.denotes_ratio (d * c.amax) (1000000 * d : Int) hv).add
      (Exact.denotes_ratio _ (1000000 * c.vmax : Int) ha)
    convert h using 1
    push_cast
    ring

theorem minMotion_den : 0 < (minMotion c d).den := (minMotion_denotes hv ha d).den

/-- Accelerating and braking all the way is the quickest of all motions over a distance. -/
theorem minMotion_ge : 2000000 * √((d : ℝ) / c.amax) ≤ (minMotion c d).value := by
  rw [(minMotion_denotes hv ha d).value]
  have v : (0 : ℝ) < c.vmax := by positivity
  have a : (0 : ℝ) < c.amax := by positivity
  split
  · linarith
  · have mean : 2 * √((d : ℝ) / c.amax) ≤ (d : ℝ) / c.vmax + (c.vmax : ℝ) / c.amax := by
      have square : (d : ℝ) / c.amax = d / c.vmax * (c.vmax / c.amax) := by field_simp
      rw [← le_div_iff₀' two_pos, Real.sqrt_le_iff, square]
      exact ⟨by positivity, by nlinarith [sq_nonneg ((d : ℝ) / c.vmax - c.vmax / c.amax)]⟩
    linarith

theorem minMotion_nonneg : 0 ≤ (minMotion c d).value := (by positivity : (0 : ℝ) ≤ _).trans (minMotion_ge hv ha d)

end

/-! ### The proposal (R82, R83) -/

section
variable {s : State} {rec : Record} {epoch : Nat}

theorem isStopping_iff (m : Motion) : isStopping m = true ↔ ∃ x, m = .stopping x := by cases m <;> simp [isStopping]

theorem computeProposal_stopping (h : ∃ x, s.traj.motion = .stopping x) :
    computeProposal s rec epoch = ⟨.notReady, 0, none⟩ :=
  if_pos ((isStopping_iff _).mpr h)

/-- Outside STOPPING the proposal is that of the chosen wrap. -/
theorem computeProposal_eq (h : ∀ x, s.traj.motion ≠ .stopping x) {k : Option Int}
    (hk : chooseWrap s.items rec.track (epoch + s.items.tAgree) (predict s (epoch + s.items.tAgree)) = k) :
    computeProposal s rec epoch = k.elim ⟨.unreachable, 0, none⟩
      (proposeWith s rec.track (epoch + s.items.tAgree) (predict s (epoch + s.items.tAgree))) := by
  rw [computeProposal, if_neg fun e => let ⟨x, hx⟩ := (isStopping_iff _).mp e; h x hx, hk]
  cases k <;> rfl

end

/-- The longer of two durations rounds up to the longer of the two rounded ones. -/
theorem max_ceilTick_spec {x y : Exact} {period : Nat} (hx : 0 < x.den) (hy : 0 < y.den) (hp : 0 < period)
    (nx : 0 ≤ x.value) (ny : 0 ≤ y.value) :
    period ∣ max (x.ceilTick period) (y.ceilTick period) ∧
      max x.value y.value ≤ (max (x.ceilTick period) (y.ceilTick period) : Nat) ∧
      ((max (x.ceilTick period) (y.ceilTick period) : Nat) : ℝ) < max x.value y.value + period := by
  obtain ⟨dx, lx, ux⟩ := Exact.ceilTick_spec hx hp nx
  obtain ⟨dy, ly, uy⟩ := Exact.ceilTick_spec hy hp ny
  refine ⟨?_, ?_, ?_⟩
  · rcases max_choice (x.ceilTick period) (y.ceilTick period) with e | e <;> rw [e] <;> assumption
  · rw [Nat.cast_max]
    exact max_le_max lx ly
  · rw [Nat.cast_max, max_lt_iff]
    exact ⟨ux.trans_le (add_le_add_left (le_max_left ..) _), uy.trans_le (add_le_add_left (le_max_right ..) _)⟩

section
variable {s : State} (hv : 0 < s.items.vmax) (ha : 0 < s.items.amax) (tr : Track) (start : Nat) (pS k : Int)

theorem secondGoalTime_denotes {m : Exact} (h : 0 < m.den) :
    Exact.Denotes m.n (secondGoalTime s.items start m) (start + m.value + s.items.settleAllow) := by
  have := (Exact.denotes_ofInt m.n ((start + s.items.settleAllow : Nat) : Int)).add (Exact.denotes_value h)
  rwa [show (((start + s.items.settleAllow : Nat) : Int) : ℝ) + m.value = start + m.value + s.items.settleAllow by
    push_cast; ring] at this

/-- The first of the two motion times that a proposal weighs (R82). -/
def firstMotion (s : State) (tr : Track) (start : Nat) (pS k : Int) : Exact :=
  motionFor s.items (withTurns (tr.pos start) k) pS

/-- The second of them. -/
def secondMotion (s : State) (tr : Track) (start : Nat) (pS k : Int) : Exact :=
  motionFor s.items
    (withTurns (tr.evalAt (secondGoalTime s.items start (firstMotion s tr start pS k))).1 k) pS

theorem proposeWith_eq :
    proposeWith s tr start pS k =
      if (firstMotion s tr start pS k).gtInt s.items.maxSlew ||
          (secondMotion s tr start pS k).gtInt s.items.maxSlew then ⟨.unreachable, 0, some k⟩
      else ⟨.go, max ((firstMotion s tr start pS k).ceilTick s.items.tickPeriod)
        ((secondMotion s tr start pS k).ceilTick s.items.tickPeriod) + s.items.settleAllow +
          (if fromBrake s.traj.motion then s.items.brakeDelay else 0), some k⟩ := rfl

theorem proposeWith_wrap : (proposeWith s tr start pS k).wrap = some k := by
  rw [proposeWith_eq]
  split <;> rfl

include hv ha

/-- A proposal is out of reach exactly when the longer motion time exceeds MAX_SLEW. -/
theorem exceeds_iff :
    ((firstMotion s tr start pS k).gtInt s.items.maxSlew ||
      (secondMotion s tr start pS k).gtInt s.items.maxSlew) = true ↔
      (s.items.maxSlew : ℝ) < max (firstMotion s tr start pS k).value (secondMotion s tr start pS k).value := by
  have den (g : Int) : 0 < (motionFor s.items g pS).den := minMotion_den hv ha _
  rw [Bool.or_eq_true, firstMotion, secondMotion, Exact.gtInt_iff _ (den _), Exact.gtInt_iff _ (den _), lt_max_iff,
    Int.cast_natCast]


/-- A proposal within reach takes the longer motion time, rounded up to a tick. -/
theorem proposeWith_go (hp : 0 < s.items.tickPeriod)
    (reach : max (firstMotion s tr start pS k).value (secondMotion s tr start pS k).value ≤ s.items.maxSlew) :
    (proposeWith s tr start pS k).verdict = .go ∧
      ∃ n : Nat, s.items.tickPeriod ∣ n ∧
        max (firstMotion s tr start pS k).value (secondMotion s tr start pS k).value ≤ n ∧
        (n : ℝ) < max (firstMotion s tr start pS k).value (secondMotion s tr start pS k).value + s.items.tickPeriod ∧
        (proposeWith s tr start pS k).d =
          n + s.items.settleAllow + (if 5 ≤ motionCode s.traj.motion then s.items.brakeDelay else 0) := by
  have within := mt (exceeds_iff hv ha tr start pS k).mp reach.not_gt
  have ticks := max_ceilTick_spec (x := firstMotion s tr start pS k) (y := secondMotion s tr start pS k)
    (minMotion_den hv ha _) (minMotion_den hv ha _) hp (minMotion_nonneg hv ha _) (minMotion_nonneg hv ha _)
  rw [proposeWith_eq, if_neg within]
  simp only [fromBrake_iff, true_and]
  exact ⟨_, ticks.1, ticks.2.1, ticks.2.2, rfl⟩

theorem proposeWith_unreachable
    (far : s.items.maxSlew < max (firstMotion s tr start pS k).value (secondMotion s tr start pS k).value) :
    (proposeWith s tr start pS k).verdict = .unreachable := by
  rw [proposeWith_eq, if_pos ((exceeds_iff hv ha tr start pS k).mpr far)]

end

/-! ### The motion profile (R86, R87) -/

/-- The duration `T` and the ramp time `ρ` of a profile in seconds: the ramp time is one of the two halves that `T` is
cut into by its conjugate, the shorter, and not empty. -/
structure SlewProfile.Ramped (p : SlewProfile) (n : Nat) (T ρ : ℝ) : Prop where
  total : Exact.Denotes n p.total T
  ramp : Exact.Denotes n p.ramp ρ
  conj : Exact.Denotes n p.ramp.conj (T - ρ)
  pos : 0 < ρ
  half : ρ ≤ T - ρ

namespace SlewProfile
variable {p : SlewProfile} {n u : Nat} {T ρ : ℝ}

section
variable (h : p.Ramped n T ρ)
include h

namespace Ramped

theorem downAt_pos : 0 < T - ρ := h.pos.trans_le h.half

theorem downAt : Exact.Denotes n p.downAt (T - ρ) := h.total.sub h.ramp

theorem downAt_conj : Exact.Denotes n p.downAt.conj ρ := by
  have := h.total.sub h.conj
  rwa [sub_sub_cancel, SlewProfile.total, ← Exact.conj_ratio, ← Exact.conj_sub] at this

theorem downAt_div {x : Exact} {r : ℝ} (k : Exact.Denotes n x r) : Exact.Denotes n (x.div p.downAt) (r / (T - ρ)) :=
  k.div h.downAt h.downAt_pos.ne' (by rw [h.downAt_conj.value]; exact h.pos.ne')

theorem rampProduct : Exact.Denotes n p.rampProduct (ρ * (T - ρ)) := h.ramp.mul h.downAt

theorem rampProduct_conj : Exact.Denotes n p.rampProduct.conj ((T - ρ) * ρ) := by
  rw [SlewProfile.rampProduct, Exact.conj_mul]
  exact h.conj.mul h.downAt_conj

theorem rampProduct_pos : 0 < ρ * (T - ρ) := mul_pos h.pos h.downAt_pos

theorem rampProduct_div {x : Exact} {r : ℝ} (k : Exact.Denotes n x r) :
    Exact.Denotes n (x.div p.rampProduct) (r / (ρ * (T - ρ))) :=
  k.div h.rampProduct h.rampProduct_pos.ne'
    (by rw [h.rampProduct_conj.value, mul_comm]; exact h.rampProduct_pos.ne')

theorem twiceProduct_div {x : Exact} {r : ℝ} (k : Exact.Denotes n x r) :
    Exact.Denotes n (x.div ((Exact.ofInt 2).mul p.rampProduct)) (r / (2 * (ρ * (T - ρ)))) := by
  have two := (Exact.denotes_ofInt n 2).mul h.rampProduct
  have twoConj := (Exact.denotes_ofInt n 2).mul h.rampProduct_conj
  have pos := h.rampProduct_pos
  push_cast at two twoConj
  refine k.div two (by positivity) ?_
  rw [Exact.conj_mul, Exact.conj_ofInt, twoConj.value, mul_comm (T - ρ)]
  positivity

end Ramped

/-- The instant in seconds lies on the ramp. -/
theorem onRamp_iff : (Exact.ratio u 1000000).lt p.ramp = true ↔ (u : ℝ) / 1000000 < ρ :=
  (Exact.denotes_seconds n u).lt_iff h.ramp

theorem onRampDown_iff : p.downAt.lt (.ratio u 1000000) = true ↔ T - ρ < (u : ℝ) / 1000000 :=
  h.downAt.lt_iff (Exact.denotes_seconds n u)

theorem rampUp_eq (runs : u < p.duration) (hx : (u : ℝ) / 1000000 < ρ) :
    p.posAt u = resultOf (p.p0 + p.delta * ((u : ℝ) / 1000000) ^ 2 / (2 * ρ * (T - ρ))) ∧
      p.feedforwardAt u = resultOf (p.delta * ((u : ℝ) / 1000000) / (ρ * (T - ρ))) := by
  have x := Exact.denotes_seconds n u
  have δ := Exact.denotes_ofInt n p.delta
  have position := (Exact.denotes_ofInt n p.p0).add (h.twiceProduct_div (δ.mul (x.mul x)))
  simp only [posAt, feedforwardAt, if_neg runs.not_ge, if_pos ((onRamp_iff h).mpr hx), position.round_eq,
    (h.rampProduct_div (δ.mul x)).round_eq, sq, mul_assoc, and_self]

theorem middle_eq (runs : u < p.duration) (hx : ρ ≤ (u : ℝ) / 1000000) (hd : (u : ℝ) / 1000000 ≤ T - ρ) :
    p.posAt u = resultOf (p.p0 + p.delta * ((u : ℝ) / 1000000 - ρ / 2) / (T - ρ)) ∧
      p.feedforwardAt u = resultOf (p.delta / (T - ρ)) := by
  have x := Exact.denotes_seconds n u
  have δ := Exact.denotes_ofInt n p.delta
  have two := Exact.denotes_ofInt n 2
  have half := h.ramp.div two (by norm_num) (by rw [Exact.conj_ofInt, two.value]; norm_num)
  have position := (Exact.denotes_ofInt n p.p0).add (δ.mul (h.downAt_div (x.sub half)))
  simp only [posAt, feedforwardAt, if_neg runs.not_ge, if_neg (mt (onRamp_iff h).mp hx.not_gt),
    if_neg (mt (onRampDown_iff h).mp hd.not_gt), position.round_eq, (h.downAt_div δ).round_eq, Int.cast_ofNat,
    mul_div_assoc, and_self]

theorem rampDown_eq (runs : u < p.duration) (hd : T - ρ < (u : ℝ) / 1000000) :
    p.posAt u = resultOf (p.p0 + p.delta * (1 - (T - (u : ℝ) / 1000000) ^ 2 / (2 * ρ * (T - ρ)))) ∧
      p.feedforwardAt u = resultOf (p.delta * (T - (u : ℝ) / 1000000) / (ρ * (T - ρ))) := by
  have left := h.total.sub (Exact.denotes_seconds n u)
  have δ := Exact.denotes_ofInt n p.delta
  have position := (Exact.denotes_ofInt n p.p0).add
    (δ.mul ((Exact.denotes_ofInt n 1).sub (h.twiceProduct_div (left.mul left))))
  simp only [posAt, feedforwardAt, if_neg runs.not_ge, if_neg (mt (onRamp_iff h).mp (h.half.trans hd.le).not_gt),
    if_pos ((onRampDown_iff h).mpr hd), position.round_eq, (h.rampProduct_div (δ.mul left)).round_eq, Int.cast_one,
    sq, mul_assoc, and_self]

end

theorem ended_eq (h : p.duration ≤ u) : p.posAt u = p.goal ∧ p.feedforwardAt u = 0 := ⟨if_pos h, if_pos h⟩

end SlewProfile

/-! ### The ramp time (R87) -/

section
variable {a T d : Nat} (ha : 0 < a) (h : 4000000000000 * d ≤ a * T * T)
include ha h

/-- The root in a ramp time is that of T² - 4d/a. -/
theorem rampRoot_eq :
    √((a * (a * T * T - 4000000000000 * d) : Nat) : ℝ) / ((1000000 * a : Nat) : ℝ) =
      √(((T : ℝ) / 1000000) ^ 2 - 4 * d / a) := by
  have pos : (0 : ℝ) < a := by positivity
  have square : ((T : ℝ) / 1000000) ^ 2 - 4 * d / a =
      ((a * (a * T * T - 4000000000000 * d) : Nat) : ℝ) / ((1000000 * a : Nat) : ℝ) ^ 2 := by
    push_cast [Nat.cast_sub h]
    field_simp
    ring
  rw [square, Real.sqrt_div (Nat.cast_nonneg _), Real.sqrt_sq (Nat.cast_nonneg _)]

/-- A ramp time and its conjugate are the two halves of T that the root sets apart. -/
theorem rampTime_denotes :
    let n := a * (a * T * T - 4000000000000 * d)
    let root := √(((T : ℝ) / 1000000) ^ 2 - 4 * d / a)
    Exact.Denotes n (rampTime a T d) (((T : ℝ) / 1000000 - root) / 2) ∧
      Exact.Denotes n (rampTime a T d).conj (((T : ℝ) / 1000000 + root) / 2) := by
  intro n root
  have two := Exact.denotes_ofInt n 2
  have total := Exact.denotes_seconds n T
  have square := Exact.root_denotes n (d := 1000000 * a) (by positivity)
  rw [rampRoot_eq ha h] at square
  have halved {x : Exact} {r : ℝ} (k : Exact.Denotes n x r) : Exact.Denotes n (x.div (.ofInt 2)) (r / 2) :=
    k.div two two_ne_zero (by rw [Exact.conj_ofInt, two.value]; exact two_ne_zero)
  refine ⟨halved (total.sub square), ?_⟩
  rw [rampTime, Exact.conj_div, Exact.conj_sub, Exact.conj_root, ← sub_neg_eq_add]
  exact halved (total.sub square.neg)

end

/-- A profile that runs at least the minimum motion time has both ramps. -/
theorem SlewProfile.ramped {p : SlewProfile} {c : Items} (hv : 0 < c.vmax) (ha : 0 < c.amax) (moves : p.delta ≠ 0)
    (hr : p.ramp = rampTime c.amax p.duration p.delta.natAbs)
    (long : (minMotion c p.delta.natAbs).value ≤ p.duration) :
    ∃ n, p.Ramped n ((p.duration : ℝ) / 1000000)
      (((p.duration : ℝ) / 1000000 - √(((p.duration : ℝ) / 1000000) ^ 2 - 4 * |(p.delta : ℝ)| / c.amax)) / 2) := by
  have a : (0 : ℝ) < c.amax := by positivity
  have cast : (p.delta.natAbs : ℝ) = |(p.delta : ℝ)| := by rw [Nat.cast_natAbs, Int.cast_abs]
  have moving : 0 < |(p.delta : ℝ)| := abs_pos.mpr (Int.cast_ne_zero.mpr moves)
  have quickest := (minMotion_ge hv ha p.delta.natAbs).trans long
  rw [cast, ← le_div_iff₀' (by norm_num), Real.sqrt_le_left (by positivity), div_le_iff₀ a] at quickest
  have enough : 4000000000000 * p.delta.natAbs ≤ c.amax * p.duration * p.duration := by
    have : (4000000000000 : ℝ) * p.delta.natAbs ≤ c.amax * p.duration * p.duration := by rw [cast]; linarith
    exact_mod_cast this
  obtain ⟨ramp, conj⟩ := rampTime_denotes ha enough
  rw [← hr, cast] at ramp conj
  have total : 0 ≤ (p.duration : ℝ) / 1000000 := by positivity
  have short : √(((p.duration : ℝ) / 1000000) ^ 2 - 4 * |(p.delta : ℝ)| / c.amax) < (p.duration : ℝ) / 1000000 := by
    have : 0 < 4 * |(p.delta : ℝ)| / c.amax := by positivity
    refine (Real.sqrt_lt_sqrt ?_ (sub_lt_self _ this)).trans_eq (Real.sqrt_sq total)
    rw [sub_nonneg, div_le_iff₀ a]
    linarith
  have nonneg := Real.sqrt_nonneg (((p.duration : ℝ) / 1000000) ^ 2 - 4 * |(p.delta : ℝ)| / c.amax)
  refine ⟨_, Exact.denotes_seconds _ _, ramp, ?_, by linarith, by linarith⟩
  convert conj using 1
  ring

/-! ### The fixing of a profile (R86, R88) -/

section
variable (c : Items) (tr : Track) (wrap : Int) (r : Release)

/-- Where a profile is to end (R86). -/
def goalOf (tr : Track) (wrap : Int) (r : Release) : Int := withTurns (tr.pos (r.motionStart + r.budget)) wrap

/-- How long a profile runs: over the budget, or longer when that is too short (R88). -/
def runTime (c : Items) (delta : Int) (r : Release) : Nat :=
  if (minMotion c delta.natAbs).gtInt r.budget then (minMotion c delta.natAbs).ceilTick c.tickPeriod else r.budget

/-- The profile of a release record. -/
def profileOf (c : Items) (tr : Track) (wrap : Int) (r : Release) : SlewProfile where
  seq := r.seq
  slewStart := r.slewStart
  motionStart := r.motionStart
  arrival := r.arrival
  p0 := r.p0
  goal := goalOf tr wrap r
  delta := goalOf tr wrap r - r.p0
  duration := runTime c (goalOf tr wrap r - r.p0) r
  ramp := rampTime c.amax (runTime c (goalOf tr wrap r - r.p0) r) (goalOf tr wrap r - r.p0).natAbs

theorem fixProfile_eq :
    fixProfile c tr wrap r =
      if goalOf tr wrap r = r.p0 then .still (goalOf tr wrap r)
      else .moving (profileOf c tr wrap r)
        (if (minMotion c (goalOf tr wrap r - r.p0).natAbs).gtInt r.budget then
          some (runTime c (goalOf tr wrap r - r.p0) r - r.budget) else none) := by
  have still : (goalOf tr wrap r - r.p0).natAbs = 0 ↔ goalOf tr wrap r = r.p0 := by omega
  simp only [← still]
  rfl

end

section
variable {c : Items} (hv : 0 < c.vmax) (ha : 0 < c.amax) (delta : Int) {r : Release}
include hv ha

theorem runTime_budget (h : (minMotion c delta.natAbs).value ≤ r.budget) : runTime c delta r = r.budget := by
  refine if_neg fun late => h.not_gt ?_
  simpa using (Exact.gtInt_iff _ (minMotion_den hv ha _)).mp late

theorem late_iff : (minMotion c delta.natAbs).gtInt r.budget = true ↔ (r.budget : ℝ) < (minMotion c delta.natAbs).value := by
  rw [Exact.gtInt_iff _ (minMotion_den hv ha _), Int.cast_natCast]

theorem runTime_lengthened (hp : 0 < c.tickPeriod) (h : (r.budget : ℝ) < (minMotion c delta.natAbs).value) :
    c.tickPeriod ∣ runTime c delta r ∧ (minMotion c delta.natAbs).value ≤ runTime c delta r ∧
      (runTime c delta r : ℝ) < (minMotion c delta.natAbs).value + c.tickPeriod := by
  rw [runTime, if_pos ((late_iff hv ha delta).mpr h)]
  exact Exact.ceilTick_spec (minMotion_den hv ha _) hp (minMotion_nonneg hv ha _)

theorem minMotion_le_runTime (hp : 0 < c.tickPeriod) : (minMotion c delta.natAbs).value ≤ runTime c delta r := by
  rcases le_or_gt (minMotion c delta.natAbs).value r.budget with h | h
  · rwa [runTime_budget hv ha delta h]
  · exact (runTime_lengthened hv ha delta hp h).2.1

end

end Sys2Proof.Machine

namespace Sys2Proof.Proofs
open Sys2Proof.Machine

/-- Settles O39, formula by formula. -/
theorem slewsFollowTheirFormulas : Obligations.SlewsFollowTheirFormulas := by
  refine ⟨fun c d hv ha => (minMotion_denotes hv ha d).value,
    fun c tr start pS => ⟨chooseWrap_eq_none c tr start pS, chooseWrap_eq_some c tr start pS⟩,
    fun s start ordered => isPredicted_predict ordered, ?_, ?_, ?_⟩
  · intro s rec epoch start pS p
    exact ⟨computeProposal_stopping, fun h => ⟨computeProposal_eq h, fun k => computeProposal_eq h⟩⟩
  · intro s tr start pS k hv ha hp c goal m0 m1 longest r
    have second := secondGoalTime_denotes (s := s) start (minMotion_den hv ha _ : 0 < m0.den)
    exact ⟨⟨second.den, second.value⟩, proposeWith_wrap tr start pS k, proposeWith_unreachable hv ha tr start pS k,
      proposeWith_go hv ha tr start pS k hp⟩
  · intro c tr wrap r hv ha hp goal need
    have fixed := fixProfile_eq c tr wrap r
    have late := late_iff hv ha (goal - r.p0) (r := r)
    refine ⟨fun still => fixed.trans (if_pos still), fun moves => ⟨_, _, fixed.trans (if_neg moves),
      ⟨rfl, rfl, rfl, rfl, rfl, rfl, rfl⟩, fun h => ⟨if_neg (mt late.mp h.not_gt), runTime_budget hv ha _ h⟩,
      fun h => ⟨if_pos (late.mpr h), runTime_lengthened hv ha _ hp h⟩, fun u => ?_⟩⟩
    obtain ⟨n, ramped⟩ := (profileOf c tr wrap r).ramped hv ha (sub_ne_zero.mpr moves) rfl
      (minMotion_le_runTime hv ha _ hp)
    exact ⟨SlewProfile.ended_eq, SlewProfile.rampUp_eq ramped, SlewProfile.middle_eq ramped,
      SlewProfile.rampDown_eq ramped⟩

end Sys2Proof.Proofs
end

section
/-! A round that starts at the pending trigger's epoch, at a dwell end and at an abandon's epoch (R97, R112, R115); hence
O56. -/

namespace Sys2Proof.Machine

/-! ### A round that starts with an event -/

theorem report_withRound (e : EventKind) (q : Nat) (v : BitVec 32) (s : State) (r : RoundEngine) :
    report e q v (s.withRound r) = (report e q v s).withRound r := by
  have offered (p : List Byte) (d : Nat) :
      offerFrame .event p d (s.withRound r) = (offerFrame .event p d s).withRound r := by
    rw [offerFrame, offerFrame, apply_ite (State.withRound · r)]
    rfl
  rw [report, report, apply_ite (State.withRound · r), ← offered]
  rfl

/-- Whatever plan but HELD a round ends, it starts the same. -/
theorem startRound_withPlan (k : RoundKind) (e : Nat) {s : State} {p : Option PlanState} (hs : s.round.plan ≠ some .held)
    (hp : p ≠ some .held) : startRound k e (s.withRound { s.round with plan := p }) = startRound k e s := by
  simp only [startRound, leaveForRound, planHeld, State.withRound_round, hs, hp, decide_false, Bool.false_eq_true, if_false]
  rfl

/-- A round that starts with an event just composed. -/
theorem startRound_reported (k : RoundKind) (t : Nat) (e : EventKind) (q : Nat) (v : BitVec 32) (u : State) :
    ∃ r gone, RoundBegun k t u (startRound k t (report e q v u)) r gone ∧
      (Enabled u e → Room u (gone.length + 3) →
        Queued (startRound k t (report e q v u)) (eventFrame u e q v) (u.now + 1000000)) := by
  obtain ⟨r, gone, begun, keeps⟩ := startRound_begun k t (s := report e q v u) (.ofReport (.refl u) e q v) (by simp)
    (by simp) (report_joins_any rfl e q v).length
  exact ⟨r, gone, begun, fun enabled room =>
    keeps _ _ nofun room (report_queued e q v u enabled (by rw [Room] at room; omega))⟩

/-- Without a dwell record at its start a round has none. -/
theorem WindowSkips.dwell_none {t : Nat} {k k' : RoundKind} {s u : State} {gone : List Nat}
    (h : WindowSkips t k s gone k' u) (empty : s.round.dwell = none) : u.round.dwell = none := by
  induction h with
  | ended => exact empty
  | again k k' rec s s' u gone _ _ skip _ ih =>
    refine ih ?_
    by_cases held : ∃ r, s.store.current = some r ∧ r.seq = rec.seq
    · rw [skip.dwell held, empty]; rfl
    · rw [skip.away fun r hr hq => held ⟨r, hr, hq⟩]; exact empty

theorem RoundBegun.dwell_none {k : RoundKind} {e : Nat} {s t : State} {r : RoundRecord} {gone : List Nat}
    (h : RoundBegun k e s t r gone) (empty : s.round.dwell = none) : t.round.dwell = none := by
  obtain ⟨u, skips, proposed, -⟩ := h
  rw [proposed.kept.2.2, skips.dwell_none empty]

/-! ### The dwell end (R112) -/

/-- The target's dwell is done and its record emptied. -/
def dwellEnded (d : DwellRecord) (s : State) : State :=
  { s with
    round := { s.round with dwell := none }
    store :=
      { s.store with
        current := s.store.current.map fun r => if r.seq = d.seq then { r with dwellDone := true } else r } }

theorem setDwellDone_of_held (p : PlanStore) (q : Nat) :
    (if PlanStore.slotHolds p.current q then p.setDwellDone else p) =
      { p with current := p.current.map fun r => if r.seq = q then { r with dwellDone := true } else r } := by
  rcases p with ⟨queue, _ | r, ret, excursion, free, intake, appended, committed⟩
  · rfl
  · by_cases h : r.seq = q <;> simp [PlanStore.slotHolds, PlanStore.setDwellDone, h]

theorem closeDwell_eq (d : DwellRecord) (s : State) :
    closeDwell d s = report .dwellEnd d.seq (valueU d.dwellEnd) (dwellEnded d s) := by
  have ended : dwellEnded d s =
      (s.withStore (if PlanStore.slotHolds s.store.current d.seq then s.store.setDwellDone else s.store)).withRound
        { s.round with dwell := none } := by
    rw [setDwellDone_of_held]
    rfl
  rw [ended, closeDwell]
  split <;> rfl

/-- In OBSERVING a dwell end starts an ordinary round. -/
theorem endDwell_observing {d : DwellRecord} {s : State} {ph : Phase} (h : s.round.plan = some (.observing ph)) :
    endDwell d s =
      startRound .ordinary d.dwellEnd (report .dwellEnd d.seq (valueU d.dwellEnd) (dwellEnded d s)) := by
  have plan : (closeDwell d s).round.plan ≠ some .held := by
    rw [closeDwell_eq, report_round, dwellEnded, h]
    exact nofun
  rw [← closeDwell_eq]
  exact (if_pos ((isObserving_iff _).mpr ⟨ph, h⟩)).trans (startRound_withPlan _ _ plan nofun)

theorem endDwell_idle {d : DwellRecord} {s : State} (h : ∀ ph, s.round.plan ≠ some (.observing ph)) :
    endDwell d s = report .dwellEnd d.seq (valueU d.dwellEnd) (dwellEnded d s) := by
  rw [endDwell, if_neg (fun e => let ⟨ph, hp⟩ := (isObserving_iff _).mp e; h ph hp), closeDwell_eq]

/-! ### The abandon (R115) -/

/-- The abandoned target's dwell is done; its record and the abandon are gone. -/
def abandonEnded (s : State) : State :=
  { s with
    round := { s.round with dwell := none, abandon := none }
    store := { s.store with current := s.store.current.map fun r => { r with dwellDone := true } } }

theorem fireAbandon_eq (a : PendingAbandon) (s : State) :
    fireAbandon a s =
      startRound .ordinary a.epoch (report .abandoned a.seq (valueU (abandonCode a.cause)) (abandonEnded s)) := by
  have ended : abandonEnded s =
      (s.withStore s.store.setDwellDone).withRound { s.round with dwell := none, abandon := none } := rfl
  rw [ended, report_withRound, fireAbandon, report_round, State.withStore_round]

end Sys2Proof.Machine

namespace Sys2Proof.Proofs
open Sys2Proof.Machine

/-- Settles O56: each of the three starts is `startRound` in the state its instant leaves. -/
theorem roundsStartAtTheirEpochs : Obligations.RoundsStartAtTheirEpochs := by
  refine ⟨fun s g hg due => ?_, ?_, ?_⟩
  · obtain ⟨r, gone, begun, -⟩ := startRound_begun (kindOfTrigger g.kind) g.epoch
      (.refl (s.withRound { s.round with trigger := none })) rfl rfl fun _ => Nat.le_succ _
    have fires : exec .pendingTriggerEpoch s = .next (fireTrigger g s) := by
      simp only [exec, execPendingTriggerEpoch, dueTrigger, hg, due, if_true]
    refine ⟨_, r, gone, fires, ?_⟩
    rcases g with ⟨_ | _ | _, epoch⟩ <;> exact begun
  · intro s d hd due ended
    have ends : exec .dwellEnd s = .next (endDwell d s) := by
      simp only [exec, execDwellEnd, dueDwellEnd, hd, due, if_true]
    by_cases observing : ∃ ph, s.round.plan = some (.observing ph)
    · obtain ⟨ph, hp⟩ := observing
      obtain ⟨r, gone, begun, told⟩ :=
        startRound_reported .ordinary d.dwellEnd .dwellEnd d.seq (valueU d.dwellEnd) (dwellEnded d s)
      rw [← endDwell_observing hp] at begun told
      exact ⟨_, gone, ends, begun.dwell_none rfl, fun idle => absurd hp (idle ph), fun _ _ => ⟨r, begun⟩, told⟩
    · have idle := not_exists.mp observing
      rw [endDwell_idle idle] at ends
      refine ⟨_, [], ends, by rw [report_round]; rfl, fun _ => ⟨rfl, report_eq ..⟩,
        fun ph hp => absurd hp (idle ph), fun enabled room => ?_⟩
      exact report_queued _ _ _ (dwellEnded d s) enabled (Nat.lt_of_succ_le (Nat.le_of_add_right_le (k := 2) room))
  · intro s a ha due ended
    obtain ⟨r, gone, begun, told⟩ := startRound_reported .ordinary a.epoch .abandoned a.seq
      (valueU (abandonCode a.cause)) (abandonEnded s)
    rw [← fireAbandon_eq] at begun told
    have fires : exec .abandonEpoch s = .next (fireAbandon a s) := by
      simp only [exec, execAbandonEpoch, dueAbandon, ha, due, if_true]
    exact ⟨_, r, gone, fires, begun, told⟩

end Sys2Proof.Proofs
end

section
/-! The controller outside RUN: without a plan and on its brake it finds nothing due, and what it hears, measures and
raises sets nothing of a plan going (R63, R93 to R95, R130, R131, R133, R157); hence O7. -/

namespace Sys2Proof.Machine

/-- The controller is outside RUN and at rest. -/
structure State.Resting (s : State) : Prop where
  outside : s.conf.life ≠ .run
  rests : s.AtRest

theorem State.Resting.dormant {s : State} (h : s.Resting) : s.Dormant := fun _ => h.rests

theorem State.Dormant.resting {s : State} (h : s.Dormant) (hl : s.conf.life ≠ .run) : s.Resting := ⟨hl, h hl⟩

/-! ### What a frame heard and a counted tick keep -/

/-- What a reception leaves alone holds after a frame heard when it holds after its owner's decision. -/
theorem hear_keeps {P : State → Prop} (hp : ∀ u x, P u → P (State.withPort u x)) {k : FrameClass} {o : Origin}
    {p : List Byte} {owner : State → Judged} {s : State} (hs : P s) (ho : P (owner s).state) :
    P (hear k o p owner s) := by
  simp only [hear]
  (repeat' split)
  · exact hs
  · exact hp _ _ ho
  · exact hp _ _ hs

theorem countedTick_brakeTimer (t : Nat) (good : Option Int) (w : TickWork) :
    (countedTick t good w).axis.brakeTimer = w.state.axis.brakeTimer := by
  cases good <;> rfl

theorem countedTick_settle_none {w : TickWork} (hs : w.state.axis.settle = none) (t : Nat) (good : Option Int) :
    (countedTick t good w).axis.settle = none := by
  cases good <;> exact congrArg (Option.map _) hs

section
variable {s : State} (h : s.Resting)
include h

theorem State.Resting.inRun : s.inRun = false := by simpa [State.inRun] using h.outside

/-! ### Blocks replaced -/

/-- Whatever keeps the life state and the blocks that a plan sets going. -/
theorem State.Resting.of_blocks {t : State} (life : t.conf.life = s.conf.life := by simp)
    (round : t.round = s.round := by simp) (store : t.store = s.store := by simp) (traj : t.traj = s.traj := by simp)
    (axis : t.axis = s.axis := by simp) (hold : t.hold = s.hold := by simp) : t.Resting := by
  cases s
  cases t
  dsimp only at life round store traj axis hold
  subst round store traj axis hold
  exact ⟨fun hr => h.outside (life.symm.trans hr), { h.rests with }⟩

theorem State.Resting.withTime (x : TimeBase) : (s.withTime x).Resting := ⟨h.outside, { h.rests with }⟩

theorem State.Resting.withPort (x : SpanPort) : (s.withPort x).Resting := ⟨h.outside, { h.rests with }⟩

theorem State.Resting.withPins (x : Pins) : (s.withPins x).Resting := ⟨h.outside, { h.rests with }⟩

/-- Of the axis interface only the brake timer and the settle record belong to a plan. -/
theorem State.Resting.withAxis {x : AxisInterface} (timer : x.brakeTimer = s.axis.brakeTimer)
    (settle : x.settle = s.axis.settle) : (s.withAxis x).Resting :=
  ⟨h.outside, { h.rests with brakeTimer := timer.trans h.rests.brakeTimer, settle := settle.trans h.rests.settle }⟩

/-- The causes may persist outside RUN (R133). -/
theorem State.Resting.withCauses (x : CauseSet) : (s.withHold { s.hold with causes := x }).Resting :=
  ⟨h.outside, { h.rests with }⟩

/-! ### What commands share -/

theorem State.Resting.offerFrame (k : FrameClass) (x : List Byte) (d : Nat) : (Machine.offerFrame k x d s).Resting :=
  h.of_blocks

theorem State.Resting.report (e : EventKind) (q : Nat) (v : BitVec 32) : (Machine.report e q v s).Resting := h.of_blocks

theorem State.Resting.drawSetpoint : s.drawSetpoint.Resting := h.of_blocks

theorem State.Resting.refuse (r : Reason) (k : FrameClass) (third : Nat) (e : EventKind) (q : Nat) :
    (Machine.refuse r k third e q s).Resting := h.of_blocks

theorem State.Resting.refused (r : Reason) (code : Nat) : (Machine.refused r code s).state.Resting := h.refuse ..

theorem State.Resting.foldl {α : Type} {f : State → α → State} (hf : ∀ u x, u.Resting → (f u x).Resting)
    (l : List α) : (l.foldl f s).Resting :=
  List.foldlRecOn l f h fun u hu x _ => hf u x hu

theorem State.Resting.settleOutputs : (Machine.settleOutputs s).Resting := h.withAxis rfl rfl

/-- A cause raised outside RUN takes no hold and starts no timer (R133). -/
theorem State.Resting.raiseCause (c : Cause) : (Machine.raiseCause c s).Resting := by
  rw [Machine.raiseCause, h.inRun]
  split
  · exact h
  · exact (h.withCauses _).settleOutputs

theorem State.Resting.endCause (c : Cause) : (Machine.endCause c s).Resting := by
  rw [Machine.endCause]
  split
  · exact h
  · exact (h.withCauses _).settleOutputs

/-! ### The time base (R3 to R15) -/

theorem State.Resting.gradeLink : (Machine.gradeLink s).Resting := h.of_blocks

theorem State.Resting.stepTo (x : Nat) : (Machine.stepTo x s).Resting :=
  ((h.withTime _).withPort _).gradeLink.withAxis rfl rfl

theorem State.Resting.edgeByState : (Machine.edgeByState s).Resting := by
  have lock : (lockFromFree s).Resting := (((h.stepTo _).withTime _).report ..).endCause _
  have regain : (regainLock s).Resting := ((h.withTime _).report ..).endCause _
  simp only [Machine.edgeByState, edgeFree, edgeLocked, edgeRegain]
  (repeat' split)
  · exact lock
  · exact h.withTime _
  · exact (h.stepTo _).withTime _
  · exact h.withTime _
  · exact h
  · exact h
  · exact regain
  · exact h.withTime _
  · exact h
  · exact regain
  · exact h.withTime _

theorem State.Resting.judgeExpected : (Machine.judgeExpected s).Resting := by
  simp only [Machine.judgeExpected]
  (repeat' split)
  · exact h.withTime _
  · exact (h.withTime _).report ..
  · exact h.withTime _

theorem State.Resting.coastSecond : (Machine.coastSecond s).Resting := by
  simp only [Machine.coastSecond]
  (repeat' split)
  · exact ((h.withTime _).report ..).raiseCause _
  · exact h.withTime _
  · exact h

theorem State.Resting.closeSecond : (Machine.closeSecond s).Resting := (h.withTime _).gradeLink.coastSecond

/-! ### The servo tick (R158) -/

/-- On the brake the work makes the lag 0, and without a settle record nothing settles (R123, R165). -/
theorem State.Resting.countedTick (reply : EncoderReply) {w : TickWork}
    (hw : tickWork s.time.nextTick (sampled reply s) = some w) :
    (Machine.countedTick s.time.nextTick (goodPosition reply) w).Resting := by
  obtain ⟨outside, rests⟩ := h
  cases (tickWork_braked (s := sampled reply s) rests.motion).symm.trans hw
  exact ⟨outside, { rests with
    lag := rfl
    brakeTimer := (countedTick_brakeTimer ..).trans rests.brakeTimer
    settle := countedTick_settle_none rests.settle .. }⟩

theorem State.Resting.closeTick (good : Bool) (n : Nat) (m : Motion) (l : List TickEvent) :
    (Machine.closeTick good n m l s).Resting := by
  have encoder : (reportEncoder good n s).Resting := by
    rw [reportEncoder]
    (repeat' split)
    · exact h.raiseCause _
    · exact h.endCause _
    · exact h
  have following : (reportFollowing m (reportEncoder good n s)).Resting := by
    rw [reportFollowing]
    (repeat' split)
    · exact encoder.raiseCause _
    · exact encoder.endCause _
    · exact encoder
  exact following.foldl (fun _ _ hu => hu.report ..) l

theorem State.Resting.servoTick {reply : EncoderReply} {t : State} (he : exec (.servoTick reply) s = .next t) :
    t.Resting := by
  by_cases due : s.time.nextTick ≤ s.now
  · by_cases live : s.conf.life = .strapFault
    · cases (execServoTick_strapFault reply live due).symm.trans he
      exact (h.withTime _).withAxis rfl rfl
    · obtain ⟨w, hw, hx⟩ := execServoTick_worked reply ⟨live, due, by rw [h.rests.motion]; nofun⟩
      cases hx.symm.trans he
      obtain ⟨l, -, hl⟩ := countAndFinish_eq s.time.nextTick (goodPosition reply) w
      rw [hl]
      exact (h.countedTick reply hw).closeTick ..
  · have early : tickDue s.time = false := decide_eq_false due
    simp only [exec, execServoTick, early] at he
    cases he
    exact h

/-! ### The commands that find nothing to do -/

theorem State.Resting.roundOf : Machine.roundOf s = none := by rw [Machine.roundOf, h.rests.plan]

/-- Without a round, a store or a timer nothing of a plan is due. -/
theorem State.Resting.nothing_due :
    repeatDue s = false ∧ intakeDue s = false ∧ dueTrigger s = none ∧ dueOutcome s = none ∧ dueResult s = none ∧
      brakeDue s = false ∧ arrivalDue s = false ∧ dueDwellStart s = none ∧ dueDwellEnd s = none ∧
      dueAbandon s = none := by
  obtain ⟨-, rests⟩ := h
  simp [repeatDue, intakeDue, dueTrigger, dueOutcome, dueResult, Machine.roundOf, brakeDue, arrivalDue, dueDwellStart,
    dueDwellEnd, dueAbandon, rests.plan, rests.trigger, rests.abandon, rests.dwell, rests.store, rests.brakeTimer,
    rests.repeatTimer, PlanStore.afterReset]

/-! ### Frames heard -/

theorem State.Resting.hear {k : FrameClass} {o : Origin} {p : List Byte} {owner : State → Judged}
    (ho : (owner s).state.Resting) : (Machine.hear k o p owner s).Resting :=
  hear_keeps (fun _ _ hu => hu.withPort _) h ho

theorem State.Resting.hearCommand {code len : Nat} {o : Origin} {args : List Byte} {owner : State → Judged}
    (ho : (owner s).state.Resting) : (Machine.hearCommand code len o args owner s).Resting := by
  refine h.hear ?_
  split
  · exact ho
  · exact h.refused ..

theorem State.Resting.gateEstop {code : Nat} {owner : State → Judged} (ho : (owner s).state.Resting) :
    (Machine.gateEstop code owner s).state.Resting := by
  rw [Machine.gateEstop]
  split
  · exact h.refused ..
  · exact ho

theorem State.Resting.withEpoch {code : Nat} {args : List Byte} {owner : Nat → State → Judged}
    (ho : ∀ e, (owner e s).state.Resting) : (Machine.withEpoch code args owner s).state.Resting := by
  rw [Machine.withEpoch]
  split
  · exact h.refused ..
  · exact h.gateEstop (ho _)

/-! ### The owners' decisions -/

/-- A command that its owner takes only in RUN. -/
theorem State.Resting.onlyInRun {p : Bool} {taken : Judged} {r : Reason} {code : Nat} :
    (if s.inRun && p then taken else Machine.refused r code s).state.Resting := by
  rw [h.inRun]
  exact h.refused ..

theorem State.Resting.judgeHold (o : Origin) (p : List Byte) : (Machine.judgeHold o p s).state.Resting := by
  simp only [Machine.judgeHold, h.inRun]
  split <;> exact h

theorem State.Resting.judgeRoll (p : List Byte) : (Machine.judgeRoll p s).state.Resting := by
  simp only [Machine.judgeRoll, h.roundOf]
  cases readCall p <;> exact h

theorem State.Resting.judgePropose (o : Origin) (p : List Byte) : (Machine.judgePropose o p s).state.Resting := by
  simp only [Machine.judgePropose, h.roundOf]
  cases readCall p <;> exact h

theorem State.Resting.judgeAbandon (p : List Byte) : (Machine.judgeAbandon p s).state.Resting := by
  have unadmitted : ∀ f, admitsAbandon s f = false := fun f => by simp [admitsAbandon, inAbandonPhase, h.rests.plan]
  simp only [Machine.judgeAbandon, unadmitted, Bool.false_eq_true, if_false]
  (repeat' split) <;> exact h

theorem State.Resting.judgeGuide (p : List Byte) : (Machine.judgeGuide p s).state.Resting := by
  have unadmitted : ∀ q, admitsGuide s q = false := fun q => by simp [admitsGuide, isObserving, h.rests.plan]
  simp only [Machine.judgeGuide, unadmitted, Bool.false_eq_true, if_false]
  (repeat' split) <;> exact h

theorem State.Resting.judgeTimeSet (p : List Byte) : (Machine.judgeTimeSet p s).state.Resting := by
  simp only [Machine.judgeTimeSet]
  (repeat' split)
  · exact h.refuse ..
  · exact h.refuse ..
  · exact h.refuse ..
  · exact h.refuse ..
  · exact h.withTime _

/-- An item taken forms the rate step anew, which no plan owns (R77, R174). -/
theorem State.Resting.judgeConfig (p : List Byte) : (Machine.judgeConfig p s).state.Resting := by
  simp only [Machine.judgeConfig]
  (repeat' split)
  · exact h.refuse ..
  · exact h.refuse ..
  · exact h.refuse ..
  · exact h.refuse ..
  · exact ⟨(takeItem_life ..).symm ▸ h.outside, { h.rests with }⟩

theorem State.Resting.judgePlanHead (p : List Byte) : (Machine.judgePlanHead p s).state.Resting := by
  simp only [Machine.judgePlanHead, judgeHeader, h.inRun, Bool.not_false, if_true]
  (repeat' split) <;> exact h.refuse ..

/-- A segment finds no intake open. -/
theorem State.Resting.judgePlanSeg (p : List Byte) : (Machine.judgePlanSeg p s).state.Resting := by
  have closed : s.store.intake = none := by rw [h.rests.store]; rfl
  simp only [Machine.judgePlanSeg, closed]
  (repeat' split) <;> exact h

theorem State.Resting.addressOffset (args : List Byte) : (Machine.addressOffset args s).state.Resting := by
  rw [Machine.addressOffset]
  (repeat' split)
  · exact h.refused ..
  · exact h.gateEstop h.onlyInRun
  · exact h

theorem State.Resting.judgeStatusReq (args : List Byte) : (Machine.judgeStatusReq args s).state.Resting := by
  rw [Machine.judgeStatusReq]
  (repeat' split)
  · exact (h.offerFrame ..).drawSetpoint
  · exact h.offerFrame ..
  · exact h.refused ..

theorem State.Resting.judgeTraceSet (args : List Byte) : (Machine.judgeTraceSet args s).state.Resting := by
  rw [Machine.judgeTraceSet]
  split
  · exact h.refused ..
  · exact h.gateEstop (h.withAxis rfl rfl)

theorem State.Resting.judgeTraceRead (args : List Byte) : (Machine.judgeTraceRead args s).state.Resting := by
  rw [Machine.judgeTraceRead]
  (repeat' split)
  · exact h.refused ..
  · exact h.refused ..
  · exact h.foldl (fun _ _ hu => hu.offerFrame ..) _

theorem State.Resting.completeRoll (x : Reception) (slots : BitVec 15) : (Machine.completeRoll x slots s).Resting := by
  have none_taken : rollOfRound x s = false := by simp [rollOfRound, roundNumber_eq, h.roundOf]
  rw [Machine.completeRoll, none_taken]
  exact h

/-- START enters RUN or is refused. -/
theorem State.Resting.judgeStart : (Machine.judgeStart s).state.Dormant := by
  rw [Machine.judgeStart]
  split
  · exact (h.refused ..).dormant
  · exact fun outside => absurd (by simp [takeStart]) outside

theorem State.Resting.start {o : Origin} {args : List Byte} {t : State} (he : exec (.start o args) s = .next t) :
    t.Dormant := by
  cases he
  refine hear_keeps (P := State.Dormant) (fun u _ hu hl => ((hu.resting hl).withPort _).rests) h.dormant ?_
  simp only [Machine.gateEstop]
  (repeat' split)
  · exact (h.refused ..).dormant
  · exact h.judgeStart
  · exact (h.refused ..).dormant

/-! ### The commands -/

/-- Outside RUN and at rest every command but START and a hard reset leaves the controller so. -/
theorem exec_resting {c : Instr} {t : State} (hr : isHardReset c = false) (hc : isStart c = false)
    (he : exec c s = .next t) : t.Resting := by
  obtain ⟨hrepeat, hintake, htrigger, houtcome, hresult, hbrake, harrival, hstart, hend, habandon⟩ := h.nothing_due
  cases c
  case hardReset => cases hr
  case start => cases hc
  case servoTick => exact h.servoTick he
  case roundResult => simp only [exec, execRoundResult, hresult] at he; cases he; exact h
  case brakeTimerExpiry => simp only [exec, execBrakeTimerExpiry, hbrake] at he; cases he; exact h
  case holdRepeat => simp only [exec, execHoldRepeat, hrepeat] at he; cases he; exact h
  case intakeTimeout => simp only [exec, execIntakeTimeout, hintake] at he; cases he; exact h
  case pendingTriggerEpoch => simp only [exec, execPendingTriggerEpoch, htrigger] at he; cases he; exact h
  case ownOutcome => simp only [exec, execOwnOutcome, houtcome] at he; cases he; exact h
  case arrival => simp only [exec, execArrival, harrival] at he; cases he; exact h
  case dwellStart => simp only [exec, execDwellStart, hstart] at he; cases he; exact h
  case dwellEnd => simp only [exec, execDwellEnd, hend] at he; cases he; exact h
  case abandonEpoch => simp only [exec, execAbandonEpoch, habandon] at he; cases he; exact h
  all_goals cases he
  case ppsEdge => exact h.edgeByState.withTime _
  case unitCorrection => split; exacts [h.withTime _, h]
  case correctionSecondEnd => split; exacts [h.withTime _, h]
  case regainRunMiss => split; exacts [h.withTime _, h]
  case expectedSecondJudgement => split; exacts [h.judgeExpected, h]
  case linkSecondClose => split; exacts [h.closeSecond, h]
  case driveFaultAsserted => exact (h.withPins _).raiseCause _
  case driveFaultDeasserted => exact (h.withPins _).endCause _
  case emergencyStopAsserted => exact (h.withPins _).raiseCause _
  case emergencyStopDeasserted => exact (h.withPins _).endCause _
  case attemptStart => split; exacts [h, h.withPort _]
  case attemptEnd => split; exacts [h, h.withPort _]
  case txDeadline => exact h.withPort _
  case damagedFrame => (repeat' split); exacts [h, h.closeSecond.withPort _, h.withPort _]
  case responseFieldReport => split; exacts [(h.completeRoll ..).withPort _, h]
  case unknownClassFrame => exact h.hear h
  case reportFrameHeard => exact h.hear h
  case hold => exact h.hear (h.judgeHold ..)
  case goRoll => exact h.hear (h.judgeRoll _)
  case skipRoll => exact h.hear (h.judgeRoll _)
  case propose => exact h.hear (h.judgePropose ..)
  case abandon => exact h.hear (h.judgeAbandon _)
  case guide => exact h.hear (h.judgeGuide _)
  case timeSet => exact h.hear (h.judgeTimeSet _)
  case configItem => exact h.hear (h.judgeConfig _)
  case planHead => exact h.hear (h.judgePlanHead _)
  case planSeg => exact h.hear (h.judgePlanSeg _)
  case commandUnknownCode => exact h.hear (h.refuse ..)
  case go => exact h.hearCommand (h.withEpoch fun _ => h.onlyInRun)
  case breakIn => exact h.hearCommand (h.withEpoch fun _ => h.onlyInRun)
  case returnTo => exact h.hearCommand (h.withEpoch fun _ => h.onlyInRun)
  case offset => exact h.hearCommand (h.addressOffset _)
  case planClear => exact h.hearCommand (h.gateEstop h.onlyInRun)
  case restart => exact h.hearCommand (h.gateEstop h.onlyInRun)
  case statusReq => exact h.hearCommand (h.judgeStatusReq _)
  case traceSet => exact h.hearCommand (h.judgeTraceSet _)
  case traceRead => exact h.hearCommand (h.judgeTraceRead _)

end

theorem execHardReset_atRest {a : BitVec 4} {r : BitVec 3} {s t : State} (he : exec (.hardReset a r) s = .next t) :
    t.AtRest := by
  cases he
  exact { reset_atRest with }

/-- START in RUN is refused (R177). -/
theorem execStart_in_run {o : Origin} {args : List Byte} {s t : State} (hl : s.conf.life = .run)
    (he : exec (.start o args) s = .next t) : t.conf.life = .run := by
  cases he
  refine hear_keeps (P := fun u => u.conf.life = .run) (fun _ _ hu => hu) hl ?_
  have refusal : ∀ r, (refused r 1 s).state.conf.life = .run := fun r => (refuseCommand_life ..).trans hl
  have inRun : startFails s = some .state := by simp [startFails, State.inRun, hl]
  simp only [gateEstop, judgeStart, inRun]
  (repeat' split) <;> exact refusal _

/-- Nothing but a hard reset leaves RUN (R172). -/
theorem exec_stays_in_run {c : Instr} {s t : State} (hc : isHardReset c = false) (hl : s.conf.life = .run)
    (he : exec c s = .next t) : t.conf.life = .run := by
  cases c
  case hardReset => cases hc
  case start => exact execStart_in_run hl he
  case configItem => cases he; exact (hear_held (judgeConfig_held ..)).life.trans hl
  any_goals exact (exec_planKept rfl he).life.trans hl
  all_goals exact (exec_clockKept rfl he).life.trans hl

/-- A hard reset leaves the controller at rest; every other command leaves it in RUN, or finds it at rest. -/
theorem exec_dormant {c : Instr} {s t : State} (h : s.Dormant) (he : exec c s = .next t) : t.Dormant := by
  cases reset : isHardReset c
  · by_cases hl : s.conf.life = .run
    · exact fun outside => absurd (exec_stays_in_run reset hl he) outside
    · have resting := h.resting hl
      cases starts : isStart c
      · exact (exec_resting resting reset starts he).dormant
      · cases c <;> cases starts
        exact resting.start he
  · cases c <;> cases reset
    exact fun _ => execHardReset_atRest he

end Sys2Proof.Machine

namespace Sys2Proof.Proofs
open Sys2Proof.Machine

/-- Settles O7: a step is a command on a state that rests outside RUN as before, or a microsecond. -/
theorem controllerRestsOutsideRun : Obligations.ControllerRestsOutsideRun := by
  intro s t h he
  cases hp : s.pending with
  | cons c rest =>
    rw [step_of_waiting hp] at he
    exact exec_dormant (s := s.withPending rest) (fun outside => { h outside with }) he
  | nil =>
    rw [step_of_empty hp] at he
    cases hd : due s with
    | none =>
      rw [idle_of_none hd] at he
      cases he
      exact fun outside => { h outside with }
    | some c =>
      rw [idle_of_due hd] at he
      have drawn : (drawReply c s).Dormant := by
        simp only [drawReply]
        split
        · exact fun outside => { h outside with }
        · exact h
      exact exec_dormant drawn he

end Sys2Proof.Proofs
end

section
/-! The brake timer's expiry: the profile fixed at S_m for the current record (R85 to R90, R111, R161); hence O59. -/

namespace Sys2Proof.Machine

/-! ### The expiry (R161) -/

theorem execBrakeTimerExpiry_due {s : State} {expiry : Nat} (ht : s.axis.brakeTimer = some expiry)
    (h : expiry ≤ s.now) : exec .brakeTimerExpiry s = expireBrake s := by
  have due : brakeDue s = true := by simp [brakeDue, ht, h]
  simp only [exec, execBrakeTimerExpiry, due, if_true]

theorem expireBrake_other {s : State} (h : ∀ r, s.traj.motion ≠ .releasing r) :
    expireBrake s = .next (clearBrakeTimer s) := by
  rw [expireBrake]
  split
  · exact absurd ‹_› (h _)
  · rfl

theorem expireBrake_releasing {s : State} {r : Release} {rec : Record} (hm : s.traj.motion = .releasing r)
    (held : s.store.current = some rec) : expireBrake s = .next (fixFor rec r (clearBrakeTimer s)) := by
  rw [expireBrake, hm, held]

/-! ### The profile fixed (R86, R88, R90) -/

theorem endMotion_outputsSafe (g : Int) (a t : Nat) (s : State) : (endMotion g a t s).OutputsSafe := by
  have safe := settleOutputs_outputsSafe
    (s.withTraj { s.traj with trackSetpoint := g, motion := modeAtMotionEnd a t })
  rw [State.OutputsSafe, endMotion, reportMotionEnd_axis, reportMotionEnd_traj, reportMotionEnd_hold]
  exact safe

theorem endMotion_traj (g : Int) (a t : Nat) (s : State) :
    (endMotion g a t s).traj = { s.traj with trackSetpoint := g, motion := modeAtMotionEnd a t } := by
  rw [endMotion, reportMotionEnd_traj]
  rfl

section
variable {rec : Record} {r : Release} {b : State}

/-- The outputs follow the mode that the profile begins (R160). -/
theorem fixFor_outputsSafe (rec : Record) (r : Release) (b : State) : (fixFor rec r b).OutputsSafe := by
  rw [fixFor]
  rcases fixProfile b.items rec.track b.traj.wrapOffset r with g | ⟨p, _ | late⟩
  · exact endMotion_outputsSafe ..
  · exact settleOutputs_outputsSafe _
  · have safe : (enterMotion (.slewing p) b).OutputsSafe := settleOutputs_outputsSafe _
    simpa only [beginProfile, State.OutputsSafe, report_axis, report_traj, report_hold] using safe

/-- A profile with a distance changes the mode alone, of trajectory unit and round engine. -/
theorem fixFor_moving_blocks {p : SlewProfile} {late : Option Nat}
    (h : fixProfile b.items rec.track b.traj.wrapOffset r = .moving p late) :
    (fixFor rec r b).traj = { b.traj with motion := .slewing p } ∧ (fixFor rec r b).round = b.round := by
  rw [fixFor, h]
  cases late <;> simp [beginProfile, enterMotion]

theorem fixFor_inTime_port {p : SlewProfile} (h : fixProfile b.items rec.track b.traj.wrapOffset r = .moving p none) :
    (fixFor rec r b).port = b.port := by
  rw [fixFor, h, beginProfile, enterMotion_port]

/-- The lateness of a lengthened profile is told (R88). -/
theorem fixFor_late_told {p : SlewProfile} {late : Nat}
    (h : fixProfile b.items rec.track b.traj.wrapOffset r = .moving p (some late)) (enabled : Enabled b .arrivalLate)
    (room : Room b 1) :
    Queued (fixFor rec r b) (eventFrame b .arrivalLate r.seq (valueLate late)) (b.now + 1000000) := by
  rw [fixFor, h]
  exact report_queued .arrivalLate r.seq (valueLate late) (enterMotion (.slewing p) b) enabled room

/-- Without distance the motion ends at S_m (R86, R90). -/
theorem fixFor_still_eq {g : Int} (h : fixProfile b.items rec.track b.traj.wrapOffset r = .still g) :
    fixFor rec r b = endMotion g r.arrival r.motionStart b := by
  rw [fixFor, h, beginProfile]

end

theorem valueLate_of_lt {late : Nat} (h : late < 2 ^ 32) : valueLate late = BitVec.ofNat 32 late := if_pos h

end Sys2Proof.Machine

namespace Sys2Proof.Proofs
open Sys2Proof.Machine

/-- Settles O59: the expiry stops the timer, and in RELEASING fixes the profile, which moves or ends at S_m. -/
theorem brakeExpiryFixesTheProfile : Obligations.BrakeExpiryFixesTheProfile := by
  intro s expiry ht due
  rw [execBrakeTimerExpiry_due ht due]
  refine ⟨expireBrake_other, fun r rec hm held => ?_⟩
  refine ⟨_, expireBrake_releasing hm held, fixFor_brakeTimer .., fixFor_outputsSafe .., by simp, ?_, ?_⟩
  · intro p late moving
    have moving : fixProfile (clearBrakeTimer s).items rec.track (clearBrakeTimer s).traj.wrapOffset r =
      .moving p late := moving
    obtain ⟨traj, round⟩ := fixFor_moving_blocks moving
    refine ⟨traj, round, ?_, ?_⟩
    · rintro rfl
      exact fixFor_inTime_port moving
    · rintro x rfl small enabled room
      have told := fixFor_late_told moving enabled room
      rw [valueLate_of_lt small] at told
      exact told
  · intro g still
    have still : fixProfile (clearBrakeTimer s).items rec.track (clearBrakeTimer s).traj.wrapOffset r =
      .still g := still
    rw [fixFor_still_eq still, endMotion_round]
    refine ⟨endMotion_port .., endMotion_traj .., fun none_held => ?_, fun d hd => ?_⟩
    · rw [reportMotionEnd, clearBrakeTimer_round, none_held]
      rfl
    · rw [reportMotionEnd_round (s := clearBrakeTimer s) hd]
      exact ⟨rfl, fun other => if_neg other, fun slewing => if_pos slewing⟩

end Sys2Proof.Proofs
end

section
/-! Rounds that begin and end, and frames heard, from any state in agreement (R84, R98, R105 to R109, R112, R115); hence
O15. -/

namespace Sys2Proof.Machine

/-! ### The frame being received -/

/-- No frame is being received in a round to come. -/
def State.HeardInTime (s : State) : Prop :=
  ∀ x n, s.port.reception = some x → x.round = some n → n ≤ s.round.rounds

theorem State.HeardInTime.of_same {s t : State} (h : s.HeardInTime) (rounds : t.round.rounds = s.round.rounds)
    (reception : t.port.reception = s.port.reception) : t.HeardInTime := by
  rw [State.HeardInTime, rounds, reception]
  exact h

/-- Without a round in progress only the frame being received can disagree. -/
theorem State.HeardInTime.agreeing {t : State} (h : t.HeardInTime) (idle : roundOf t = none) : t.Agreeing where
  honest := fun _ hr => nomatch idle.symm.trans hr
  numbered := fun _ hr => nomatch idle.symm.trans hr
  heardIn := h
  asserted := fun _ _ _ hr => nomatch idle.symm.trans hr

theorem SameRound.agreeing {s t : State} (h : SameRound s t) (a : s.Agreeing) : t.Agreeing where
  honest := fun r hr => a.honest r (h.round ▸ hr)
  numbered := fun r hr => h.rounds ▸ a.numbered r (h.round ▸ hr)
  heardIn := State.HeardInTime.of_same a.heardIn h.rounds h.reception
  asserted := fun x r hx hr => a.asserted x r (h.reception ▸ hx) (h.round ▸ hr)

/-- A frame that is no ROLL begins to be received, in the round in progress or in none. -/
theorem State.Agreeing.receiving {s : State} (a : s.Agreeing) {x : Reception} (other : x.frame.cls ≠ .roll)
    (heard : ∀ n, x.round = some n → roundNumber s = some n) : (s.receiving (some x)).Agreeing where
  honest := a.honest
  numbered := a.numbered
  heardIn := by
    rintro _ n ⟨rfl⟩ hn
    have inRound := heard n hn
    rw [roundNumber_eq] at inRound
    obtain ⟨r, hr, rfl⟩ := Option.map_eq_some_iff.mp inRound
    exact a.numbered r hr
  asserted := by
    rintro _ r ⟨rfl⟩ _ roll
    exact absurd roll other

/-- Hearing a frame that is no ROLL, with an owner that leaves the round alone. -/
theorem State.Agreeing.hear {k : FrameClass} {o : Origin} {p : List Byte} {owner : State → Judged} {s : State}
    (a : s.Agreeing) (other : k ≠ .roll) (h : SameRound s (owner s).state) : (Machine.hear k o p owner s).Agreeing := by
  have number : roundNumber (owner s).state = roundNumber s := by rw [roundNumber_eq, roundNumber_eq, h.round]
  simp only [Machine.hear]
  (repeat' split)
  · exact a
  · exact (h.agreeing a).receiving other fun _ hn => number.trans hn
  · exact a.receiving other nofun

/-- A segment stored, a record committed or refused is no part of the round (R54 to R57). -/
theorem judgePlanSeg_sameRound (p : List Byte) (s : State) : SameRound s (judgePlanSeg p s).state := by
  have same : SameRound s s := .of_blocks rfl rfl
  simp only [judgePlanSeg, judgeOpenSegment, finishIntake]
  (repeat' split)
  · exact same
  · exact same
  · exact .of_blocks rfl rfl
  · exact .of_blocks (report_round ..) (report_reception ..)
  · exact .of_blocks (report_round ..) (report_reception ..)
  all_goals exact same

/-! ### A round that begins (R98) -/

theorem proposeFor_reception (e : Nat) (x : Selection) :
    (proposeFor e x).port.reception = x.state.port.reception := by
  have empty : (reportPlanEmpty x).port.reception = x.state.port.reception := by
    rw [reportPlanEmpty]
    split
    · exact report_reception ..
    · rfl
  simpa [proposeFor_eq, sendPropose] using empty

/-- A round that starts takes a number above every round in which a frame is being received. -/
theorem startRound_agreeing (k : RoundKind) (e : Nat) {s : State} (h : s.HeardInTime) :
    (startRound k e s).Agreeing := by
  obtain ⟨⟨-, rounds, reception⟩, -⟩ :=
    selectTarget_from e (selectionFuel s.store) k (roundBegun (leaveForRound s) e k)
  replace rounds : (selectionOf k e s).state.round.rounds = s.round.rounds + 1 :=
    rounds.trans (congrArg RoundEngine.rounds (leaveForRound_round s))
  replace reception : (proposeFor e (selectionOf k e s)).port.reception = s.port.reception := by
    rw [proposeFor_reception]
    exact reception.trans (by simp)
  have begun : roundOf (proposeFor e (selectionOf k e s)) = some (proposalOf e (selectionOf k e s)) := by
    rw [roundOf, proposeFor_round]
  have past : ∀ x n, (proposeFor e (selectionOf k e s)).port.reception = some x → x.round = some n →
      n < (selectionOf k e s).state.round.rounds := fun x n hx hn => by
    rw [rounds]
    exact Nat.lt_succ_of_le (h x n (reception ▸ hx) hn)
  rw [startRound_eq]
  refine ⟨fun r hr => ?_, fun r hr => ?_, fun x n hx hn => ?_, fun x r hx hr _ _ hn => ?_⟩
  · cases begun.symm.trans hr
    exact freshRound_honest ..
  · cases begun.symm.trans hr
    rw [proposeFor_round]
    exact le_refl _
  · rw [proposeFor_round]
    exact (past x n hx hn).le
  · cases begun.symm.trans hr
    exact absurd (past x _ hx hn) (lt_irrefl _)

/-- The target selected is skipped and a re-round starts (R108, R109). -/
theorem skipAndReRound_agreeing (v : Nat) (r : RoundRecord) {s : State} (a : s.Agreeing) :
    (skipAndReRound v r s).Agreeing := by
  obtain ⟨d, skipped⟩ := skipRecord_round (r.selected.getD 0) v s
  exact startRound_agreeing _ _ (State.HeardInTime.of_same a.heardIn (by rw [skipped]) (skipRecord_reception ..))

/-! ### A round that ends (R84, R109, R110) -/

theorem slewStartFor_sameRound (rec : Record) (e d : Nat) (s : State) :
    SameRound (slewBase rec e d s) (slewStartFor rec e d s) :=
  (slewMotion_sameRound rec e d _).trans (.of_blocks (by simp [slewStartFor_eq]) (by simp [slewStartFor_eq]))

theorem slewStartFor_agreeing (rec : Record) (e d : Nat) {s : State} (a : s.Agreeing) :
    (slewStartFor rec e d s).Agreeing := by
  have idle : roundOf (slewBase rec e d s) = none := by rw [roundOf, slewBase_round]
  have heard : (slewBase rec e d s).HeardInTime :=
    State.HeardInTime.of_same a.heardIn (by rw [slewBase_round]) (by rw [slewBase_port])
  exact (slewStartFor_sameRound rec e d s).agreeing (heard.agreeing idle)

/-- Whatever a round comes to at S, it is over or a new one has begun (R108 to R110). -/
theorem roundResult_agreeing {r : RoundRecord} {s t : State} (a : s.Agreeing) (he : roundResult r s = .next t) :
    t.Agreeing := by
  simp only [roundResult] at he
  (repeat' split at he) <;> cases he
  · exact skipAndReRound_agreeing _ _ a
  · exact (stall_planKept r s).goesOn.agreeing a
  · rw [succeed]
    split
    · exact skipAndReRound_agreeing _ _ a
    · exact slewStartFor_agreeing _ _ _ a

/-! ### Dwells and abandons (R112, R115) -/

theorem endDwell_agreeing (d : DwellRecord) {s : State} (a : s.Agreeing) : (endDwell d s).Agreeing := by
  have ended : SameRound s (report .dwellEnd d.seq (valueU d.dwellEnd) (dwellEnded d s)) :=
    ⟨roundOf_congr (by rw [report_round]; rfl), by rw [report_round]; rfl, report_reception ..⟩
  by_cases observing : ∃ ph, s.round.plan = some (.observing ph)
  · obtain ⟨ph, hp⟩ := observing
    rw [endDwell_observing hp]
    exact startRound_agreeing _ _ (ended.agreeing a).heardIn
  · rw [endDwell_idle (not_exists.mp observing)]
    exact ended.agreeing a

theorem fireAbandon_agreeing (x : PendingAbandon) {s : State} (a : s.Agreeing) : (fireAbandon x s).Agreeing := by
  rw [fireAbandon_eq]
  exact startRound_agreeing _ _
    (State.HeardInTime.of_same a.heardIn (by rw [report_round]; rfl) (report_reception ..))

/-! ### The commands -/

/-- The commands that do not keep the plan let the round in progress go on, end it, or number one anew. -/
theorem exec_agreeing_of_moves {c : Instr} {s t : State} (moves : keepsPlan c = false) (a : s.Agreeing)
    (he : exec c s = .next t) : t.Agreeing := by
  have goes : ∀ {u}, RoundGoesOn s u → u.Agreeing := fun g => g.agreeing a
  cases c <;> try cases moves
  case hardReset => exact (hardReset_sound _ _ he).1
  case roundResult =>
    simp only [exec, execRoundResult] at he
    split at he
    · exact roundResult_agreeing a he
    · cases he
      exact a
  all_goals cases he
  case configItem => exact goes (hear_goesOn (judgeConfig_goesOn ..) nofun)
  case start => exact goes (hearCommand_goesOn (gateEstop_goesOn (judgeStart_goesOn s)))
  case restart => exact goes (hearCommand_goesOn (gateEstop_goesOn (judgeRestart_goesOn s)))
  case planHead => exact goes (hear_goesOn (judgePlanHead_goesOn ..) nofun)
  case planSeg => exact a.hear nofun (judgePlanSeg_sameRound ..)
  case intakeTimeout =>
    simp only [expireIntake]
    (repeat' split)
    · exact goes (.after (report_planKept ..) (discardIntake_goesOn s))
    · exact a
    · exact a
  case planClear => exact goes (hearCommand_goesOn (gateEstop_goesOn (judgePlanClear_goesOn s)))
  case propose => exact goes (hear_goesOn (judgePropose_goesOn ..) nofun)
  case goRoll => exact goes (hear_goesOn (judgeRoll_goesOn ..).1 fun _ => (judgeRoll_goesOn ..).2)
  case skipRoll => exact goes (hear_goesOn (judgeRoll_goesOn ..).1 fun _ => (judgeRoll_goesOn ..).2)
  case responseFieldReport =>
    split
    · rename_i x hx
      have done := completeRoll_goesOn (slotsRead x ‹_› s) a hx
      exact goes { done with heard := nofun }
    · exact a
  case ownOutcome =>
    split
    · exact goes (settleOutcome_goesOn ..)
    · exact a
  case pendingTriggerEpoch =>
    split
    · exact startRound_agreeing _ _ a.heardIn
    · exact a
  case dwellEnd =>
    split
    · exact endDwell_agreeing _ a
    · exact a
  case abandonEpoch =>
    split
    · exact fireAbandon_agreeing _ a
    · exact a

theorem exec_agreeing {c : Instr} {s t : State} (a : s.Agreeing) (he : exec c s = .next t) : t.Agreeing := by
  cases kept : keepsPlan c with
  | true => exact (exec_planKept kept he).goesOn.agreeing a
  | false => exact exec_agreeing_of_moves kept a he

end Sys2Proof.Machine

namespace Sys2Proof.Proofs
open Sys2Proof.Machine

/-- Settles O15: a step is a command on a state that differs in nothing of the round, or a microsecond. -/
theorem rollAssertionsStayHonest : Obligations.RollAssertionsStayHonest := by
  intro s t a he
  have same : ∀ u : State, u.round = s.round → u.port = s.port → u.Agreeing := fun u round port =>
    (SameRound.of_blocks round (by rw [port])).agreeing a
  cases hp : s.pending with
  | cons c rest =>
    rw [step_of_waiting hp] at he
    exact exec_agreeing (same (s.withPending rest) rfl rfl) he
  | nil =>
    rw [step_of_empty hp] at he
    cases hd : due s with
    | none =>
      rw [idle_of_none hd] at he
      cases he
      exact same (passMicrosecond s) rfl rfl
    | some c =>
      rw [idle_of_due hd] at he
      exact exec_agreeing (same (drawReply c s) (by cases c <;> rfl) (by cases c <;> rfl)) he

end Sys2Proof.Proofs
end

section
/-! The instants A and T_d of a dwell (R111); hence O60. -/

namespace Sys2Proof.Machine

theorem execArrival_due {s : State} {d : DwellRecord} (hd : s.round.dwell = some d)
    (hp : s.round.plan = some (.observing .settle)) (due : d.arrival ≤ s.now) :
    exec .arrival s =
      .next (s.withRound
        { s.round with plan := some (.observing (if d.dwellStart ≤ d.arrival then .dwell else .dwellWait)) }) := by
  have now : arrivalDue s = true := by simp [arrivalDue, hp, hd, due]
  simp only [exec, execArrival, now, if_true, arrive, hd]

theorem execDwellStart_due {s : State} {d : DwellRecord} (hd : s.round.dwell = some d) (first : d.started = false)
    (due : d.dwellStart ≤ s.now) : exec .dwellStart s = .next (beginDwell d s) := by
  have now : dueDwellStart s = some d := by simp [dueDwellStart, hd, first, due]
  simp only [exec, execDwellStart, now]

/-- T_d changes the plan in OBSERVING alone, to DWELL once the motion has ended. -/
theorem planAtDwellStart_observing (d : DwellRecord) (ph : Phase) :
    planAtDwellStart d (some (.observing ph)) = some (.observing (if d.motionEnded then .dwell else ph)) := by
  rw [planAtDwellStart]
  split <;> rfl

theorem planAtDwellStart_other (d : DwellRecord) {p : Option PlanState} (h : ∀ ph, p ≠ some (.observing ph)) :
    planAtDwellStart d p = p := by
  rcases p with _ | p
  · rfl
  cases p
  case observing ph => exact absurd rfl (h ph)
  all_goals rfl

theorem beginDwell_round (d : DwellRecord) (s : State) :
    (beginDwell d s).round =
      { s.round with dwell := some { d with started := true }, plan := planAtDwellStart d s.round.plan } :=
  report_round ..

end Sys2Proof.Machine

namespace Sys2Proof.Proofs
open Sys2Proof.Machine

/-- Settles O60: the phase moves at A, and at T_d the event is composed over a plan that only the motion's end moves. -/
theorem dwellInstantsMoveThePhase : Obligations.DwellInstantsMoveThePhase := by
  refine ⟨fun s d hd hp due => execArrival_due hd hp due, fun s d hd first due => ?_⟩
  refine ⟨_, execDwellStart_due hd first due, ?_, fun ph hp => ?_, fun other => ?_, fun enabled room => ?_⟩
  · rw [beginDwell_round]
    exact report_eq ..
  · rw [beginDwell_round, hp]
    exact planAtDwellStart_observing d ph
  · rw [beginDwell_round]
    exact planAtDwellStart_other d other
  · exact report_queued .dwellStart d.seq (valueU d.dwellStart) (s.withRound _) enabled room

end Sys2Proof.Proofs
end

section
/-! The offsets and guide values: a slew start and RESTART make them 0, a tick, a GUIDE and an OFFSET move them within
their limits, and nothing else touches them (R84, R124, R126 to R128, R130, R178); hence O16. -/

namespace Sys2Proof.Machine

/-- The guide values and offsets of the trajectory unit (R130). -/
def Trajectory.corrections (j : Trajectory) : Int × Int × Int × Int :=
  (j.guideApplied, j.pendingGuide, j.appliedOffset, j.commandedOffset)

/-- The guide values and offsets keep the limits that the items `c` set (R124, R126, R128). -/
structure Trajectory.Within (c : Items) (j : Trajectory) : Prop where
  guideApplied : |j.guideApplied| ≤ c.guideTotalMax
  pendingGuide : |j.pendingGuide| ≤ c.guidePendingMax
  applied : |j.appliedOffset| ≤ c.offsetMax
  commanded : |j.commandedOffset| ≤ c.offsetMax

theorem State.bounded_iff (s : State) : s.Bounded ↔ s.Dormant ∧ s.traj.Within s.items :=
  ⟨fun ⟨dormant, guide, pending, applied, commanded⟩ => ⟨dormant, guide, pending, applied, commanded⟩,
    fun ⟨dormant, guide, pending, applied, commanded⟩ => ⟨dormant, guide, pending, applied, commanded⟩⟩

theorem Trajectory.Within.of_corrections {c : Items} {j k : Trajectory} (h : j.Within c)
    (e : k.corrections = j.corrections) : k.Within c := by
  simp only [Trajectory.corrections, Prod.mk.injEq] at e
  obtain ⟨guide, pending, applied, commanded⟩ := e
  exact ⟨guide ▸ h.guideApplied, pending ▸ h.pendingGuide, applied ▸ h.applied, commanded ▸ h.commanded⟩

theorem Trajectory.Within.of_eq {c : Items} {j k : Trajectory} (h : j.Within c) (e : k = j) : k.Within c := e ▸ h

/-- Zeros keep every limit. -/
theorem Trajectory.within_of_zero {c : Items} {j : Trajectory} (e : j.corrections = (0, 0, 0, 0)) : j.Within c := by
  have zeros : Trajectory.afterReset.Within c := by constructor <;> simp [Trajectory.afterReset]
  exact zeros.of_corrections e

theorem State.AtRest.within {s : State} (h : s.AtRest) (c : Items) : s.traj.Within c :=
  Trajectory.within_of_zero (by rw [Trajectory.corrections, h.guideApplied, h.pendingGuide, h.applied, h.commanded])

/-! ### The values moved -/

theorem abs_clampAbs_le (b : Nat) (x : Int) : |clampAbs b x| ≤ b := abs_le.mpr (clampAbs_range b x)

/-- A value that moves toward another by a clamped step does not pass it (R124). -/
theorem abs_add_clampAbs_sub_le {b : Nat} {m x y : Int} (hx : |x| ≤ m) (hy : |y| ≤ m) :
    |x + clampAbs b (y - x)| ≤ m := by
  rw [abs_le] at *
  rw [clampAbs_eq]
  omega

/-- A value that gives up its clamped part does not pass 0 (R127). -/
theorem abs_sub_clampAbs_le {b : Nat} {m x : Int} (hx : |x| ≤ m) : |x - clampAbs b x| ≤ m := by
  rw [abs_le] at *
  rw [clampAbs_eq]
  omega

section
variable {c : Items} {j : Trajectory} (h : j.Within c)
include h

theorem Trajectory.Within.stepOffset : (Machine.stepOffset c j).Within c :=
  { h with applied := abs_add_clampAbs_sub_le h.applied h.commanded }

theorem Trajectory.Within.stepGuide : (Machine.stepGuide c j).Within c :=
  { h with guideApplied := abs_clampAbs_le .., pendingGuide := abs_sub_clampAbs_le h.pendingGuide }

/-- Items 2 to 4 of R118. -/
theorem Trajectory.Within.stepped (demand : Int) :
    (Machine.stepGuide c (Machine.stepOffset c (stepTrack demand j))).Within c :=
  (h.of_corrections (k := stepTrack demand j) rfl).stepOffset.stepGuide

end

/-! ### What operations leave of the values -/

section
variable (s : State)

@[simp] theorem enterMotion_corrections (m : Motion) : (enterMotion m s).traj.corrections = s.traj.corrections := rfl

@[simp] theorem takeHold_corrections (line : Bool) : (takeHold line s).traj.corrections = s.traj.corrections := by
  rw [takeHold_traj]
  rfl

@[simp] theorem actOnCause_corrections (x : Cause) : (actOnCause x s).traj.corrections = s.traj.corrections := by
  simp [actOnCause]

@[simp] theorem raiseCause_corrections (x : Cause) : (raiseCause x s).traj.corrections = s.traj.corrections := by
  simp only [raiseCause]
  (repeat' split) <;> simp

@[simp] theorem retakeCauses_corrections : (retakeCauses s).traj.corrections = s.traj.corrections := by
  have each : ∀ (u : State) (x : Cause), (retakeCause u x).traj.corrections = u.traj.corrections := fun u x => by
    simp only [retakeCause]
    split <;> simp
  simp [retakeCauses, each]

@[simp] theorem closeSecond_corrections : (closeSecond s).traj.corrections = s.traj.corrections := by
  simp only [closeSecond, coastSecond, enterLost]
  (repeat' split) <;> simp

@[simp] theorem endMotion_corrections (g : Int) (a t : Nat) :
    (endMotion g a t s).traj.corrections = s.traj.corrections := by
  rw [endMotion_traj]
  rfl

@[simp] theorem standOnRemoval_corrections : (standOnRemoval s).traj.corrections = s.traj.corrections := by
  rw [standOnRemoval_traj]
  rfl

@[simp] theorem skipRecord_corrections (q v : Nat) : (skipRecord q v s).traj.corrections = s.traj.corrections := by
  simp only [skipRecord]
  split <;> simp

@[simp] theorem selectTarget_corrections (e n : Nat) (k : RoundKind) :
    (selectTarget e n k s).state.traj.corrections = s.traj.corrections := by
  induction n generalizing k s with
  | zero => rfl
  | succ n ih =>
    simp only [selectTarget]
    (repeat' split) <;> simp [ih]

@[simp] theorem startRound_corrections (k : RoundKind) (e : Nat) :
    (startRound k e s).traj.corrections = s.traj.corrections := by
  simp [startRound]

@[simp] theorem fixFor_corrections (rec : Record) (r : Release) :
    (fixFor rec r s).traj.corrections = s.traj.corrections := by
  simp only [fixFor, beginProfile]
  (repeat' split) <;> simp

@[simp] theorem closeTick_corrections (good : Bool) (n : Nat) (m : Motion) (l : List TickEvent) :
    (closeTick good n m l s).traj.corrections = s.traj.corrections := by
  have encoder : (reportEncoder good n s).traj.corrections = s.traj.corrections := by
    simp only [reportEncoder]
    (repeat' split) <;> simp
  simp only [closeTick, composeEvents_traj, reportFollowing]
  (repeat' split) <;> simp [encoder]

/-- R84: a slew start makes all four 0. -/
theorem slewStartFor_corrections (rec : Record) (t d : Nat) :
    (slewStartFor rec t d s).traj.corrections = (0, 0, 0, 0) := by
  rw [slewStartFor_traj]
  rfl

/-- R178: so does RESTART. -/
theorem takeRestart_corrections : (takeRestart s).traj.corrections = (0, 0, 0, 0) := by
  rw [takeRestart, retakeCauses_corrections, enterMotion_corrections]
  rfl

end

/-! ### Owners that have no part in the trajectory unit -/

section
variable (s : State)

theorem judgeRoll_traj (p : List Byte) : (judgeRoll p s).state.traj = s.traj := by
  simp only [judgeRoll, judgeGoRoll, judgeSkipRoll]
  (repeat' split) <;> simp

theorem judgePropose_traj (o : Origin) (p : List Byte) : (judgePropose o p s).state.traj = s.traj := by
  simp only [judgePropose]
  (repeat' split) <;> simp

theorem judgeAbandon_traj (p : List Byte) : (judgeAbandon p s).state.traj = s.traj := by
  simp only [judgeAbandon]
  (repeat' split) <;> simp

theorem judgeTimeSet_traj (p : List Byte) : (judgeTimeSet p s).state.traj = s.traj := by
  simp only [judgeTimeSet]
  (repeat' split) <;> simp

theorem judgePlanHead_traj (p : List Byte) : (judgePlanHead p s).state.traj = s.traj := by
  simp only [judgePlanHead, judgeHeader, takeHeader]
  (repeat' split) <;> simp

theorem judgePlanSeg_traj (p : List Byte) : (judgePlanSeg p s).state.traj = s.traj := by
  simp only [judgePlanSeg, judgeOpenSegment, finishIntake, storeSegment]
  (repeat' split) <;> simp

theorem judgeGo_traj (e : Nat) : (judgeGo e s).state.traj = s.traj := by
  simp only [judgeGo]
  split <;> simp

theorem judgeBreak_traj (e : Nat) : (judgeBreak e s).state.traj = s.traj := by
  simp only [judgeBreak]
  split <;> simp

theorem judgeReturn_traj (e : Nat) : (judgeReturn e s).state.traj = s.traj := by
  simp only [judgeReturn]
  split <;> simp

theorem judgePlanClear_traj : (judgePlanClear s).state.traj = s.traj := by
  simp only [judgePlanClear]
  split <;> simp

theorem judgeStatusReq_traj (args : List Byte) : (judgeStatusReq args s).state.traj = s.traj := by
  simp only [judgeStatusReq, sendStatus]
  (repeat' split) <;> simp

theorem judgeTraceSet_traj (args : List Byte) : (judgeTraceSet args s).state.traj = s.traj := by
  simp only [judgeTraceSet, gateEstop, takeTraceSet]
  (repeat' split) <;> simp

theorem judgeTraceRead_traj (args : List Byte) : (judgeTraceRead args s).state.traj = s.traj := by
  have sent : ∀ l : List (TraceEntry × Nat), (l.foldl sendTraceData s).traj = s.traj := fun l =>
    List.foldlRecOn (motive := fun u : State => u.traj = s.traj) l _ rfl fun u hu e _ => by
      simpa [sendTraceData] using hu
  simp only [judgeTraceRead]
  (repeat' split) <;> simp [sent]

theorem edgeByState_traj : (edgeByState s).traj = s.traj := by
  simp only [edgeByState, edgeFree, edgeLocked, edgeRegain, lockFromFree, regainLock, applySet, correctAt]
  (repeat' split) <;> simp

theorem completeRoll_traj (x : Reception) (slots : BitVec 15) : (completeRoll x slots s).traj = s.traj := by
  simp only [completeRoll, recordGo, recordSkip]
  (repeat' split) <;> simp

end

/-! ### The servo tick (R118, R158) -/

theorem trackingTick_within {s : State} (h : s.traj.Within s.items) (rec : Record) (t : Nat) :
    (trackingTick rec t s).state.traj.Within s.items := by
  rw [trackingTick_state, reportLosses_traj, steppedState_traj]
  exact (h.stepped (demandAt s rec t)).of_corrections rfl

theorem tickOnRecord_within {t : Nat} {s : State} {w : TickWork} (h : s.traj.Within s.items)
    (hw : tickOnRecord t s = some w) : w.state.traj.Within s.items := by
  obtain ⟨rec, -, rfl⟩ := Option.map_eq_some_iff.mp hw
  exact trackingTick_within h rec t

/-- Only the work on a record moves the values; the other modes leave them unstepped (R123, R124, R127). -/
theorem tickWork_within {t : Nat} {s : State} {w : TickWork} (h : s.traj.Within s.items) (hw : tickWork t s = some w) :
    w.state.traj.Within s.items := by
  simp only [tickWork] at hw
  cases hm : s.traj.motion <;> simp only [hm] at hw
  case slewing p =>
    simp only [slewingTick] at hw
    split at hw
    · cases hw
      exact h.of_corrections rfl
    · have items : (endMotion p.goal p.arrival t s).items = s.items := by simp [State.items]
      rw [← items] at h ⊢
      exact tickOnRecord_within (h.of_corrections (endMotion_corrections ..)) hw
  case settling =>
    split at hw
    · exact tickOnRecord_within (s := enterMotion .tracking s) (h.of_corrections rfl) hw
    · exact tickOnRecord_within h hw
  case tracking => exact tickOnRecord_within h hw
  case stopping p =>
    cases hw
    simp only [stoppingTick]
    split <;> exact h.of_corrections rfl
  all_goals cases hw; exact h.of_corrections rfl

theorem execServoTick_within {r : EncoderReply} {s t : State} (h : s.traj.Within s.items)
    (he : execServoTick r s = .next t) : t.traj.Within s.items := by
  simp only [execServoTick, tickAt] at he
  (repeat' split at he) <;> cases he
  · exact h
  · rename_i hn
    obtain ⟨w, hw, rfl⟩ := Option.map_eq_some_iff.mp hn
    obtain ⟨l, -, hl⟩ := countAndFinish_eq s.time.nextTick (goodPosition r) w
    have worked : w.state.traj.Within s.items :=
      tickWork_within (s := (advanceTick s).withAxis (sampleAxis (goodPosition r) (advanceTick s).axis)) h hw
    rw [hl]
    exact worked.of_corrections (closeTick_corrections ..)
  · exact h

/-! ### Frames heard -/

section
variable {c : Items} {s : State} (h : s.traj.Within c)
include h

theorem Trajectory.Within.refused (r : Reason) (code : Nat) : (Machine.refused r code s).state.traj.Within c :=
  h.of_eq (by simp)

theorem Trajectory.Within.hear {k : FrameClass} {o : Origin} {p : List Byte} {owner : State → Judged}
    (ho : (owner s).state.traj.Within c) : (Machine.hear k o p owner s).traj.Within c :=
  hear_keeps (P := fun u => u.traj.Within c) (fun _ _ hu => hu) h ho

theorem Trajectory.Within.hearCommand {code len : Nat} {o : Origin} {args : List Byte} {owner : State → Judged}
    (ho : (owner s).state.traj.Within c) : (Machine.hearCommand code len o args owner s).traj.Within c := by
  refine h.hear ?_
  split
  · exact ho
  · exact h.refused ..

theorem Trajectory.Within.gateEstop {code : Nat} {owner : State → Judged} (ho : (owner s).state.traj.Within c) :
    (Machine.gateEstop code owner s).state.traj.Within c := by
  rw [Machine.gateEstop]
  split
  · exact h.refused ..
  · exact ho

theorem Trajectory.Within.withEpoch {code : Nat} {args : List Byte} {owner : Nat → State → Judged}
    (ho : ∀ e, (owner e s).state.traj = s.traj) : (Machine.withEpoch code args owner s).state.traj.Within c := by
  rw [Machine.withEpoch]
  split
  · exact h.refused ..
  · exact h.gateEstop (h.of_eq (ho _))

/-! ### The owners of the trajectory unit's values -/

theorem Trajectory.Within.judgeHold (o : Origin) (p : List Byte) : (Machine.judgeHold o p s).state.traj.Within c := by
  simp only [Machine.judgeHold]
  (repeat' split)
  any_goals exact h
  exact h.of_corrections (takeHold_corrections ..)

/-- An item taken forms the rate step alone anew (R77, R174). -/
theorem Trajectory.Within.judgeConfig (p : List Byte) : (Machine.judgeConfig p s).state.traj.Within c := by
  simp only [Machine.judgeConfig]
  (repeat' split)
  · exact h.of_eq (refuse_traj ..)
  · exact h.of_eq (refuse_traj ..)
  · exact h.of_eq (refuse_traj ..)
  · exact h.of_eq (refuse_traj ..)
  · exact h.of_corrections rfl

theorem Trajectory.Within.judgeStart : (Machine.judgeStart s).state.traj.Within c := by
  rw [Machine.judgeStart]
  split
  · exact h.refused ..
  · exact h.of_corrections (retakeCauses_corrections _)

theorem Trajectory.Within.judgeRestart : (Machine.judgeRestart s).state.traj.Within c := by
  rw [Machine.judgeRestart]
  split
  · exact Trajectory.within_of_zero (takeRestart_corrections s)
  · exact h.refused ..

end

section
variable {s : State} (h : s.traj.Within s.items)
include h

/-- R126: the pending guide is the sum clamped last. -/
theorem Trajectory.Within.judgeGuide (p : List Byte) : (Machine.judgeGuide p s).state.traj.Within s.items := by
  have taken : ∀ Δ, (takeGuide Δ s).traj.Within s.items := fun Δ => by
    rw [takeGuide_eq]
    exact { h with pendingGuide := abs_clampAbs_le .. }
  simp only [Machine.judgeGuide]
  (repeat' split)
  any_goals exact h
  exact taken _

/-- R124: the commanded offset is the value clamped. -/
theorem Trajectory.Within.addressOffset (args : List Byte) :
    (Machine.addressOffset args s).state.traj.Within s.items := by
  have judged : ∀ v, (judgeOffset v s).state.traj.Within s.items := fun v => by
    rw [judgeOffset]
    split
    · exact { h with commanded := abs_clampAbs_le .. }
    · exact h.refused ..
  rw [Machine.addressOffset]
  (repeat' split)
  · exact h.refused ..
  · exact h.gateEstop (judged _)
  · exact h

/-! ### The commands -/

theorem Trajectory.Within.execRoundResult {t : State} (he : Machine.execRoundResult s = .next t) :
    t.traj.Within s.items := by
  have rerun : ∀ v r, (skipAndReRound v r s).traj.Within s.items := fun v r =>
    h.of_corrections (by simp [skipAndReRound])
  simp only [Machine.execRoundResult, roundResult, succeed] at he
  (repeat' split at he) <;> cases he
  · exact rerun ..
  · exact h.of_eq (stall_traj ..)
  · exact rerun ..
  · exact Trajectory.within_of_zero (slewStartFor_corrections ..)
  · exact h

theorem Trajectory.Within.execBrakeTimerExpiry {t : State} (he : Machine.execBrakeTimerExpiry s = .next t) :
    t.traj.Within s.items := by
  simp only [Machine.execBrakeTimerExpiry, expireBrake] at he
  (repeat' split at he) <;> cases he
  · exact h.of_corrections (by simp)
  · exact h.of_eq (clearBrakeTimer_traj _)
  · exact h

/-- Every command keeps the limits of the items it finds. -/
theorem exec_within {c : Instr} {t : State} (he : exec c s = .next t) : t.traj.Within s.items := by
  cases c
  case servoTick => exact execServoTick_within h he
  case roundResult => exact h.execRoundResult he
  case brakeTimerExpiry => exact h.execBrakeTimerExpiry he
  all_goals cases he
  case hardReset => exact Trajectory.within_of_zero rfl
  case ppsEdge => exact h.of_eq (edgeByState_traj s)
  case unitCorrection => split <;> exact h
  case correctionSecondEnd => split <;> exact h
  case regainRunMiss => split <;> exact h
  case expectedSecondJudgement =>
    simp only [judgeExpected, enterCoast]
    (repeat' split) <;> exact h.of_eq (by simp)
  case linkSecondClose => split; exacts [h.of_corrections (closeSecond_corrections s), h]
  case driveFaultAsserted => exact h.of_corrections (raiseCause_corrections ..)
  case driveFaultDeasserted => exact h.of_eq (endCause_traj ..)
  case emergencyStopAsserted => exact h.of_corrections (raiseCause_corrections ..)
  case emergencyStopDeasserted => exact h.of_eq (endCause_traj ..)
  case holdRepeat =>
    simp only [repeatHold]
    (repeat' split) <;> exact h.of_eq (by simp)
  case attemptStart => split <;> exact h
  case attemptEnd => split <;> exact h
  case txDeadline => exact h
  case damagedFrame =>
    simp only [hearDamage]
    (repeat' split) <;> exact h.of_corrections (by simp)
  case responseFieldReport => split; exacts [h.of_eq (completeRoll_traj ..), h]
  case intakeTimeout =>
    simp only [expireIntake]
    (repeat' split) <;> exact h.of_eq (by simp)
  case pendingTriggerEpoch => split; exacts [h.of_corrections (by simp [fireTrigger]), h]
  case ownOutcome => split; exacts [h.of_eq (settleOutcome_traj ..), h]
  case arrival => split; exacts [h.of_eq (arrive_traj _), h]
  case dwellStart => split; exacts [h.of_eq (beginDwell_traj ..), h]
  case dwellEnd =>
    simp only [endDwell]
    (repeat' split) <;> exact h.of_corrections (by simp)
  case abandonEpoch => split; exacts [h.of_corrections (by simp [fireAbandon]), h]
  case unknownClassFrame => exact h.hear h
  case reportFrameHeard => exact h.hear h
  case hold => exact h.hear (h.judgeHold ..)
  case goRoll => exact h.hear (h.of_eq (judgeRoll_traj ..))
  case skipRoll => exact h.hear (h.of_eq (judgeRoll_traj ..))
  case propose => exact h.hear (h.of_eq (judgePropose_traj ..))
  case abandon => exact h.hear (h.of_eq (judgeAbandon_traj ..))
  case guide => exact h.hear (h.judgeGuide _)
  case timeSet => exact h.hear (h.of_eq (judgeTimeSet_traj ..))
  case configItem => exact h.hear (h.judgeConfig _)
  case planHead => exact h.hear (h.of_eq (judgePlanHead_traj ..))
  case planSeg => exact h.hear (h.of_eq (judgePlanSeg_traj ..))
  case commandUnknownCode => exact h.hear (h.of_eq (refuse_traj ..))
  case start => exact h.hearCommand (h.gateEstop h.judgeStart)
  case go => exact h.hearCommand (h.withEpoch fun _ => judgeGo_traj ..)
  case breakIn => exact h.hearCommand (h.withEpoch fun _ => judgeBreak_traj ..)
  case returnTo => exact h.hearCommand (h.withEpoch fun _ => judgeReturn_traj ..)
  case offset => exact h.hearCommand (h.addressOffset _)
  case planClear => exact h.hearCommand (h.gateEstop (h.of_eq (judgePlanClear_traj s)))
  case restart => exact h.hearCommand (h.gateEstop h.judgeRestart)
  case statusReq => exact h.hearCommand (h.of_eq (judgeStatusReq_traj ..))
  case traceSet => exact h.hearCommand (h.of_eq (judgeTraceSet_traj ..))
  case traceRead => exact h.hearCommand (h.of_eq (judgeTraceRead_traj ..))

end

/-! ### The limits -/

/-- CONFIG is locked in RUN (R174). -/
theorem judgeConfig_items_in_run {s : State} (hl : s.conf.life = .run) (p : List Byte) :
    (judgeConfig p s).state.items = s.items := by
  have inRun : s.inRun = true := decide_eq_true hl
  have kept : ∀ n r, (refuseCommand r .config n s).items = s.items := fun n r => by
    simp [refuseCommand, refuse, State.items]
  simp only [judgeConfig, inRun, if_true]
  split <;> exact kept ..

/-- Where a command ends in RUN it leaves the items: CONFIG_ITEM enters no RUN and is locked in it (R174). -/
theorem exec_items_in_run {c : Instr} {s t : State} (he : exec c s = .next t) (hl : t.conf.life = .run)
    (hc : isHardReset c = false) : t.items = s.items := by
  cases c
  case hardReset => cases hc
  case configItem =>
    cases he
    have life : s.conf.life = .run := (hear_held (judgeConfig_held ..)).life.symm.trans hl
    exact hear_keeps (P := fun u => u.items = s.items) (fun _ _ hu => hu) rfl (judgeConfig_items_in_run life _)
  all_goals exact congrArg Prod.fst (exec_tuning rfl he)

/-- In RUN the limits stand and the values keep them; outside RUN the values are 0. -/
theorem exec_within_own {c : Instr} {s t : State} (rests : t.Dormant) (h : s.traj.Within s.items)
    (he : exec c s = .next t) : t.traj.Within t.items := by
  cases reset : isHardReset c
  · by_cases hl : t.conf.life = .run
    · rw [exec_items_in_run he hl reset]
      exact exec_within h he
    · exact (rests hl).within _
  · cases c <;> cases reset
    exact (execHardReset_atRest he).within _

end Sys2Proof.Machine

namespace Sys2Proof.Proofs
open Sys2Proof.Machine

/-- Settles O16: the controller rests outside RUN (O7); a step is a command that keeps the limits, or a microsecond. -/
theorem offsetsAndGuideStayBounded : Obligations.OffsetsAndGuideStayBounded := by
  intro s t h he
  obtain ⟨dormant, within⟩ := s.bounded_iff.mp h
  have rests := controllerRestsOutsideRun s t dormant he
  refine t.bounded_iff.mpr ⟨rests, ?_⟩
  cases hp : s.pending with
  | cons c rest =>
    rw [step_of_waiting hp] at he
    exact exec_within_own (s := s.withPending rest) rests within he
  | nil =>
    rw [step_of_empty hp] at he
    cases hd : due s with
    | none =>
      rw [idle_of_none hd] at he
      cases he
      exact within
    | some c =>
      rw [idle_of_due hd] at he
      have drawn : (drawReply c s).traj.Within (drawReply c s).items := by
        simp only [drawReply]
        split <;> exact within
      exact exec_within_own rests drawn he

end Sys2Proof.Proofs
end

section
/-! The two lines: asserted, the brake at once; deasserted, neither the hold nor the brake released (R131 to R135, R140,
R144, R160); hence O40. -/

namespace Sys2Proof.Machine

/-! ### The set of local causes (R131, R132) -/

theorem CauseSet.has_set (z : CauseSet) (b : Bool) (x y : Cause) :
    (z.set b x).has y = if y = x then b else z.has y := by
  cases x <;> cases y <;> rfl

theorem CauseSet.has_set_true (z : CauseSet) (x y : Cause) : (z.set true x).has y = (decide (y = x) || z.has y) := by
  by_cases h : y = x <;> simp [has_set, h]

theorem CauseSet.has_set_false (z : CauseSet) (x y : Cause) : (z.set false x).has y = (!decide (y = x) && z.has y) := by
  by_cases h : y = x <;> simp [has_set, h]

theorem CauseSet.line_set_true {x : Cause} (hx : x.isLine = true) (z : CauseSet) : (z.set true x).line = true := by
  cases x
  case drive => exact Bool.true_or _
  case estop => exact Bool.or_true _
  all_goals cases hx

/-! ### The outputs under a line cause (R135, R160) -/

/-- From `s` to `t` the enable is off and the brake on, and where the enable went off the last setpoint was
transferred. -/
structure BrakedAtOnce (s t : State) : Prop where
  driveEnable : t.axis.driveEnable = false
  brakeApplied : t.axis.brakeApplied = true
  transfer : ∀ p, s.axis.driveEnable = true → s.axis.lastSetpoint = some p → t.axis.link = some ⟨false, p, 0⟩

/-- The outputs are judged by the blocks they are in. -/
theorem BrakedAtOnce.of_axis {s s' t t' : State} (h : BrakedAtOnce s t)
    (hd : s'.axis.driveEnable = s.axis.driveEnable) (hs : s'.axis.lastSetpoint = s.axis.lastSetpoint)
    (ht : t'.axis = t.axis) : BrakedAtOnce s' t' where
  driveEnable := by rw [ht, h.driveEnable]
  brakeApplied := by rw [ht, h.brakeApplied]
  transfer := by rw [hd, hs, ht]; exact h.transfer

/-- The settled outputs are the only fields that change (R160). -/
theorem settleOutputs_eq (s : State) :
    settleOutputs s =
      { s with
        axis :=
          { s.axis with
            driveEnable := (settleOutputs s).axis.driveEnable, brakeApplied := (settleOutputs s).axis.brakeApplied
            link := (settleOutputs s).axis.link } } := rfl

theorem settleOutputs_brakedAtOnce {s : State} (h : s.hold.causes.line = true) : BrakedAtOnce s (settleOutputs s) := by
  have off : driveOn s.traj.motion s.hold.causes = false := by simp [driveOn, h]
  refine ⟨off, congrArg (!·) off, fun p hd hp => ?_⟩
  simp [settleOutputs, off, hd, lastSetpoint_of_some hp]

theorem stopBrakeTimer_axis (s : State) :
    (stopBrakeTimer s).axis = { s.axis with brakeTimer := (stopBrakeTimer s).axis.brakeTimer } := by
  simp only [stopBrakeTimer]
  split <;> rfl

theorem takeHold_brakedAtOnce (line : Bool) {s : State} (h : s.hold.causes.line = true) :
    BrakedAtOnce s (takeHold line s) := by
  have haxis := stopBrakeTimer_axis (dropSettle (holdPlan s))
  refine (settleOutputs_brakedAtOnce ?_).of_axis ?_ ?_ rfl
  · simpa [dropSettle, holdPlan] using h
  all_goals
    rw [State.withTraj_axis, haxis]
    rfl

theorem actOnCause_brakedAtOnce (x : Cause) {s : State} (h : s.hold.causes.line = true) :
    BrakedAtOnce s (actOnCause x s) :=
  (takeHold_brakedAtOnce x.isLine h).of_axis rfl rfl (by simp [actOnCause])

/-! ### A line cause raised (R132, R133, R135, R140) -/

section
variable {x : Cause} {s : State} (hn : s.hold.causes.has x = false)
include hn

theorem raiseCause_brakedAtOnce (hx : x.isLine = true) (hl : s.conf.life ≠ .strapFault) :
    BrakedAtOnce s (raiseCause x s) := by
  have line : (addCause x s).hold.causes.line = true := CauseSet.line_set_true hx _
  cases life : s.conf.life
  case strapFault => exact absurd life hl
  case config =>
    rw [raiseCause_of_config life hn]
    exact (settleOutputs_brakedAtOnce line).of_axis rfl rfl rfl
  case run =>
    rw [raiseCause_of_run life hn]
    exact (actOnCause_brakedAtOnce x line).of_axis rfl rfl rfl

/-- In CONFIG a cause reaches the set and the outputs alone (R133, R160). -/
theorem raiseCause_config_eq (hl : s.conf.life = .config) :
    raiseCause x s =
      { s with
        hold := { s.hold with causes := (raiseCause x s).hold.causes }
        axis :=
          { s.axis with
            driveEnable := (raiseCause x s).axis.driveEnable, brakeApplied := (raiseCause x s).axis.brakeApplied
            link := (raiseCause x s).axis.link } } := by
  rw [raiseCause_of_config hl hn]
  exact settleOutputs_eq _

/-- In RUN a cause starts the repeat timer (R140) and leaves the peer-hold mark. -/
theorem raiseCause_run_hold (hl : s.conf.life = .run) :
    (raiseCause x s).hold =
      { s.hold with
        causes := (raiseCause x s).hold.causes, repeatTimer := some (s.now + s.items.holdRepeat) } := by
  rw [raiseCause_of_run hl hn]
  simp [actOnCause, startRepeat, addCause, State.now, State.items]

theorem raiseCause_run_holdTaken (hl : s.conf.life = .run) : HoldTaken x.isLine s (raiseCause x s) := by
  rw [raiseCause_of_run hl hn]
  exact (actOnCause_holdTaken x (addCause x s)).of_same rfl rfl rfl rfl rfl rfl rfl rfl rfl rfl

theorem raiseCause_run_holdQueued (hl : s.conf.life = .run) (room : Room s 1) : HoldQueued x s (raiseCause x s) := by
  rw [HoldQueued, raiseCause_of_run hl hn, actOnCause_causes]
  exact actOnCause_queued x (s := addCause x s) (by simp [hl]) room

end

/-! ### A cause ended (R132, R144) -/

section
variable (x : Cause) {s : State} (hl : s.conf.life ≠ .strapFault)
include hl

theorem endCause_settles :
    endCause x s = settleOutputs (s.withHold { s.hold with causes := s.hold.causes.set false x }) := by
  simp [endCause, State.inStrapFault, hl]

theorem endCause_outputsSafe : (endCause x s).OutputsSafe := by
  rw [endCause_settles x hl]
  exact settleOutputs_outputsSafe _

/-- The end of a cause reaches the set and the outputs alone. -/
theorem endCause_eq :
    endCause x s =
      { s with
        hold := { s.hold with causes := (endCause x s).hold.causes }
        axis :=
          { s.axis with
            driveEnable := (endCause x s).axis.driveEnable, brakeApplied := (endCause x s).axis.brakeApplied
            link := (endCause x s).axis.link } } := by
  rw [endCause_settles x hl]
  exact settleOutputs_eq _

end

/-! ### The two lines -/

/-- A line asserted or deasserted is its level and then its cause, raised or ended. -/
theorem exec_lineAsserted {s : State} {x : Cause} {c : Instr} {pins : Pins}
    (h : (x = .drive ∧ c = .driveFaultAsserted ∧ pins = { s.pins with driveFault := true }) ∨
      (x = .estop ∧ c = .emergencyStopAsserted ∧ pins = { s.pins with estop := true })) :
    x.isLine = true ∧ exec c s = .next (raiseCause x (s.withPins pins)) := by
  rcases h with ⟨rfl, rfl, rfl⟩ | ⟨rfl, rfl, rfl⟩ <;> exact ⟨rfl, rfl⟩

theorem exec_lineDeasserted {s : State} {x : Cause} {c : Instr} {pins : Pins}
    (h : (x = .drive ∧ c = .driveFaultDeasserted ∧ pins = { s.pins with driveFault := false }) ∨
      (x = .estop ∧ c = .emergencyStopDeasserted ∧ pins = { s.pins with estop := false })) :
    exec c s = .next (endCause x (s.withPins pins)) := by
  rcases h with ⟨rfl, rfl, rfl⟩ | ⟨rfl, rfl, rfl⟩ <;> rfl

end Sys2Proof.Machine

namespace Sys2Proof.Proofs
open Sys2Proof.Machine

/-- Settles O40: the level of the line is set first, and its cause is raised or ended in the state that has it. -/
theorem linesRaiseAndEndTheirCauses : Obligations.LinesRaiseAndEndTheirCauses := by
  constructor
  · intro s x c pins hc
    obtain ⟨hx, he⟩ := exec_lineAsserted hc
    refine ⟨_, he, by simp, fun h => ?_, fun hl hn => ?_⟩
    · rcases h with h | h
      · exact raiseCause_strapFault (s := s.withPins pins) h x
      · exact raiseCause_of_has (s := s.withPins pins) h
    obtain ⟨off, on, transfer⟩ := raiseCause_brakedAtOnce (s := s.withPins pins) hn hx hl
    refine ⟨fun y => ?_, off, on, transfer, fun config => ?_, fun run => ?_⟩
    · rw [raiseCause_causes (s := s.withPins pins) hl]
      exact CauseSet.has_set_true ..
    · have whole := raiseCause_config_eq (s := s.withPins pins) hn config
      rwa [off, on] at whole
    · have taken := raiseCause_run_holdTaken (s := s.withPins pins) hn run
      rw [hx] at taken
      exact ⟨taken.of_same rfl rfl rfl rfl rfl rfl rfl rfl rfl rfl, raiseCause_run_hold (s := s.withPins pins) hn run,
        raiseCause_run_holdQueued (s := s.withPins pins) hn run, by simp, by simp⟩
  · intro s x c pins hc
    refine ⟨_, exec_lineDeasserted hc, fun hl => endCause_strapFault (s := s.withPins pins) hl x,
      fun hl => ⟨fun y => ?_, endCause_outputsSafe x hl, endCause_eq (s := s.withPins pins) x hl⟩⟩
    rw [endCause_causes (s := s.withPins pins) hl]
    exact CauseSet.has_set_false ..

end Sys2Proof.Proofs
end

section
/-! What each command does to the outputs of the axis and to the trace ring: the drive enable and the brake are left
alone with the mode and the line causes or settled by them, and the ring and the post-trigger count keep their bounds
(R13, R135, R158, R160, R168 to R170); hence O14 and O17. -/

namespace Sys2Proof.Machine

theorem SameTrace.bounded {a b : AxisInterface} (h : SameTrace a b) (bounded : a.TraceBounded) : b.TraceBounded := by
  obtain ⟨ring, -, phase⟩ := h
  exact ⟨ring ▸ bounded.ring, phase ▸ bounded.count⟩

/-- From `s` to `t` the outputs stay those of the mode and the line causes, and the trace stays within its bounds. -/
structure AxisGuarded (s t : State) : Prop where
  outputs : s.OutputsSafe → t.OutputsSafe
  trace : s.axis.TraceBounded → t.axis.TraceBounded

namespace AxisGuarded

theorem refl (s : State) : AxisGuarded s s := ⟨id, id⟩

theorem trans {s t u : State} (h : AxisGuarded s t) (k : AxisGuarded t u) : AxisGuarded s u :=
  ⟨k.outputs ∘ h.outputs, k.trace ∘ h.trace⟩

/-- The outputs are settled, and the trace is left alone. -/
theorem of_settled {s t : State} (outputs : t.OutputsSafe) (trace : SameTrace s.axis t.axis) : AxisGuarded s t :=
  ⟨fun _ => outputs, trace.bounded⟩

/-- The outputs, what they follow and the trace are left alone. -/
theorem of_fields {s t : State} (enable : t.axis.driveEnable = s.axis.driveEnable)
    (brake : t.axis.brakeApplied = s.axis.brakeApplied) (motion : t.traj.motion = s.traj.motion)
    (causes : t.hold.causes = s.hold.causes) (trace : SameTrace s.axis t.axis) : AxisGuarded s t where
  outputs := by
    rw [State.OutputsSafe, State.OutputsSafe, enable, brake, motion, causes]
    exact id
  trace := trace.bounded

/-- The whole axis interface is left alone, and so is what its outputs follow. -/
theorem of_blocks {s t : State} (axis : t.axis = s.axis := by simp)
    (motion : t.traj.motion = s.traj.motion := by simp) (causes : t.hold.causes = s.hold.causes := by simp) :
    AxisGuarded s t :=
  .of_fields (by rw [axis]) (by rw [axis]) motion causes (axis ▸ .refl _)

/-- A folded operation guards the axis when its every step does. -/
theorem foldl {α : Type} {f : State → α → State} (hf : ∀ u x, AxisGuarded u (f u x)) (l : List α) (s : State) :
    AxisGuarded s (l.foldl f s) :=
  List.foldlRecOn (motive := AxisGuarded s) l f (.refl s) fun u hu x _ => hu.trans (hf u x)

end AxisGuarded

/-! ### Outputs settled (R160) -/

theorem enterMotion_guarded (m : Motion) (s : State) : AxisGuarded s (enterMotion m s) :=
  .of_settled (settleOutputs_outputsSafe _) ⟨rfl, rfl, rfl⟩

theorem endMotion_guarded (g : Int) (a t : Nat) (s : State) : AxisGuarded s (endMotion g a t s) :=
  .of_settled (endMotion_outputsSafe ..) (by rw [endMotion_outputsOnly]; exact ⟨rfl, rfl, rfl⟩)

/-! ### Holds and causes (R132 to R136, R140) -/

theorem takeHold_guarded (line : Bool) (s : State) : AxisGuarded s (takeHold line s) := by
  refine .of_settled (takeHold_holdTaken line s).outputs (.trans (b := (stopBrakeTimer (dropSettle (holdPlan s))).axis)
    ?_ ⟨rfl, rfl, rfl⟩)
  rw [stopBrakeTimer_axis]
  exact ⟨rfl, rfl, rfl⟩

theorem actOnCause_guarded (c : Cause) (s : State) : AxisGuarded s (actOnCause c s) :=
  .of_settled (actOnCause_holdTaken c s).outputs (actOnCause_sameTrace c s)

theorem raiseCause_guarded (c : Cause) (s : State) : AxisGuarded s (raiseCause c s) := by
  simp only [raiseCause]
  (repeat' split)
  · exact .refl s
  · exact .of_settled (actOnCause_holdTaken c (addCause c s)).outputs (actOnCause_sameTrace c (addCause c s))
  · exact .of_settled (settleOutputs_outputsSafe _) ⟨rfl, rfl, rfl⟩

theorem endCause_guarded (c : Cause) (s : State) : AxisGuarded s (endCause c s) := by
  rw [endCause]
  split
  · exact .refl s
  · exact .of_settled (settleOutputs_outputsSafe _) ⟨rfl, rfl, rfl⟩

theorem retakeCauses_guarded (s : State) : AxisGuarded s (retakeCauses s) := by
  refine .foldl (fun u x => ?_) _ s
  rw [retakeCause]
  split
  · exact actOnCause_guarded x u
  · exact .refl u

/-! ### The time base (R3 to R15) -/

/-- A step of mount time empties the ring and begins no post-trigger count (R13, R169). -/
theorem stepTo_guarded (x : Nat) (s : State) : AxisGuarded s (stepTo x s) := by
  have stepped : AxisGuarded s (gradeLink (expireQueue (max s.now (steppedTime s.items.tickPeriod x s.time).mountTime)
      (s.withTime (steppedTime s.items.tickPeriod x s.time)))) := .of_blocks
  refine stepped.trans ⟨id, fun _ => ⟨Nat.zero_le _, fun n hn => ?_⟩⟩
  have begun : ∀ m, phaseOfMode m ≠ .postTrigger n := fun m => by cases m <;> nofun
  exact absurd hn (begun _)

theorem coastSecond_guarded (s : State) : AxisGuarded s (coastSecond s) := by
  simp only [coastSecond]
  (repeat' split)
  · exact .trans .of_blocks (raiseCause_guarded .time _)
  · exact .of_blocks
  · exact .refl s

theorem closeSecond_guarded (s : State) : AxisGuarded s (closeSecond s) := .trans .of_blocks (coastSecond_guarded _)

theorem edgeByState_guarded (s : State) : AxisGuarded s (edgeByState s) := by
  have timed : ∀ (u : State) x, AxisGuarded u (u.withTime x) := fun _ _ => .of_blocks
  have reported : ∀ (u : State) e q v, AxisGuarded u (report e q v u) := fun _ _ _ _ => .of_blocks
  have lock : AxisGuarded s (lockFromFree s) :=
    (((stepTo_guarded _ s).trans (timed _ _)).trans (reported ..)).trans (endCause_guarded .time _)
  have regain : AxisGuarded s (regainLock s) :=
    ((timed s _).trans (reported ..)).trans (endCause_guarded .time _)
  have applied : ∀ n, AxisGuarded s (applySet n s) := fun n => (stepTo_guarded _ s).trans (timed _ _)
  simp only [edgeByState, edgeFree, edgeLocked, edgeRegain]
  (repeat' split)
  · exact lock
  · exact timed ..
  · exact applied _
  · exact timed ..
  · exact .refl s
  · exact .refl s
  · exact regain
  · exact timed ..
  · exact .refl s
  · exact regain
  · exact timed ..

/-! ### Rounds (R84, R96 to R102, R109 to R115) -/

theorem standOnRemoval_guarded (s : State) : AxisGuarded s (standOnRemoval s) := by
  rw [standOnRemoval]
  split
  · exact .trans .of_blocks (enterMotion_guarded _ s.drawSetpoint)
  · exact .refl s

theorem skipRecord_guarded (q v : Nat) (s : State) : AxisGuarded s (skipRecord q v s) := by
  have dropped : ∀ u : State, AxisGuarded u (dropSettle (dropDwellOf q u)) := fun u =>
    .trans (t := dropDwellOf q u) .of_blocks (.of_fields rfl rfl rfl rfl ⟨rfl, rfl, rfl⟩)
  have removed : AxisGuarded s (s.withStore (s.store.remove q)) := .of_blocks
  simp only [skipRecord]
  split
  · exact ((removed.trans (dropped _)).trans (standOnRemoval_guarded _)).trans .of_blocks
  · exact .of_blocks

theorem selectTarget_guarded (e n : Nat) (k : RoundKind) (s : State) : AxisGuarded s (selectTarget e n k s).state := by
  induction n generalizing k s with
  | zero => exact .refl s
  | succ n ih =>
    simp only [selectTarget]
    (repeat' split)
    · exact .refl s
    · exact (skipRecord_guarded ..).trans (ih ..)
    · exact .refl s

theorem startRound_guarded (k : RoundKind) (e : Nat) (s : State) : AxisGuarded s (startRound k e s) := by
  have causes : (leaveForRound s).hold.causes = s.hold.causes := by
    rw [leaveForRound_hold]
    split <;> rfl
  have begun : AxisGuarded s (roundBegun (leaveForRound s) e k) := .of_blocks (causes := by simpa using causes)
  have selected : AxisGuarded s (selectionOf k e s).state := begun.trans (selectTarget_guarded ..)
  rw [startRound_eq]
  exact selected.trans .of_blocks

theorem skipAndReRound_guarded (v : Nat) (r : RoundRecord) (s : State) : AxisGuarded s (skipAndReRound v r s) :=
  (skipRecord_guarded ..).trans (startRound_guarded ..)

theorem fixFor_guarded (rec : Record) (r : Release) (s : State) : AxisGuarded s (fixFor rec r s) := by
  rw [fixFor]
  rcases fixProfile s.items rec.track s.traj.wrapOffset r with g | ⟨p, _ | late⟩
  · exact endMotion_guarded ..
  · exact enterMotion_guarded ..
  · exact (enterMotion_guarded (.slewing p) s).trans (.of_blocks (report_axis ..) (by rw [beginProfile, report_traj])
      (by rw [beginProfile, report_hold]))

/-- A slew start fills the settle record, and its motion sets the brake timer (R161, R165). -/
theorem slewStartFor_guarded (rec : Record) (t d : Nat) (s : State) : AxisGuarded s (slewStartFor rec t d s) := by
  have timed : ∀ (u : State) x, AxisGuarded u (u.withAxis { u.axis with brakeTimer := x }) := fun _ _ =>
    .of_fields rfl rfl rfl rfl ⟨rfl, rfl, rfl⟩
  have base : AxisGuarded s (slewBase rec t d s) := .of_fields rfl rfl rfl rfl ⟨rfl, rfl, rfl⟩
  have moves : ∀ u, AxisGuarded u (slewMotion rec t d u) := fun u => by
    simp only [slewMotion]
    (repeat' split)
    · exact ((enterMotion_guarded _ u).trans (timed _ _)).trans (fixFor_guarded ..)
    · exact (enterMotion_guarded _ u).trans (timed _ _)
    · exact fixFor_guarded ..
  rw [slewStartFor_eq]
  exact (base.trans (moves _)).trans .of_blocks

theorem execRoundResult_guarded {s t : State} (he : execRoundResult s = .next t) : AxisGuarded s t := by
  simp only [execRoundResult, roundResult, succeed] at he
  (repeat' split at he) <;> cases he
  · exact skipAndReRound_guarded ..
  · exact .of_blocks
  · exact skipAndReRound_guarded ..
  · exact slewStartFor_guarded ..
  · exact .refl s

theorem execBrakeTimerExpiry_guarded {s t : State} (he : execBrakeTimerExpiry s = .next t) : AxisGuarded s t := by
  have cleared : AxisGuarded s (clearBrakeTimer s) := .of_fields rfl rfl rfl rfl ⟨rfl, rfl, rfl⟩
  simp only [execBrakeTimerExpiry, expireBrake] at he
  (repeat' split at he) <;> cases he
  · exact cleared.trans (fixFor_guarded ..)
  · exact cleared
  · exact .refl s

theorem endDwell_guarded (d : DwellRecord) (s : State) : AxisGuarded s (endDwell d s) := by
  have closed : AxisGuarded s (closeDwell d s) := .of_blocks
  simp only [endDwell]
  split
  · exact (closed.trans .of_blocks).trans (startRound_guarded ..)
  · exact closed

/-! ### The servo tick (R158) -/

theorem tickOnRecord_guarded {t : Nat} {s : State} {w : TickWork} (h : tickOnRecord t s = some w) :
    AxisGuarded s w.state := by
  obtain ⟨rec, -, rfl⟩ := Option.map_eq_some_iff.mp h
  exact .of_blocks (trackingTick_axis ..) (trackingTick_motion ..)

/-- The work of a tick changes the mode, at a motion end, at A and at the end of a stop, with the outputs settled. -/
theorem tickWork_guarded {t : Nat} {s : State} {w : TickWork} (h : tickWork t s = some w) : AxisGuarded s w.state := by
  have plain : ∀ u x, AxisGuarded u (plainTick u x).state := fun _ _ => .of_blocks rfl rfl rfl
  simp only [tickWork] at h
  cases hm : s.traj.motion <;> simp only [hm] at h
  case slewing p =>
    simp only [slewingTick] at h
    split at h
    · cases h
      exact plain ..
    · exact (endMotion_guarded ..).trans (tickOnRecord_guarded h)
  case settling =>
    split at h
    · exact (enterMotion_guarded .tracking s).trans (tickOnRecord_guarded h)
    · exact tickOnRecord_guarded h
  case tracking => exact tickOnRecord_guarded h
  case stopping p =>
    cases h
    simp only [stoppingTick]
    split
    · exact plain ..
    · exact (enterMotion_guarded _ s).trans (plain ..)
  all_goals cases h; exact plain ..

theorem closeTick_guarded (good : Bool) (n : Nat) (m : Motion) (l : List TickEvent) (u : State) :
    AxisGuarded u (closeTick good n m l u) := by
  have encoder : AxisGuarded u (reportEncoder good n u) := by
    rw [reportEncoder]
    (repeat' split)
    · exact raiseCause_guarded ..
    · exact endCause_guarded ..
    · exact .refl u
  have following : ∀ s, AxisGuarded s (reportFollowing m s) := fun s => by
    rw [reportFollowing]
    (repeat' split)
    · exact raiseCause_guarded ..
    · exact endCause_guarded ..
    · exact .refl s
  exact (encoder.trans (following _)).trans (.foldl (fun _ _ => .of_blocks) l _)

/-- Steps 3, 5 and 6 leave the outputs and what they follow. -/
theorem countedTick_outputsSafe {t : Nat} {good : Option Int} {w : TickWork} (h : w.state.OutputsSafe) :
    (countedTick t good w).OutputsSafe := by
  have enable : (countedTick t good w).axis.driveEnable = w.state.axis.driveEnable := by cases good <;> rfl
  have brake : (countedTick t good w).axis.brakeApplied = w.state.axis.brakeApplied := by cases good <;> rfl
  have motion : (countedTick t good w).traj.motion = w.state.traj.motion := rfl
  have hold : (countedTick t good w).hold = w.state.hold := rfl
  rwa [State.OutputsSafe, enable, brake, motion, hold]

theorem pushEntry_length_le (e : TraceEntry) {ring : List TraceEntry} (h : ring.length ≤ 256) :
    (pushEntry e ring).length ≤ 256 := by
  rw [pushEntry_eq e h, List.length_drop, List.length_append, List.length_singleton]
  omega

theorem traceStep_ring_length_le (t : Nat) (e : TraceEntry) {a : AxisInterface} (h : a.ring.length ≤ 256) :
    (traceStep t e a).ring.length ≤ 256 := by
  have pushed := pushEntry_length_le e h
  simp only [traceStep, stopWhen]
  (repeat' split) <;> assumption

/-- The post-trigger count begins at 64 and falls (R168). -/
theorem traceStep_count_le (t : Nat) (e : TraceEntry) {a : AxisInterface} (h : ∀ n, a.phase = .postTrigger n → n ≤ 64)
    {n : Nat} (hn : (traceStep t e a).phase = .postTrigger n) : n ≤ 64 := by
  simp only [traceStep, stopWhen] at hn
  cases hp : a.phase <;> simp only [hp] at hn
  case postTrigger m =>
    have before := h m hp
    split at hn <;> cases hn
    omega
  case recording =>
    split at hn <;> cases hn
    exact le_refl 64
  case idle => cases hn
  case stopped => cases hn
  all_goals split at hn <;> cases hn

theorem TraceTold.bounded {n : Nat} {e : TraceEntry} {s t : State} (h : TraceTold s t (traceStep n e s.axis))
    (bounded : s.axis.TraceBounded) : t.axis.TraceBounded :=
  ⟨h.ring ▸ traceStep_ring_length_le n e bounded.ring, fun _ hn => traceStep_count_le n e bounded.count (h.phase ▸ hn)⟩

theorem execServoTick_guarded {r : EncoderReply} {s t : State} (he : execServoTick r s = .next t) :
    AxisGuarded s t := by
  simp only [execServoTick, tickAt] at he
  (repeat' split at he) <;> cases he
  · exact .of_fields rfl rfl rfl rfl ⟨rfl, rfl, rfl⟩
  · rename_i hn
    obtain ⟨w, hw, rfl⟩ := Option.map_eq_some_iff.mp hn
    obtain ⟨l, -, hl⟩ := countAndFinish_eq s.time.nextTick (goodPosition r) w
    have worked : AxisGuarded s w.state :=
      .trans (t := sampled r s) (.of_fields rfl rfl rfl rfl ⟨rfl, rfl, rfl⟩) (tickWork_guarded hw)
    refine ⟨fun h => ?_, (countAndFinish_traceTold hw).bounded⟩
    rw [hl]
    exact (closeTick_guarded ..).outputs (countedTick_outputsSafe (worked.outputs h))
  · exact .refl s

/-! ### Frames heard -/

section
variable {s : State}

theorem refused_guarded (r : Reason) (code : Nat) : AxisGuarded s (refused r code s).state := .of_blocks

theorem hear_guarded {k : FrameClass} {o : Origin} {p : List Byte} {owner : State → Judged}
    (h : AxisGuarded s (owner s).state) : AxisGuarded s (hear k o p owner s) :=
  hear_keeps (P := AxisGuarded s) (fun _ _ hu => ⟨hu.outputs, hu.trace⟩) (.refl s) h

theorem hearCommand_guarded {code len : Nat} {o : Origin} {args : List Byte} {owner : State → Judged}
    (h : AxisGuarded s (owner s).state) : AxisGuarded s (hearCommand code len o args owner s) := by
  refine hear_guarded ?_
  split
  · exact h
  · exact refused_guarded ..

theorem gateEstop_guarded {code : Nat} {owner : State → Judged} (h : AxisGuarded s (owner s).state) :
    AxisGuarded s (gateEstop code owner s).state := by
  rw [gateEstop]
  split
  · exact refused_guarded ..
  · exact h

theorem withEpoch_guarded {code : Nat} {args : List Byte} {owner : Nat → State → Judged}
    (h : ∀ e, AxisGuarded s (owner e s).state) : AxisGuarded s (withEpoch code args owner s).state := by
  rw [withEpoch]
  split
  · exact refused_guarded ..
  · exact gateEstop_guarded (h _)

end

/-! ### The owners' decisions -/

section
variable (s : State)

theorem judgeHold_guarded (o : Origin) (p : List Byte) : AxisGuarded s (judgeHold o p s).state := by
  simp only [judgeHold]
  (repeat' split)
  any_goals exact .refl s
  exact .trans .of_blocks (takeHold_guarded false (s.withHold _))

theorem judgeRoll_guarded (p : List Byte) : AxisGuarded s (judgeRoll p s).state := by
  simp only [judgeRoll, judgeGoRoll, judgeSkipRoll]
  (repeat' split) <;> exact .of_blocks

theorem judgePropose_guarded (o : Origin) (p : List Byte) : AxisGuarded s (judgePropose o p s).state := by
  simp only [judgePropose]
  (repeat' split) <;> exact .of_blocks

theorem judgeAbandon_guarded (p : List Byte) : AxisGuarded s (judgeAbandon p s).state := by
  simp only [judgeAbandon]
  (repeat' split) <;> exact .of_blocks

theorem judgeGuide_guarded (p : List Byte) : AxisGuarded s (judgeGuide p s).state := by
  simp only [judgeGuide, takeGuide_eq]
  (repeat' split) <;> exact .of_blocks

theorem judgeTimeSet_guarded (p : List Byte) : AxisGuarded s (judgeTimeSet p s).state := by
  simp only [judgeTimeSet]
  (repeat' split) <;> exact .of_blocks

theorem judgeConfig_guarded (p : List Byte) : AxisGuarded s (judgeConfig p s).state := by
  simp only [judgeConfig]
  (repeat' split)
  case h_2 => exact .of_blocks rfl rfl rfl
  all_goals exact .of_blocks

theorem judgePlanHead_guarded (p : List Byte) : AxisGuarded s (judgePlanHead p s).state := by
  simp only [judgePlanHead, judgeHeader, takeHeader]
  (repeat' split) <;> exact .of_blocks

theorem judgePlanSeg_guarded (p : List Byte) : AxisGuarded s (judgePlanSeg p s).state := by
  simp only [judgePlanSeg, judgeOpenSegment, finishIntake, storeSegment]
  (repeat' split) <;> exact .of_blocks

theorem judgeStart_guarded : AxisGuarded s (judgeStart s).state := by
  rw [judgeStart]
  split
  · exact refused_guarded ..
  · exact .trans .of_blocks (retakeCauses_guarded _)

/-- RESTART brings the axis onto its brake (R178). -/
theorem judgeRestart_guarded : AxisGuarded s (judgeRestart s).state := by
  have braked : AxisGuarded s (enterMotion .braked (clearedBlocks s)) :=
    .of_settled (settleOutputs_outputsSafe _) ⟨rfl, rfl, rfl⟩
  rw [judgeRestart]
  split
  · exact braked.trans (retakeCauses_guarded _)
  · exact refused_guarded ..

theorem judgeGo_guarded (e : Nat) : AxisGuarded s (judgeGo e s).state := by
  rw [judgeGo]
  split <;> exact .of_blocks

theorem judgeBreak_guarded (e : Nat) : AxisGuarded s (judgeBreak e s).state := by
  rw [judgeBreak]
  split <;> exact .of_blocks

theorem judgeReturn_guarded (e : Nat) : AxisGuarded s (judgeReturn e s).state := by
  rw [judgeReturn]
  split <;> exact .of_blocks

theorem addressOffset_guarded (args : List Byte) : AxisGuarded s (addressOffset args s).state := by
  have judged : ∀ v, AxisGuarded s (judgeOffset v s).state := fun v => by
    rw [judgeOffset]
    split
    · exact .of_blocks rfl rfl rfl
    · exact refused_guarded ..
  rw [addressOffset]
  (repeat' split)
  · exact refused_guarded ..
  · exact gateEstop_guarded (judged _)
  · exact .refl s

theorem judgePlanClear_guarded : AxisGuarded s (judgePlanClear s).state := by
  rw [judgePlanClear]
  split <;> exact .of_blocks

theorem judgeStatusReq_guarded (args : List Byte) : AxisGuarded s (judgeStatusReq args s).state := by
  simp only [judgeStatusReq, sendStatus]
  (repeat' split) <;> exact .of_blocks

/-- TRACE_SET empties the ring and begins no post-trigger count (R170). -/
theorem judgeTraceSet_guarded (args : List Byte) : AxisGuarded s (judgeTraceSet args s).state := by
  have begun : ∀ n m, phaseOfMode m ≠ .postTrigger n := fun n m => by cases m <;> nofun
  rw [judgeTraceSet]
  split
  · exact refused_guarded ..
  · exact gateEstop_guarded ⟨id, fun _ => ⟨Nat.zero_le _, fun n hn => absurd hn (begun n _)⟩⟩

theorem judgeTraceRead_guarded (args : List Byte) : AxisGuarded s (judgeTraceRead args s).state := by
  have sent : ∀ u x, AxisGuarded u (sendTraceData u x) := fun _ _ => .of_blocks (by simp [sendTraceData])
    (by simp [sendTraceData]) (by simp [sendTraceData])
  rw [judgeTraceRead]
  (repeat' split)
  · exact refused_guarded ..
  · exact refused_guarded ..
  · exact .foldl sent _ s

theorem completeRoll_guarded (x : Reception) (slots : BitVec 15) : AxisGuarded s (completeRoll x slots s) := by
  simp only [completeRoll, recordGo, recordSkip]
  (repeat' split) <;> exact .of_blocks

end

/-! ### The commands -/

/-- After a hard reset the axis is on its brake, and the ring is empty (R157, R172). -/
theorem execHardReset_guarded {a : BitVec 4} {r : BitVec 3} {s t : State} (he : exec (.hardReset a r) s = .next t) :
    AxisGuarded s t := by
  cases he
  exact ⟨fun _ => ⟨rfl, rfl⟩, fun _ => reset_traceBounded⟩

theorem exec_guarded {c : Instr} {s t : State} (he : exec c s = .next t) : AxisGuarded s t := by
  have same : AxisGuarded s s := .refl s
  cases c
  case hardReset => exact execHardReset_guarded he
  case servoTick => exact execServoTick_guarded he
  case roundResult => exact execRoundResult_guarded he
  case brakeTimerExpiry => exact execBrakeTimerExpiry_guarded he
  all_goals cases he
  case ppsEdge => exact (edgeByState_guarded s).trans .of_blocks
  case unitCorrection => split <;> exact .of_blocks
  case correctionSecondEnd => split <;> exact .of_blocks
  case regainRunMiss => split <;> exact .of_blocks
  case expectedSecondJudgement =>
    simp only [judgeExpected, enterCoast]
    (repeat' split) <;> exact .of_blocks
  case linkSecondClose => split; exacts [closeSecond_guarded s, same]
  case driveFaultAsserted => exact .trans (t := setDriveFault true s) (.of_blocks rfl rfl rfl) (raiseCause_guarded ..)
  case driveFaultDeasserted => exact .trans (t := setDriveFault false s) (.of_blocks rfl rfl rfl) (endCause_guarded ..)
  case emergencyStopAsserted => exact .trans (t := setEstop true s) (.of_blocks rfl rfl rfl) (raiseCause_guarded ..)
  case emergencyStopDeasserted => exact .trans (t := setEstop false s) (.of_blocks rfl rfl rfl) (endCause_guarded ..)
  case holdRepeat =>
    simp only [repeatHold, startRepeat]
    (repeat' split) <;> exact .of_blocks
  case attemptStart => split <;> exact .of_blocks
  case attemptEnd => split <;> exact .of_blocks
  case txDeadline => exact .of_blocks
  case damagedFrame =>
    simp only [hearDamage]
    (repeat' split)
    · exact same
    · exact (closeSecond_guarded s).trans .of_blocks
    · exact .of_blocks
  case responseFieldReport => split; exacts [(completeRoll_guarded ..).trans (.of_blocks rfl rfl rfl), same]
  case intakeTimeout =>
    simp only [expireIntake]
    (repeat' split) <;> exact .of_blocks
  case pendingTriggerEpoch => split; exacts [.trans .of_blocks (startRound_guarded ..), same]
  case ownOutcome => split <;> exact .of_blocks
  case arrival => split <;> exact .of_blocks
  case dwellStart => split <;> exact .of_blocks
  case dwellEnd => split; exacts [endDwell_guarded .., same]
  case abandonEpoch => split; exacts [.trans .of_blocks (startRound_guarded ..), same]
  case unknownClassFrame => exact hear_guarded same
  case reportFrameHeard => exact hear_guarded same
  case hold => exact hear_guarded (judgeHold_guarded ..)
  case goRoll => exact hear_guarded (judgeRoll_guarded ..)
  case skipRoll => exact hear_guarded (judgeRoll_guarded ..)
  case propose => exact hear_guarded (judgePropose_guarded ..)
  case abandon => exact hear_guarded (judgeAbandon_guarded ..)
  case guide => exact hear_guarded (judgeGuide_guarded ..)
  case timeSet => exact hear_guarded (judgeTimeSet_guarded ..)
  case configItem => exact hear_guarded (judgeConfig_guarded ..)
  case planHead => exact hear_guarded (judgePlanHead_guarded ..)
  case planSeg => exact hear_guarded (judgePlanSeg_guarded ..)
  case commandUnknownCode => exact hear_guarded .of_blocks
  case start => exact hearCommand_guarded (gateEstop_guarded (judgeStart_guarded s))
  case go => exact hearCommand_guarded (withEpoch_guarded fun _ => judgeGo_guarded ..)
  case breakIn => exact hearCommand_guarded (withEpoch_guarded fun _ => judgeBreak_guarded ..)
  case returnTo => exact hearCommand_guarded (withEpoch_guarded fun _ => judgeReturn_guarded ..)
  case offset => exact hearCommand_guarded (addressOffset_guarded ..)
  case planClear => exact hearCommand_guarded (gateEstop_guarded (judgePlanClear_guarded s))
  case restart => exact hearCommand_guarded (gateEstop_guarded (judgeRestart_guarded s))
  case statusReq => exact hearCommand_guarded (judgeStatusReq_guarded ..)
  case traceSet => exact hearCommand_guarded (judgeTraceSet_guarded ..)
  case traceRead => exact hearCommand_guarded (judgeTraceRead_guarded ..)

/-- A step is a command on a state that differs only in what waits or was drawn, or a microsecond. -/
theorem step_guarded {s t : State} (he : step s = .next t) : AxisGuarded s t := by
  cases hp : s.pending with
  | cons c rest =>
    rw [step_of_waiting hp] at he
    exact .trans (t := s.withPending rest) .of_blocks (exec_guarded he)
  | nil =>
    rw [step_of_empty hp] at he
    cases hd : due s with
    | none =>
      rw [idle_of_none hd] at he
      cases he
      exact .of_blocks rfl rfl rfl
    | some c =>
      rw [idle_of_due hd] at he
      have drawn : AxisGuarded s (drawReply c s) := by
        simp only [drawReply]
        split <;> exact .of_blocks
      exact drawn.trans (exec_guarded he)

end Sys2Proof.Machine

namespace Sys2Proof.Proofs
open Sys2Proof.Machine

/-- Settles O14: every operation that moves the mode or a line cause settles the outputs. -/
theorem outputsFollowModeAndLines : Obligations.OutputsFollowModeAndLines := fun _ _ safe he =>
  (step_guarded he).outputs safe

/-- Settles O17: the ring grows only at a tick, by `pushEntry`, and the count begins at 64. -/
theorem traceStaysBounded : Obligations.TraceStaysBounded := fun _ _ bounded he => (step_guarded he).trace bounded

end Sys2Proof.Proofs
end

section
/-! The settle record at a tick: counted in SETTLING and TRACKING and judged from A, with the events SETTLED and
SETTLE_LATE (R165, R166); hence O38. -/

namespace Sys2Proof.Machine

/-! ### Counting and judging (R165, R166) -/

section
variable (c : Items) (counts good : Bool) (fe : Int) (t : Nat) (r : SettleRecord)

/-- Counting moves the counter and the settled mark alone. -/
theorem countSettle_eq :
    countSettle c good fe r =
      { r with counter := (countSettle c good fe r).counter, settled := (countSettle c good fe r).settled } := by
  simp only [countSettle]
  (repeat' split) <;> rfl

/-- The judgement sets the judged mark alone. -/
theorem judgeArrival_eq : judgeArrival t r = { r with judged := r.judged || decide (r.arrival ≤ t) } := by
  rw [judgeArrival]
  cases hj : r.judged <;> by_cases ha : r.arrival ≤ t <;> simp [ha, ← hj]

theorem tickSettle_eq :
    tickSettle c counts good fe t r =
      { r with
        counter := (tickSettle c counts good fe t r).counter, settled := (tickSettle c counts good fe t r).settled
        judged := r.judged || decide (r.arrival ≤ t) } := by
  simp only [tickSettle, judgeArrival_eq]
  cases counts
  · rfl
  · rw [if_pos rfl, countSettle_eq]

theorem tickSettle_judged :
    (tickSettle c counts good fe t r).judged = true ↔ r.judged = true ∨ r.arrival ≤ t := by
  rw [tickSettle_eq, Bool.or_eq_true, decide_eq_true_iff]

theorem tickSettle_counter :
    (tickSettle c counts good fe t r).counter =
      if counts = true ∧ r.settled = false then
        if good = true ∧ |fe| ≤ (c.settleWindow : Int) then r.counter + 1 else 0
      else r.counter := by
  simp only [tickSettle, judgeArrival_eq]
  cases counts
  · simp
  · cases hs : r.settled <;> simp [countSettle, hs, apply_ite SettleRecord.counter]

end

/-- The whole of R165 at a tick, for the record `r` that becomes `r'`. -/
structure SettleCounted (counts near : Prop) (needed : Nat) (r r' : SettleRecord) : Prop where
  within : counts → near → r'.counter = r.counter + 1 ∧ (r'.settled = true ↔ needed ≤ r.counter + 1)
  beyond : counts → ¬near → r'.counter = 0 ∧ r'.settled = false
  kept : ¬counts → r'.counter = r.counter ∧ r'.settled = r.settled

theorem tickSettle_counted (c : Items) (counts good : Bool) (fe : Int) (t : Nat) (r : SettleRecord) :
    SettleCounted (counts = true ∧ r.settled = false) (good = true ∧ |fe| ≤ (c.settleWindow : Int)) c.settleCount r
      (tickSettle c counts good fe t r) := by
  have counter := tickSettle_counter c counts good fe t r
  have settled := tickSettle_settled c counts good fe t r
  refine ⟨fun hc hn => ⟨?_, ?_⟩, fun hc hn => ⟨?_, ?_⟩, fun hc => ⟨?_, ?_⟩⟩
  · rw [counter, if_pos hc, if_pos hn]
  · rw [settled]
    simp [hc, hn]
  · rw [counter, if_pos hc, if_neg hn]
  · rw [Bool.eq_false_iff, ne_eq, settled, hc.2]
    tauto
  · rw [counter, if_neg hc]
  · rw [Bool.eq_iff_iff, settled]
    cases hs : r.settled
    · rw [hs] at hc
      tauto
    · simp

/-! ### The record through a tick -/

theorem countedWork_settle (t : Nat) (good : Option Int) (w : TickWork) :
    (countedWork t good w).axis.settle =
      w.state.axis.settle.map
        (tickSettle w.state.items (tracks w.state.traj.motion) good.isSome w.state.axis.fe t) := by
  cases good <;> rfl

theorem countedTick_settle (t : Nat) (good : Option Int) (w : TickWork) :
    (countedTick t good w).axis.settle = (countedWork t good w).axis.settle := rfl

/-- A following error is within 32 bits, so its value field holds it (R43, R163). -/
theorem valueS_followingError (last : Option Int) (encoder : Int) :
    valueS (followingError last encoder) = BitVec.ofInt 32 (followingError last encoder) := by
  have fits : sat32 (followingError last encoder) = followingError last encoder := by
    cases last with
    | none => rfl
    | some p =>
      simp only [followingError, sat32]
      omega
  rw [valueS, fits]

/-! ### The events (R165, R166) -/

section
variable {b a : SettleRecord} {fe : Int} {t : Nat}

theorem settled_mem_settleEvents (now : a.settled = true) (before : b.settled = false) :
    ⟨.settled, a.seq, valueU t⟩ ∈ settleEvents (some b) (some a) fe t := by
  simp [settleEvents, now, before]

theorem settleLate_mem_settleEvents (unsettled : a.settled = false) (now : a.judged = true)
    (before : b.judged = false) : ⟨.settleLate, a.seq, valueS fe⟩ ∈ settleEvents (some b) (some a) fe t := by
  simp [settleEvents, unsettled, now, before]

end

section
variable {reply : EncoderReply} {s : State} {w : TickWork}
  (hw : tickWork s.time.nextTick (sampled reply s) = some w)
include hw

/-- With room for all of them, each event of a tick is queued. -/
theorem countAndFinish_queued {x : TickEvent} (hx : x ∈ tickEvents s.time.nextTick (goodPosition reply) w)
    (enabled : Enabled s x.kind) (room : Room s 8) :
    Queued (countAndFinish s.time.nextTick (goodPosition reply) w) (eventFrame s x.kind x.seq x.value)
      (s.now + 1000000) := by
  have counted := countedTick_counted hw
  have now : (countedTick s.time.nextTick (goodPosition reply) w).now = s.now := by simp [State.now, counted.time]
  have length := counted.joins.length
  have events := tickEvents_length s.time.nextTick (goodPosition reply) w
  have told := closeTick_queued (good := (goodPosition reply).isSome) (n := w.state.axis.goodRun)
    (m := w.state.traj.motion) hx (by rwa [Enabled, State.items, counted.conf]) (by rw [Room] at room; omega)
  rwa [← countAndFinish_parts, now, eventFrame, counted.conf] at told

/-- The settle record of a tick's work, of the record that the tick finds. -/
theorem countedWork_settle_some {r : SettleRecord} (hr : s.axis.settle = some r) :
    (countedWork s.time.nextTick (goodPosition reply) w).axis.settle =
      some (tickSettle s.items (tracks w.state.traj.motion) (goodPosition reply).isSome w.state.axis.fe
        s.time.nextTick r) := by
  have items : w.state.items = s.items := by rw [State.items, tickWork_conf _ _ _ hw]; rfl
  have settle : w.state.axis.settle = s.axis.settle := by rw [tickWork_outputsOnly hw]; rfl
  rw [countedWork_settle, settle, hr, items]
  rfl

/-- The events of the settle record are events of the tick. -/
theorem settleEvents_subset_tickEvents {r : SettleRecord} (hr : s.axis.settle = some r) :
    settleEvents (some r) (some (tickSettle s.items (tracks w.state.traj.motion) (goodPosition reply).isSome
        w.state.axis.fe s.time.nextTick r)) w.state.axis.fe s.time.nextTick ⊆
      tickEvents s.time.nextTick (goodPosition reply) w := by
  have settle : w.state.axis.settle = some r := by rw [tickWork_outputsOnly hw]; exact hr
  have fe : (countedWork s.time.nextTick (goodPosition reply) w).axis.fe = w.state.axis.fe :=
    (countAxis_counts _ _ _ _ _ _).2.2.1
  rw [tickEvents, settle, countedWork_settle_some hw hr, fe]
  exact List.subset_append_left _ _

/-- Where no cause is raised or ended, the record counted is the one held. -/
theorem countAndFinish_settle {r : SettleRecord} (hr : s.axis.settle = some r) (live : s.conf.life ≠ .strapFault)
    (hc : (countAndFinish s.time.nextTick (goodPosition reply) w).hold.causes = s.hold.causes) :
    (countAndFinish s.time.nextTick (goodPosition reply) w).axis.settle =
      some (tickSettle s.items (tracks w.state.traj.motion) (goodPosition reply).isSome w.state.axis.fe
        s.time.nextTick r) := by
  have counted := countedTick_counted hw
  rw [countAndFinish_parts] at hc ⊢
  rw [closeTick_unchanged (counted.conf ▸ live) (hc.trans (congrArg HoldLogic.causes counted.hold.symm)),
    composeEvents_axis, countedTick_settle, countedWork_settle_some hw hr]

end

end Sys2Proof.Machine

namespace Sys2Proof.Proofs
open Sys2Proof.Machine

/-- Settles O38: the record of the tick is that of `tickSettle`, its events are those of step 3. -/
theorem settlingAndArrivalAreFound : Obligations.SettlingAndArrivalAreFound := by
  intro reply s r h hr
  obtain ⟨w, hw, he⟩ := execServoTick_worked reply h
  have done := countAndFinish_done h.live hw
  have fe : w.state.axis.fe = followingError s.axis.lastSetpoint ((goodPosition reply).getD s.axis.lastEncoder) :=
    (tickWork_measures hw).fe
  have mode : tracks w.state.traj.motion = true ↔ s.modeAtTick = 1 ∨ s.modeAtTick = 2 := by
    rw [tracks_iff, tickWork_mode hw rfl, List.mem_pair]
  have counted := tickSettle_counted s.items (tracks w.state.traj.motion) (goodPosition reply).isSome
    w.state.axis.fe s.time.nextTick r
  have judged := tickSettle_judged s.items (tracks w.state.traj.motion) (goodPosition reply).isSome w.state.axis.fe
    s.time.nextTick r
  have kept := tickSettle_eq s.items (tracks w.state.traj.motion) (goodPosition reply).isSome w.state.axis.fe
    s.time.nextTick r
  have held := countAndFinish_settle hw hr h.live
  have told := settleEvents_subset_tickEvents hw hr
  have queued := fun x => countAndFinish_queued hw (x := x)
  generalize tickSettle s.items (tracks w.state.traj.motion) (goodPosition reply).isSome w.state.axis.fe
    s.time.nextTick r = r' at counted judged kept held told
  have seq : r'.seq = r.seq := by rw [kept]
  have arrival : r'.arrival = r.arrival := by rw [kept]
  rw [mode] at counted
  refine ⟨_, r', he, seq, arrival, held, ?_, judged, fun now before enabled room => ?_,
    fun unsettled before due enabled room => ?_⟩
  · rw [done.fe]
    exact ⟨counted.within, counted.beyond, counted.kept⟩
  · rw [← seq]
    exact queued _ (told (settled_mem_settleEvents now before)) enabled room
  · rw [done.fe, fe, ← valueS_followingError, ← fe, ← seq]
    exact queued _ (told (settleLate_mem_settleEvents unsettled (judged.mpr (.inr due)) before)) enabled room

end Sys2Proof.Proofs
end

section
/-! The life state and the straps through every step (R172, R174, R177); hence O9. -/

namespace Sys2Proof.Machine

/-- What becomes of the configuration block where no hard reset is taken: the straps stay, RUN and STRAP_FAULT stay,
RUN keeps its items, and START alone leads from CONFIG to RUN. -/
structure ConfigBlock.LifeStep (starts : Bool) (b b' : ConfigBlock) : Prop where
  straps : b'.straps = b.straps
  run : b.life = .run → b'.life = .run ∧ b'.items = b.items
  strapFault : b.life = .strapFault → b'.life = .strapFault
  config : b.life = .config → b'.life = .config ∨ (b'.life = .run ∧ starts = true)

/-! ### The straps (R172) -/

section
variable {k : FrameClass} {o : Origin} {p args : List Byte} {code len : Nat} {owner : State → Judged} {s : State}

theorem hear_straps (h : (owner s).state.conf.straps = s.conf.straps) :
    (hear k o p owner s).conf.straps = s.conf.straps :=
  hear_keeps (P := fun u => u.conf.straps = s.conf.straps) (fun _ _ hu => hu) rfl h

@[simp] theorem refuse_straps (r : Reason) (k : FrameClass) (third : Nat) (e : EventKind) (q : Nat) (s : State) :
    (refuse r k third e q s).conf.straps = s.conf.straps :=
  (refuse_planKept ..).straps

theorem refused_straps (r : Reason) (n : Nat) (s : State) : (refused r n s).state.conf.straps = s.conf.straps :=
  refuse_straps ..

theorem hearCommand_gateEstop_straps (h : (owner s).state.conf.straps = s.conf.straps) :
    (hearCommand code len o args (gateEstop code owner) s).conf.straps = s.conf.straps := by
  refine hear_straps ?_
  simp only [gateEstop]
  (repeat' split)
  · exact refused_straps ..
  · exact h
  · exact refused_straps ..

end

section
variable (o : Origin) (p : List Byte) (s : State)

theorem judgeConfig_straps : (judgeConfig p s).state.conf.straps = s.conf.straps := by
  simp only [judgeConfig]
  (repeat' split)
  any_goals exact refuse_straps ..
  rw [take_state, takeItem_conf, putItem_conf]

theorem judgeStart_straps : (judgeStart s).state.conf.straps = s.conf.straps := by
  simp only [judgeStart]
  split
  · exact refused_straps ..
  · exact (retakeCauses_planKept _).straps

theorem judgeRestart_straps : (judgeRestart s).state.conf.straps = s.conf.straps := by
  simp only [judgeRestart]
  split
  · exact (retakeCauses_planKept _).straps.trans (by simp [clearedBlocks])
  · exact refused_straps ..

theorem judgePlanClear_straps : (judgePlanClear s).state.conf.straps = s.conf.straps := by
  simp only [judgePlanClear]
  split
  · exact (report_planKept ..).straps
  · exact refused_straps ..

theorem judgePlanHead_straps : (judgePlanHead p s).state.conf.straps = s.conf.straps := by
  simp only [judgePlanHead, judgeHeader]
  (repeat' split) <;> simp [takeHeader]

theorem judgePlanSeg_straps : (judgePlanSeg p s).state.conf.straps = s.conf.straps := by
  simp only [judgePlanSeg, judgeOpenSegment, finishIntake]
  (repeat' split) <;> simp [storeSegment]

theorem judgePropose_straps : (judgePropose o p s).state.conf.straps = s.conf.straps := by
  simp only [judgePropose]
  (repeat' split) <;> simp

theorem judgeRoll_straps : (judgeRoll p s).state.conf.straps = s.conf.straps := by
  simp only [judgeRoll, judgeGoRoll, judgeSkipRoll]
  (repeat' split) <;> simp

end

theorem execRoundResult_straps {s t : State} (he : execRoundResult s = .next t) :
    t.conf.straps = s.conf.straps := by
  simp only [execRoundResult, roundResult, succeed, skipAndReRound] at he
  (repeat' split at he) <;> cases he <;> simp

/-- HARD_RESET alone reads the straps (R172). -/
theorem exec_straps {c : Instr} {s t : State} (hc : isHardReset c = false) (he : exec c s = .next t) :
    t.conf.straps = s.conf.straps := by
  cases c
  any_goals exact (exec_planKept rfl he).straps
  case hardReset => cases hc
  case roundResult => exact execRoundResult_straps he
  all_goals cases he
  case configItem => exact hear_straps (judgeConfig_straps ..)
  case start => exact hearCommand_gateEstop_straps (judgeStart_straps s)
  case restart => exact hearCommand_gateEstop_straps (judgeRestart_straps s)
  case planClear => exact hearCommand_gateEstop_straps (judgePlanClear_straps s)
  case planHead => exact hear_straps (judgePlanHead_straps ..)
  case planSeg => exact hear_straps (judgePlanSeg_straps ..)
  case propose => exact hear_straps (judgePropose_straps ..)
  case goRoll => exact hear_straps (judgeRoll_straps ..)
  case skipRoll => exact hear_straps (judgeRoll_straps ..)
  case intakeTimeout =>
    simp only [expireIntake]
    (repeat' split) <;> simp
  case responseFieldReport =>
    simp only [completeRoll, recordGo, recordSkip, endReception]
    (repeat' split) <;> simp
  case ownOutcome => split <;> simp
  case pendingTriggerEpoch => split <;> simp [fireTrigger]
  case dwellEnd =>
    simp only [endDwell]
    (repeat' split) <;> simp
  case abandonEpoch => split <;> simp [fireAbandon]

/-! ### The life state (R172, R177) -/

/-- START and HARD_RESET alone change the life state. -/
theorem exec_life {c : Instr} {s t : State} (hr : isHardReset c = false) (hs : isStart c = false)
    (he : exec c s = .next t) : t.conf.life = s.conf.life := by
  cases c
  case hardReset => cases hr
  case start => cases hs
  case configItem => cases he; exact (hear_held (judgeConfig_held ..)).life
  any_goals exact (exec_planKept rfl he).life
  all_goals exact (exec_clockKept rfl he).life

theorem judgeStart_life (s : State) :
    (judgeStart s).state.conf.life = s.conf.life ∨ (judgeStart s).state.conf.life = .run := by
  simp only [judgeStart]
  split
  · exact .inl (refused_planKept ..).life
  · exact .inr (retakeCauses_planKept _).life

/-- START is refused, and the life state kept, or it enters RUN (R177). -/
theorem execStart_life {o : Origin} {args : List Byte} {s t : State} (he : exec (.start o args) s = .next t) :
    t.conf.life = s.conf.life ∨ t.conf.life = .run := by
  cases he
  refine hear_keeps (P := fun u => u.conf.life = s.conf.life ∨ u.conf.life = .run) (fun _ _ hu => hu) (.inl rfl) ?_
  simp only [gateEstop]
  (repeat' split)
  · exact .inl (refuseCommand_life ..)
  · exact judgeStart_life s
  · exact .inl (refuseCommand_life ..)

/-- In STRAP_FAULT no START is heard (R34). -/
theorem execStart_strapFault {o : Origin} {args : List Byte} {s t : State} (hl : s.conf.life = .strapFault)
    (he : exec (.start o args) s = .next t) : t = s := by
  cases he
  exact hear_silent _ _ _ _ _ hl

/-! ### Every command, and every step -/

theorem exec_lifeStep {c : Instr} {s t : State} (hr : isHardReset c = false) (he : exec c s = .next t) :
    s.conf.LifeStep (isStart c) t.conf where
  straps := exec_straps hr he
  run := fun hl =>
    have life := exec_stays_in_run hr hl he
    ⟨life, exec_items_in_run he life hr⟩
  strapFault := fun hl => by
    cases c
    case start => rw [execStart_strapFault hl he, hl]
    all_goals exact (exec_life hr rfl he).trans hl
  config := fun hl => by
    cases c
    case start => exact (execStart_life he).imp (·.trans hl) fun h => ⟨h, rfl⟩
    all_goals exact .inl ((exec_life hr rfl he).trans hl)

/-- Mount time brings about no START (log 1). -/
theorem isStart_of_due {s : State} {c : Instr} (h : due s = some c) : isStart c = false := by
  have hm := mem_schedule_of_due h
  cases c
  case start => simp [schedule] at hm
  all_goals rfl

theorem drawReply_conf (c : Instr) (s : State) : (drawReply c s).conf = s.conf := by
  simp only [drawReply]
  split <;> rfl

theorem step_lifeStep {s t : State} (hf : frontIs isHardReset s = false) (he : step s = .next t) :
    s.conf.LifeStep (frontIs isStart s) t.conf := by
  cases hp : s.pending with
  | cons c rest =>
    rw [step_of_waiting hp] at he
    simp only [frontIs, hp] at hf ⊢
    exact exec_lifeStep (s := s.withPending rest) hf he
  | nil =>
    rw [step_of_empty hp] at he
    simp only [frontIs, hp]
    cases hd : due s with
    | none =>
      rw [idle_of_none hd] at he
      cases he
      exact ⟨rfl, fun hl => ⟨hl, rfl⟩, id, .inl⟩
    | some c =>
      rw [idle_of_due hd] at he
      have taken := exec_lifeStep (isHardReset_of_due hd) he
      rwa [isStart_of_due hd, drawReply_conf] at taken

end Sys2Proof.Machine

namespace Sys2Proof.Proofs
open Sys2Proof.Machine

/-- Settles O9: the step is a command, which keeps the life state unless it is START, or a microsecond, which keeps the
configuration block. -/
theorem lifeStateChangesOnlyByStartAndReset : Obligations.LifeStateChangesOnlyByStartAndReset := by
  intro s t hf he
  obtain ⟨straps, run, strapFault, config⟩ := step_lifeStep hf he
  exact ⟨straps, run, strapFault, config⟩

end Sys2Proof.Proofs
end
